-- ==== Sys2Proof/Word.lean ====
section
/-!
DEFINITION. The word types of the ZH842 and the plain index types of its sites, taps, slots and channels
(00_scope.md, "Naming conventions" and "Units and number conventions").
-/

namespace Sys2Proof

/-- One byte lane of the bus, or one byte of a link. -/
abbrev Byte := BitVec 8

/-- A half-word: a window offset, a 16-bit count, a raw slice value. -/
abbrev Half := BitVec 16

/-- A bus word of 32 bits, little-endian byte lanes. -/
abbrev Word := BitVec 32

/-- A site ordinal, 0..9: D0..D7 are 0..7, G0 and G1 are 8 and 9. A module has its site's ordinal. -/
abbrev SiteId := Fin 10

/-- A tap id, 0..19: IN(Dk) is k, OUT(Dk) is 8+k, ADD(Gg) is 16+g, DROP(Gg) is 18+g. -/
abbrev TapId := Fin 20

/-- A Ramp Slot number, 0..15. -/
abbrev SlotId := Fin 16

/-- A channel's handle, 0..255. -/
abbrev Handle := Fin 256

end Sys2Proof
end

