-- ==== Sys2Proof/Syntax.lean ====
section
/-!
DEFINITION. The commands of the ZH842: one constructor per row of spec/opcode_table.json, with the operands the row's rule
gives it. The part has no instruction words; a command is an event at one of its interfaces.
-/

namespace Sys2Proof

/-- The two threshold cells of Table 12-1. -/
inductive ThresholdCell where
  | journal  -- offset 0x0008
  | wait     -- offset 0x000C
  deriving DecidableEq, Repr

/-- The three mask cells of Table 12-1. -/
inductive MaskCell where
  | b0  -- offset 0x0010
  | s0  -- offset 0x0014
  | s1  -- offset 0x0018
  deriving DecidableEq, Repr

/-- The sticky words of R171: one in the bridge status view, one in each site status view. -/
inductive StickyWord where
  | bridge
  | site (n : SiteId)
  deriving DecidableEq, Repr

/-- Direction of a controller cycle. -/
inductive BusDir where
  | read
  | write
  deriving DecidableEq, Repr

/-- One command of the part. Each constructor's docstring names its row's rule. -/
inductive Instr where
  /-- RESET_ASSERT, R180. `begun` is how many memory-bus cycles of the posting that holds the port had begun at the
  assertion; it is read only then (notes/assumptions/11.md). -/
  | resetAssert (begun : Nat)
  /-- RESET_RELEASE, R166: the value of the two window straps at the release. -/
  | resetRelease (straps : BitVec 2)
  /-- TICK, R1. -/
  | tick
  /-- GO, R61. -/
  | go (operand : BitVec 24)
  /-- HALT, R62 (the operand is ignored). -/
  | halt (operand : BitVec 24)
  /-- FREEZE, R63. -/
  | freeze (operand : BitVec 24)
  /-- THAW, R63. -/
  | thaw (operand : BitVec 24)
  /-- ENABLE, R157. -/
  | enable (operand : BitVec 24)
  /-- DISABLE, R162. -/
  | disable (operand : BitVec 24)
  /-- RELOAD, R158. -/
  | reload (operand : BitVec 24)
  /-- UNKNOWN_COMMAND, R60. -/
  | unknownCommand (code : Byte) (operand : BitVec 24)
  /-- CONSUMER_UPDATE, R185. -/
  | consumerUpdate (value : Word)
  /-- THRESHOLD_WRITE, R168. -/
  | thresholdWrite (cell : ThresholdCell) (value : Word)
  /-- MASK_WRITE, R168. -/
  | maskWrite (cell : MaskCell) (value : Word)
  /-- PROBE_WRITE, R169. -/
  | probeWrite (value : Word)
  /-- STICKY_WORD_READ, R171. -/
  | stickyWordRead (word : StickyWord) (enables : BitVec 4)
  /-- SUPPRESSED_WRITE, R170: a controller write at a window offset. -/
  | suppressedWrite (offset : Half) (enables : BitVec 4) (data : Word)
  /-- CONTROLLER_CYCLE, R167: any other controller cycle, by its 22 word-address lines. -/
  | controllerCycle (dir : BusDir) (address : BitVec 22) (enables : BitVec 4) (data : Word)
  /-- LOCK_ASSERT, R178. -/
  | lockAssert
  /-- LOCK_DEASSERT, R178. -/
  | lockDeassert
  /-- LOCK_BROKEN, R178. -/
  | lockBroken
  /-- ARBITER_GRANT, R176. -/
  | arbiterGrant
  /-- SETUP, R71. -/
  | setup
  /-- ADOPT, R72. -/
  | adopt
  /-- RETARGET, R73. -/
  | retarget
  /-- RELEASE, R74. -/
  | release
  /-- MARK, R75. -/
  | mark
  /-- BAD_KIND, R75. -/
  | badKind
  /-- IN_FLIGHT_REFUSAL, R76. -/
  | inFlightRefusal
  /-- SETUP_FETCH_COMPLETE, R156. -/
  | setupFetchComplete
  /-- POSTING_DRAIN, R172. -/
  | postingDrain
  /-- WALKER_POSTING_PLACE, R68. -/
  | walkerPostingPlace
  /-- HANDOVER_PLACE, R184. -/
  | handoverPlace
  /-- SCAN_BYTE, R38. -/
  | scanByte (b : Byte)
  /-- BYTE_GAP_EXPIRY, R40. -/
  | byteGapExpiry
  /-- STALE_TIMER_EXPIRY, R48. -/
  | staleTimerExpiry (tap : TapId)
  /-- ACK_RECEIVED, R115: the three bytes of an acknowledgement, and the link they arrive on. -/
  | ackReceived (link : SiteId) (module seq outcome : Byte)
  /-- ACK_TIMEOUT, R116. -/
  | ackTimeout (module : SiteId)
  /-- PACING_EXPIRY, R105. -/
  | pacingExpiry (slot : SlotId)
  /-- HOLD_OFF_EXPIRY, R149. -/
  | holdOffExpiry (site : SiteId)
  deriving DecidableEq, Repr

end Sys2Proof
end

