-- ==== Sys2Proof/Decode.lean ====
section
/-!
DEFINITION. The reading of a command from a word of bits. spec/opcode_table.json gives bits for none of its 40 rows
(every "fields" list is empty and no row has "fixed"), so no word spells a command (notes/assumptions/1.md).
-/

namespace Sys2Proof

/-- The command a word of `nbits` bits spells by the table's bits: none, for every word, since no row has bits. -/
def decodeTableWord (_nbits _w : Nat) : Option Instr := none

end Sys2Proof
end

