-- ==== Sys2Proof/Config.lean ====
section
/-!
DEFINITION. The free values: what the spec leaves without a value while the part goes on.
Each is a constant with no body, so nothing can be proved of the value it gives.
-/

namespace Sys2Proof.Config

/-- FREE VALUE (notes/assumptions/15.md). The byte a read answers on a byte lane whose enable is deasserted: "The value on
a byte lane whose byte enable is deasserted carries no meaning" (R169). The argument numbers the draw. -/
opaque idleLane : Nat → Byte

/-- FREE VALUE (notes/assumptions/16.md). The lock state code the bridge status view shows while the lock signal is
asserted and the lock waits for a part grant to end (R178, R181): neither in force, nor broken, nor not asserted. -/
opaque awaitingLockCode : Nat → Byte

end Sys2Proof.Config
end

