-- ==== Sys2Proof/Machine/Memory.lean ====
section
/-!
DEFINITION. The plan memory: a list of (address, byte) pairs in one canonical form, addresses strictly rising and no entry
equal to what an unlisted address reads as. Words are four byte lanes, byte 0 at the word's own address
(12_memory_visible_formats.md, introduction).
-/

namespace Sys2Proof.Machine

open Sys2Proof

/-- What a byte of SRAM that nothing has written reads as. DESIGN CHOICE, notes/assumptions/6.md: the spec gives the
SRAM no content. -/
def Memory.blank : Byte := 0

/-- The byte at an address. -/
def Memory.read : List Host.Cell → Nat → Byte
  | [], _ => Memory.blank
  | (b, v) :: m, a => if a = b then v else Memory.read m a

/-- Write one byte, keeping the canonical form. -/
def Memory.write : List Host.Cell → Nat → Byte → List Host.Cell
  | [], a, v => if v = Memory.blank then [] else [(a, v)]
  | (b, w) :: m, a, v =>
    if a < b then (if v = Memory.blank then (b, w) :: m else (a, v) :: (b, w) :: m)
    else if a = b then (if v = Memory.blank then m else (a, v) :: m)
    else (b, w) :: Memory.write m a v

/-- The canonical form holds. -/
def Memory.wf : List Host.Cell → Bool
  | [] => true
  | (a, v) :: m => decide (v ≠ Memory.blank) && m.all (fun c => decide (a < c.1)) && Memory.wf m

/-- Byte lane `i` of a word. -/
def lane (w : Word) (i : Nat) : Byte := (w >>> (8 * i)).setWidth 8

/-- A word from its four byte lanes, lane 0 first. -/
def ofLanes (b0 b1 b2 b3 : Byte) : Word := b3 ++ b2 ++ b1 ++ b0

/-- The word at an address. -/
def Memory.readWord (m : List Host.Cell) (a : Nat) : Word :=
  ofLanes (Memory.read m a) (Memory.read m (a + 1)) (Memory.read m (a + 2)) (Memory.read m (a + 3))

/-- Write the byte lanes of a word whose enables are asserted. -/
def Memory.writeLanes (m : List Host.Cell) (a : Nat) (enables : BitVec 4) (data : Word) : List Host.Cell :=
  let put (i : Nat) (m : List Host.Cell) := if enables.getLsbD i then Memory.write m (a + i) (lane data i) else m
  put 3 (put 2 (put 1 (put 0 m)))

/-- Write a whole word. -/
def Memory.writeWord (m : List Host.Cell) (a : Nat) (data : Word) : List Host.Cell :=
  Memory.writeLanes m a 0xF#4 data

/-- A word with the byte lanes whose enables are asserted taken from `new` (R174). -/
def mergeLanes (enables : BitVec 4) (old new : Word) : Word :=
  let pick (i : Nat) := if enables.getLsbD i then lane new i else lane old i
  ofLanes (pick 0) (pick 1) (pick 2) (pick 3)

/-- A 16-bit count that saturates at 65535 (R43, R170, R178, R182). -/
def satInc (c : Half) : Half := if c = 0xFFFF#16 then c else c + 1

end Sys2Proof.Machine
end

