-- ==== Sys2Proof/Machine/State.lean ====
section
/-!
DEFINITION. The state of the ZH842, block by block (00_scope.md, Table 0-1), as plain data, and the state right after
reset. The rule that names a field stands in its docstring; the reset value is that of `State.reset` at the end.
-/

namespace Sys2Proof.Machine

open Sys2Proof

/-! ### Channels, ends, transitions (Chapters 1, 5) -/

/-- An end of a channel (R3). -/
inductive End where
  | degree (i : Fin 8)
  | addPort (g : Fin 2) (p : Fin 12)
  | dropPort (g : Fin 2) (p : Fin 12)
  deriving DecidableEq, Repr

/-- Connection kinds (R4, Table 1-2). -/
inductive ConnKind where
  | express
  | add
  | drop
  deriving DecidableEq, Repr

/-- Channel states (R12). -/
inductive ChanState where
  | free
  | dark
  | rising
  | active
  | adjusting
  | falling
  deriving DecidableEq, Repr

/-- An attenuation setting: a whole number of tenths of a dB, or BLOCKED (R24). -/
inductive Setting where
  | blocked
  | att (a : Nat)
  deriving DecidableEq, Repr

/-- A level in dt, or NOLIGHT (R26). -/
inductive Level where
  | noLight
  | dt (t : Int)
  deriving DecidableEq, Repr

/-- Kinds of transition (Table 0-5). -/
inductive TransKind where
  | rise
  | restore
  | adjust
  | fall
  | adopt
  deriving DecidableEq, Repr

/-- What a channel's pending transition refers to: its one Wait List entry, or a Ramp Slot (R10). -/
inductive TransRef where
  | waiting
  | slot (k : SlotId)
  deriving DecidableEq, Repr

/-- A channel record (R6, Table 1-3). Its values are those of a FREE record (R7) unless given. -/
structure Channel where
  state : ChanState := .free
  kind : ConnKind := .express
  src : End := .degree 0
  dst : End := .degree 0
  first : Nat := 0
  count : Nat := 0
  /-- Target level L_t, dt. -/
  target : Int := 0
  applied : Setting := .blocked
  motion : Option Setting := none
  shutteredBy : Option SiteId := none
  underRange : Bool := false
  overRange : Bool := false
  noLightOut : Bool := false
  unconfirmed : Bool := false
  clamped : Bool := false
  pending : Option TransRef := none
  /-- Descriptor pointer: a pool offset. -/
  desc : Option Half := none
  deriving DecidableEq, Repr

/-- A slice-map entry or port cell (R18). -/
structure Entry where
  owner : Option Handle := none
  claimant : Option Handle := none
  deriving DecidableEq, Repr

/-- The name of an entry of a footprint (R19): a slice of a map, or a port cell. -/
inductive EntryRef where
  | slice (m : TapId) (n : Fin 320)
  | addCell (g : Fin 2) (p : Fin 12)
  | dropCell (g : Fin 2) (p : Fin 12)
  deriving DecidableEq, Repr

/-- A Wait List entry (R81). -/
structure WaitEntry where
  kind : TransKind
  handle : Handle
  desc : Option Half
  dest : SiteId
  restoreSite : Option SiteId := none
  preset : Option Nat := none
  skip : Nat := 0
  barrier : Bool := false
  deriving DecidableEq, Repr

/-- Drive states of a slot in use (R101, Table 6-1). PACING carries the countdown. -/
inductive Drive where
  | queued
  | sent
  | pacing (left : Nat)
  | stopped
  deriving DecidableEq, Repr

/-- A Ramp Slot in use (R79), with the Ramp Unit's drive state and takeover mark (R101). -/
structure Slot where
  kind : TransKind
  handle : Handle
  desc : Option Half
  dest : SiteId
  restoreSite : Option SiteId := none
  /-- Swing in nW, fixed at entry (R35). -/
  swing : Nat
  held : Bool
  drive : Drive
  takeover : Bool := false
  deriving DecidableEq, Repr

/-! ### Switch Link (Chapter 6) -/

/-- Input select of a setting message (R112). -/
inductive InputSel where
  | degree (i : Fin 8)
  | group (g : Fin 2)
  deriving DecidableEq, Repr

/-- Message classes (Table 6-4). -/
inductive MsgClass where
  | shutter
  | ramp
  | level
  deriving DecidableEq, Repr

/-- A setting message (R112, Table 6-4). -/
structure SettingMsg where
  module : SiteId
  seq : Byte
  first : Nat
  count : Nat
  input : InputSel
  port : Option (Fin 12)
  setting : Setting
  cls : MsgClass
  deriving DecidableEq, Repr

/-- Whom the answer of an outstanding message reaches: a slot (RAMP), a channel (LEVEL, bound SHUTTER), or nobody (a
detached message, R111, R117; an unbound shutter, R119). -/
inductive Binding where
  | slot (k : SlotId)
  | channel (h : Handle)
  | detached
  deriving DecidableEq, Repr

/-- The outstanding message of a module, with its ack timer (R114, R116). -/
structure Outstanding where
  msg : SettingMsg
  bind : Binding
  timer : Nat
  deriving DecidableEq, Repr

/-- A shutter-set entry (R118). -/
structure ShutterEntry where
  handle : Handle
  first : Nat
  count : Nat
  input : InputSel
  port : Option (Fin 12)
  bound : Bool
  deriving DecidableEq, Repr

/-- A setting-queue request (R117). -/
inductive Request where
  | ramp (slot : SlotId)
  | level (h : Handle) (a : Nat)
  deriving DecidableEq, Repr

/-- One module's side of the Switch Link (R113, R114, R117, R118). -/
structure Link where
  seq : Byte := 0
  out : Option Outstanding := none
  shutters : List ShutterEntry := []
  queue : List Request := []
  deriving DecidableEq, Repr

/-! ### Scan Receiver and Tap Store (Chapter 3) -/

/-- The Scan Receiver (R38, R43). The byte count of the frame is the buffer's length. -/
structure ScanRx where
  inFrame : Bool := false
  buffer : List Byte := []
  gapCount : Half := 0
  checkErrors : Half := 0
  deriving DecidableEq, Repr

/-- A tap record (R44, Table 3-3). -/
structure Tap where
  slices : Vector Half 320 := Vector.replicate 320 0x8000#16
  received : Bool := false
  lastSeq : Option Byte := none
  stale : Bool := false
  timer : Option Nat := none
  deriving DecidableEq, Repr

/-! ### Sites and conditions (Chapters 8, 9) -/

/-- Actions of a condition (Table 8-2). -/
inductive Action where
  | note
  | hold
  | shutter
  deriving DecidableEq, Repr

/-- The four conditions of a site, in the order of the condition index (R191). -/
inductive Cond where
  | inLos
  | inHigh
  | modFault
  | monStale
  deriving DecidableEq, Repr

/-- One copy of a site's parameters (R154, Table 9-3); the field values given are the defaults. -/
structure Params where
  step : Nat := 1
  pacing : Nat := 1
  il : Nat := 0
  budget : Nat := 1
  deadband : Nat := 0
  gain : Nat := 1
  lmin : Int := -300
  lmax : Int := 50
  los : Int := -500
  high : Int := 200
  staleLimit : Nat := 50
  holdOff : Nat := 0
  inLosAct : Action := .note
  inHighAct : Action := .note
  modFaultAct : Action := .note
  monStaleAct : Action := .note
  deriving DecidableEq, Repr

/-- Site states (R153). -/
inductive SiteState where
  | disabled
  | loading
  | enabled
  deriving DecidableEq, Repr

/-- Reload states (R153). -/
inductive ReloadState where
  | idle
  | fetching
  | swapPending
  deriving DecidableEq, Repr

/-- A site record (R153, Table 9-1). -/
structure Site where
  state : SiteState := .disabled
  active : Params := {}
  buffered : Option Params := none
  reload : ReloadState := .idle
  refetch : Bool := false
  setupClamped : Bool := false
  clampMask : Half := 0
  frozen : Bool := false
  deriving DecidableEq, Repr

/-- Live and sticky flag of one condition (R134). -/
structure CondFlag where
  live : Bool := false
  sticky : Bool := false
  deriving DecidableEq, Repr

/-- A condition record (R134, Table 8-1). -/
structure CondRec where
  inLos : CondFlag := {}
  inHigh : CondFlag := {}
  modFault : CondFlag := {}
  monStale : CondFlag := {}
  firstLos : Option Word := none
  lastLos : Option Word := none
  holdOff : Option Nat := none
  restoreDeferred : Bool := false
  deriving DecidableEq, Repr

/-- A setup burst that runs: the site it was granted for, the sixteen words as they stood at the grant, and whether a
DISABLE has abandoned its purpose (R156). -/
structure SetupBurst where
  site : SiteId
  words : Vector Word 16
  discard : Bool
  deriving DecidableEq, Repr

/-- The Site Store's fetch queue and running burst (R156). -/
structure SetupFetch where
  queue : List SiteId := []
  burst : Option SetupBurst := none
  deriving DecidableEq, Repr

/-! ### Journal and postings (Chapters 4, 10, 11) -/

/-- Descriptor outcomes (R56). -/
inductive Outc where
  | taken
  | waiting
  | done
  | cancelled
  | shuttered
  | refused
  deriving DecidableEq, Repr

/-- Refusal reasons (Table 4-2, Table 12-11). -/
inductive Reason where
  | badKind
  | badState
  | badEnd
  | siteOff
  | badRange
  | conflict
  | portBusy
  | pending
  | waitFull
  | noSlot
  | badField
  | inFlight
  deriving DecidableEq, Repr

/-- Chain-end reasons (R69). -/
inductive ChainEnd where
  | endOfChain
  | badLink
  | limit
  | halted
  deriving DecidableEq, Repr

/-- Record kinds (R186, Table 11-2). -/
inductive RecKind where
  | done
  | cancelled
  | refused
  | shuttered
  | restored
  | condRaised
  | condCleared
  | chainEnd
  | mark
  | lockBroken
  | site
  | gap
  deriving DecidableEq, Repr

/-- A journal record (11_journal_and_attention_line.md, section 11.5). -/
structure Record where
  kind : RecKind
  site : Option SiteId := none
  handle : Option Byte := none
  code : Byte := 0
  tick : Word
  tag : Option Word := none
  desc : Option Half := none
  detail : Half := 0
  deriving DecidableEq, Repr

/-- What a producer places in the Posting Queue (R56, R58, R184): a stamp or status word at a window offset, marked when
it belongs to a final outcome, or a record. -/
inductive Item where
  | word (addr : Half) (data : Word) (final : Bool)
  | record (r : Record)
  deriving DecidableEq, Repr

/-- A Posting Queue entry (R172): a word posting, or the four words of a record posting. -/
inductive Posting where
  | word (addr : Half) (data : Word) (final : Bool)
  | record (addr : Half) (w0 w1 w2 w3 : Word)
  deriving DecidableEq, Repr

/-- The Journal Writer's counts and hand-over list (R182). -/
structure Journal where
  produced : Half := 0
  consumer : Half := 0
  lost : Half := 0
  handOver : List Item := []
  deriving DecidableEq, Repr

/-- The two bridge stickies of the Attention Logic (R187). -/
structure Attn where
  chainEnd : Bool := false
  consumerBad : Bool := false
  deriving DecidableEq, Repr

/-! ### Request Walker (Chapter 4) -/

/-- Walker states (R65). -/
inductive WalkerState where
  | idle
  | fetching
  | deciding
  deriving DecidableEq, Repr

/-- The six words of a walker burst (R67). -/
structure Fetch where
  w0 : Word
  w1 : Word
  w2 : Word
  w3 : Word
  w4 : Word
  w5 : Word
  deriving DecidableEq, Repr

/-- The Request Walker (R65): `fetched` is the granted burst, `toPlace` the postings that wait for room (R68), `ending`
says that the end tests have been applied and the CHAIN_END record is what is left to place (R70). -/
structure Walker where
  state : WalkerState := .idle
  current : Option Half := none
  examined : Nat := 0
  halt : Bool := false
  heads : List Half := []
  fetched : Option Fetch := none
  toPlace : List Item := []
  ending : Bool := false
  deriving DecidableEq, Repr

/-! ### Memory path (Chapter 10) -/

/-- A controller cycle: 22 word-address lines, 4 byte enables, 32 data lines (Table 0-2). -/
structure BusCycle where
  dir : BusDir
  address : BitVec 22
  enables : BitVec 4
  data : Word
  deriving DecidableEq, Repr

/-- Burst requests (R176). -/
inductive Burst where
  | walker
  | setup
  deriving DecidableEq, Repr

/-- Who holds the port between commands (R181). A controller cycle is granted and made within one command. -/
inductive Holder where
  | none
  | walkerBurst
  | setupBurst
  | posting
  deriving DecidableEq, Repr

/-- The controller lock (R178); `awaiting` is a lock asserted while a part grant holds the port. -/
inductive LockState where
  | off
  | awaiting
  | inForce
  | broken
  deriving DecidableEq, Repr

/-- The Memory Port Arbiter (R176, R177, R178). -/
structure Port where
  holder : Holder := .none
  waiting : List BusCycle := []
  requests : List Burst := []
  fairness : Nat := 0
  lastController : Bool := false
  lockPin : Bool := false
  lock : LockState := .off
  lockBreaks : Half := 0
  deriving DecidableEq, Repr

/-- The control latches (R168, Table 10-2). -/
structure Latches where
  journalThr : Byte := 0
  waitThr : Byte := 0
  maskB0 : Word := 0xFFFFFFFF#32
  maskS0 : Word := 0xFFFFFFFF#32
  maskS1 : Word := 0xFFFFFFFF#32
  probe : Word := 0
  deriving DecidableEq, Repr

/-- The command count, and the last command's code and result as the bridge view codes them (R60). -/
structure CommandLog where
  count : Half := 0
  code : Byte := 0
  result : Byte := 0
  deriving DecidableEq, Repr

/-! ### The whole part -/

/-- The reasons a step could fault. The spec gives the block no fault: the type is empty, so no step faults
(notes/assumptions/36.md). -/
inductive Fault where
  deriving DecidableEq, Repr

/-- The reasons a step could be refused. -/
inductive Refusal where
  /-- Raised by `exec`'s arm of a command that has no meaning yet, by the row's mnemonic. Safe: the machine stops. No
  command of this model is in that case. -/
  | notModelled (mnemonic : String)
  deriving DecidableEq, Repr

/-- The state of the part. -/
structure State where
  /-- The reset input is asserted (R180). -/
  inReset : Bool := false
  /-- The tick counter (R1). -/
  tick : Word := 0
  /-- The straps latched at the last release: the window base (R166). DESIGN CHOICE at reset, notes/assumptions/13.md. -/
  straps : BitVec 2 := 0
  /-- The data lines of the last completed controller read (R169), absent before the first. -/
  lastRead : Option Word := none
  /-- Control latches (R168). -/
  latches : Latches := {}
  /-- The in-flight set (R57). -/
  inFlight : List Half := []
  /-- The suppressed-write count (R170). -/
  suppressed : Half := 0
  /-- Command count, code and result (R60). -/
  cmd : CommandLog := {}
  /-- The Memory Port Arbiter (R176). -/
  port : Port := {}
  /-- The Posting Queue (R172). -/
  queue : List Posting := []
  /-- The Request Walker (R65). -/
  walker : Walker := {}
  /-- The Channel Table (R6). -/
  chans : Vector Channel 256 := Vector.replicate 256 {}
  /-- The twenty slice maps (R18). -/
  maps : Vector (Vector Entry 320) 20 := Vector.replicate 20 (Vector.replicate 320 {})
  /-- The 24 add-port cells (R18). -/
  addCells : Vector (Vector Entry 12) 2 := Vector.replicate 2 (Vector.replicate 12 {})
  /-- The 24 drop-port cells (R18). -/
  dropCells : Vector (Vector Entry 12) 2 := Vector.replicate 2 (Vector.replicate 12 {})
  /-- The Wait List, oldest first (R81). -/
  waitList : List WaitEntry := []
  /-- The sixteen Ramp Slots (R79). -/
  slots : Vector (Option Slot) 16 := Vector.replicate 16 none
  /-- The committed swing of each line degree, nW (R94). -/
  committed : Vector Nat 8 := Vector.replicate 8 0
  /-- The admission pass that the event in progress has made due (R90); false between events (notes/assumptions/28.md). -/
  passDue : Bool := false
  /-- The Switch Link, one record per module (R113). -/
  links : Vector Link 10 := Vector.replicate 10 {}
  /-- The Scan Receiver (R38). -/
  scan : ScanRx := {}
  /-- The Tap Store (R44). -/
  taps : Vector Tap 20 := Vector.replicate 20 {}
  /-- The Condition Unit's records (R134). -/
  conds : Vector CondRec 10 := Vector.replicate 10 {}
  /-- The Site Store's records (R153). -/
  sites : Vector Site 10 := Vector.replicate 10 {}
  /-- The setup fetch queue and burst (R156). -/
  setup : SetupFetch := {}
  /-- The Journal Writer (R182). -/
  journal : Journal := {}
  /-- The bridge stickies (R187). -/
  attn : Attn := {}
  /-- The plan memory (SRAM) behind the part, in canonical form. DESIGN CHOICE for its content, notes/assumptions/6.md. -/
  mem : List Host.Cell := []
  /-- The model's own counter of free values drawn (notes/assumptions/15.md). -/
  freeIndex : Nat := 0
  /-- The commands that wait, first in, first out. -/
  pending : List Instr := []
  deriving DecidableEq, Repr

/-- The part right after reset: the cold-reset value of every block (R1, R7, R18, R44, R60, R65, R79, R81, R94, R101,
R113, R117, R118, R134, R153, R156, R168, R172, R180, R182), at straps 0, with an empty queue of commands. -/
def State.reset : State := {}

end Sys2Proof.Machine
end

