-- ==== Sys2Proof/Machine/Ops.lean ====
section
/-!
DEFINITION. The named reads and writes of the state's tables: every other operation goes through these. Also the derived
facts of an end and of a channel that Table 1-2 fixes.
-/

namespace Sys2Proof.Machine

open Sys2Proof

/-! ### Tables -/

/-- The channel record of a handle. -/
def State.chan (s : State) (h : Handle) : Channel := s.chans.get h
/-- Write a channel record. -/
def State.setChan (s : State) (h : Handle) (c : Channel) : State := { s with chans := s.chans.set h.val c h.isLt }
/-- The Ramp Slot of a number. -/
def State.slot (s : State) (k : SlotId) : Option Slot := s.slots.get k
/-- Write a Ramp Slot. -/
def State.setSlot (s : State) (k : SlotId) (x : Option Slot) : State := { s with slots := s.slots.set k.val x k.isLt }
/-- The Switch Link record of a module. -/
def State.link (s : State) (m : SiteId) : Link := s.links.get m
/-- Write a Switch Link record. -/
def State.setLink (s : State) (m : SiteId) (l : Link) : State := { s with links := s.links.set m.val l m.isLt }
/-- The tap record of a tap. -/
def State.tap (s : State) (t : TapId) : Tap := s.taps.get t
/-- Write a tap record. -/
def State.setTap (s : State) (t : TapId) (x : Tap) : State := { s with taps := s.taps.set t.val x t.isLt }
/-- The condition record of a site. -/
def State.cond (s : State) (n : SiteId) : CondRec := s.conds.get n
/-- Write a condition record. -/
def State.setCond (s : State) (n : SiteId) (c : CondRec) : State := { s with conds := s.conds.set n.val c n.isLt }
/-- The site record of a site. -/
def State.site (s : State) (n : SiteId) : Site := s.sites.get n
/-- Write a site record. -/
def State.setSite (s : State) (n : SiteId) (x : Site) : State := { s with sites := s.sites.set n.val x n.isLt }
/-- The committed swing of a line degree (R94). -/
def State.swingOf (s : State) (d : Fin 8) : Nat := s.committed.get d
/-- Write a committed swing. -/
def State.setSwing (s : State) (d : Fin 8) (w : Nat) : State := { s with committed := s.committed.set d.val w d.isLt }

/-- A slice-map entry or port cell (R18). -/
def State.entry (s : State) : EntryRef → Entry
  | .slice m n => (s.maps.get m).get n
  | .addCell g p => (s.addCells.get g).get p
  | .dropCell g p => (s.dropCells.get g).get p

/-- Write a slice-map entry or port cell. -/
def State.setEntry (s : State) (r : EntryRef) (e : Entry) : State :=
  match r with
  | .slice m n => { s with maps := s.maps.set m.val ((s.maps.get m).set n.val e n.isLt) m.isLt }
  | .addCell g p => { s with addCells := s.addCells.set g.val ((s.addCells.get g).set p.val e p.isLt) g.isLt }
  | .dropCell g p => { s with dropCells := s.dropCells.set g.val ((s.dropCells.get g).set p.val e p.isLt) g.isLt }

/-- Make the event's admission pass due (R90) when `b` holds. -/
def State.due (s : State) (b : Bool) : State := { s with passDue := s.passDue || b }

/-- All handles, ascending. -/
def allHandles : List Handle := List.finRange 256
/-- All sites, ascending. -/
def allSites : List SiteId := List.finRange 10
/-- All slots, ascending. -/
def allSlots : List SlotId := List.finRange 16
/-- All taps, ascending. -/
def allTaps : List TapId := List.finRange 20

/-! ### Sites, ends, channels (R3 to R5, Table 1-2) -/

/-- The site of line degree `i`. -/
def degreeSite (i : Fin 8) : SiteId := i.castLE (by decide)

/-- The site of add/drop group `g`. -/
def groupSite (g : Fin 2) : SiteId := ⟨8 + g.val, by omega⟩

/-- The line degree a site is, if it is one. -/
def SiteId.degree? (n : SiteId) : Option (Fin 8) := if h : n.val < 8 then some ⟨n.val, h⟩ else none

/-- The site an end lies at (R3). -/
def End.site : End → SiteId
  | .degree i => degreeSite i
  | .addPort g _ => groupSite g
  | .dropPort g _ => groupSite g

/-- The ingress tap of a site: IN(Dk), or ADD(Gg) (R135). -/
def ingressTap (n : SiteId) : TapId :=
  if h : n.val < 8 then ⟨n.val, by omega⟩ else ⟨16 + (n.val - 8), by omega⟩

/-- The egress tap of a site: OUT(Dk), or DROP(Gg) (Table 1-1). -/
def egressTap (n : SiteId) : TapId :=
  if h : n.val < 8 then ⟨8 + n.val, by omega⟩ else ⟨18 + (n.val - 8), by omega⟩

/-- The site a tap belongs to (Table 1-1). -/
def tapSite (t : TapId) : SiteId :=
  if h1 : t.val < 8 then ⟨t.val, by omega⟩
  else if h2 : t.val < 16 then ⟨t.val - 8, by omega⟩
  else if h3 : t.val < 18 then ⟨8 + (t.val - 16), by omega⟩
  else ⟨8 + (t.val - 18), by omega⟩

/-- IN and ADD taps are source taps (R47). -/
def isSourceTap (t : TapId) : Bool := decide (t.val < 8) || (decide (16 ≤ t.val) && decide (t.val < 18))

/-- The source site of a channel. -/
def Channel.srcSite (c : Channel) : SiteId := c.src.site
/-- The destination site of a channel; its module has the same ordinal (R2, Table 1-2). -/
def Channel.dstSite (c : Channel) : SiteId := c.dst.site
/-- The tap P_in is read from, and the source map (R5, Table 1-2). -/
def Channel.srcTap (c : Channel) : TapId := ingressTap c.srcSite
/-- The tap M_out is read from, and the destination map (R5, Table 1-2). -/
def Channel.dstTap (c : Channel) : TapId := egressTap c.dstSite

/-- The input select of a channel's messages (Table 1-2). A drop port is never a source end (R4). -/
def Channel.input (c : Channel) : InputSel :=
  match c.src with
  | .degree i => .degree i
  | .addPort g _ => .group g
  | .dropPort g _ => .group g

/-- The output port of a channel's messages: the drop port of a DROP channel (R112). -/
def Channel.outPort (c : Channel) : Option (Fin 12) :=
  match c.dst with
  | .dropPort _ p => some p
  | .degree _ | .addPort _ _ => none

/-- A channel whose applied setting is not BLOCKED is lit (R9). -/
def Channel.lit (c : Channel) : Bool := decide (c.applied ≠ .blocked)

/-- The slices of a footprint on one map (R19). -/
def footprintOn (m : TapId) (first count : Nat) : List EntryRef :=
  (List.range count).filterMap fun i => if h : first + i < 320 then some (.slice m ⟨first + i, h⟩) else none

/-- The slice entries of a channel's footprint: source map, then destination map (R19). -/
def Channel.slicesOf (c : Channel) : List EntryRef :=
  footprintOn c.srcTap c.first c.count ++ footprintOn c.dstTap c.first c.count

/-- The port cell of a channel, if its kind has one (Table 1-2). -/
def Channel.cellOf (c : Channel) : Option EntryRef :=
  match c.kind, c.src, c.dst with
  | .add, .addPort g p, _ => some (.addCell g p)
  | .drop, _, .dropPort g p => some (.dropCell g p)
  | _, _, _ => none

/-- The footprint of a channel (R19). -/
def Channel.footprint (c : Channel) : List EntryRef := c.slicesOf ++ c.cellOf.toList

/-! ### Conditions and parameters -/

/-- The flags of one condition of a record. -/
def CondRec.flag (r : CondRec) : Cond → CondFlag
  | .inLos => r.inLos
  | .inHigh => r.inHigh
  | .modFault => r.modFault
  | .monStale => r.monStale

/-- Write the flags of one condition of a record. -/
def CondRec.setFlag (r : CondRec) (c : Cond) (f : CondFlag) : CondRec :=
  match c with
  | .inLos => { r with inLos := f }
  | .inHigh => { r with inHigh := f }
  | .modFault => { r with modFault := f }
  | .monStale => { r with monStale := f }

/-- The action of a condition (R141). -/
def Params.action (p : Params) : Cond → Action
  | .inLos => p.inLosAct
  | .inHigh => p.inHighAct
  | .modFault => p.modFaultAct
  | .monStale => p.monStaleAct

/-- The active parameter copy of a site. -/
def State.params (s : State) (n : SiteId) : Params := (s.site n).active

/-- A site is ENABLED. -/
def State.siteOn (s : State) (n : SiteId) : Bool := decide ((s.site n).state = .enabled)

/-! ### Window offsets and the SRAM (R166) -/

/-- The window base for the latched straps: 0xF00000 + 0x10000 × straps (R166). -/
def State.base (s : State) : Nat := 0xF00000 + 0x10000 * s.straps.toNat

/-- A pool offset that is a descriptor place: a multiple of 32 in 0x4000..0x7FE0 (R54). -/
def validPoolOffset (o : Nat) : Bool := decide (0x4000 ≤ o ∧ o ≤ 0x7FE0 ∧ o % 32 = 0)

/-- The SRAM word at a window offset. -/
def State.sramWord (s : State) (offset : Nat) : Word := Memory.readWord s.mem (s.base + offset)

/-- Write an SRAM word at a window offset. -/
def State.sramPut (s : State) (offset : Nat) (w : Word) : State :=
  { s with mem := Memory.writeWord s.mem (s.base + offset) w }

/-- The offset of a descriptor's status word w6 (R54). -/
def statusAddr (desc : Half) : Half := desc + 24
/-- The offset of a descriptor's stamp word w7 (R54). -/
def stampAddr (desc : Half) : Half := desc + 28

end Sys2Proof.Machine
end

