-- ==== Sys2Proof/Machine/Operands.lean ====
section
/-!
DEFINITION. The reading of what software and the links hand the part: descriptors (R54, R193), ends and kinds (R3, R4), setup
records with their load clamps (R154, R192), command codes, control-cell bits (R191) and pool offsets.
-/

namespace Sys2Proof.Machine

open Sys2Proof

/-- Bits hi..lo of a word, as a number. -/
def bits (w : Word) (hi lo : Nat) : Nat := (w.extractLsb hi lo).toNat

/-- The low half-word. -/
def lowHalf (w : Word) : Half := w.setWidth 16
/-- The high half-word. -/
def highHalf (w : Word) : Half := (w >>> 16).setWidth 16

/-! ### Ends and kinds -/

/-- An end field of a descriptor: bits 3..0 form, 7..4 group, 11..8 number; `none` is BAD_END (R3, R193). -/
def decodeEnd (raw : Half) : Option End :=
  let form := (raw.extractLsb 3 0).toNat
  let group := (raw.extractLsb 7 4).toNat
  let number := (raw.extractLsb 11 8).toNat
  if form = 1 then (if h : number < 8 then some (.degree ⟨number, h⟩) else none)
  else if form = 2 then
    (if h : group < 2 ∧ number < 12 then some (.addPort ⟨group, h.1⟩ ⟨number, h.2⟩) else none)
  else if form = 3 then
    (if h : group < 2 ∧ number < 12 then some (.dropPort ⟨group, h.1⟩ ⟨number, h.2⟩) else none)
  else none

/-- The kind of a pair of ends; `none` for the four refused pairs (R4). -/
def kindOf (src dst : End) : Option ConnKind :=
  match src, dst with
  | .degree i, .degree j => if i = j then none else some .express
  | .addPort _ _, .degree _ => some .add
  | .degree _, .dropPort _ _ => some .drop
  | .addPort _ _, .dropPort _ _ => none
  | .dropPort _ _, _ => none
  | _, .addPort _ _ => none

/-! ### Descriptors -/

/-- The fields of a fetched descriptor (Table 12-3). -/
structure Desc where
  kind : Byte
  last : Bool
  handle : Handle
  src : Half
  dst : Half
  first : Nat
  count : Nat
  target : Int
  presetRaw : Nat
  next : Half
  tag : Word
  deriving DecidableEq, Repr

/-- Decode the six fetched words (R193). -/
def decodeDesc (f : Fetch) : Desc where
  kind := f.w0.setWidth 8
  last := f.w0.getLsbD 8
  handle := ⟨(f.w0.extractLsb 23 16).toNat, (f.w0.extractLsb 23 16).isLt⟩
  src := lowHalf f.w1
  dst := highHalf f.w1
  first := bits f.w2 8 0
  count := bits f.w2 20 16
  target := (lowHalf f.w3).toInt
  presetRaw := bits f.w3 23 16
  next := lowHalf f.w4
  tag := f.w5

/-- The two ends and the kind of a descriptor, when its ends pass (R3, R4). -/
def Desc.ends (d : Desc) : Option (End × End × ConnKind) :=
  match decodeEnd d.src, decodeEnd d.dst with
  | some a, some b => (kindOf a b).map fun k => (a, b, k)
  | _, _ => none

/-- The range check (Table 4-2, check 6). -/
def Desc.rangeOk (d : Desc) : Bool := decide (1 ≤ d.count ∧ d.count ≤ 16 ∧ d.first + d.count ≤ 320)

/-- The preset field is 0..200 or 255 (Table 4-2, check 8). -/
def Desc.presetOk (d : Desc) : Bool := decide (d.presetRaw ≤ 200 ∨ d.presetRaw = 255)

/-- The preset attenuation, when present (R55). -/
def Desc.preset (d : Desc) : Option Nat := if d.presetRaw ≤ 200 then some d.presetRaw else none

/-- The five kind codes (Table 12-11). -/
def Desc.knownKind (d : Desc) : Bool := decide (1 ≤ d.kind.toNat ∧ d.kind.toNat ≤ 5)

/-- The next offset ends the chain (R69). -/
def Desc.endsChain (d : Desc) : Bool := d.last || decide (d.next = 0xFFFF#16)

/-- A target level clamped into a site's [Lmin, Lmax], and whether that changed it (R8). -/
def clampTarget (p : Params) (t : Int) : Int × Bool :=
  let v := max p.lmin (min p.lmax t)
  (v, decide (v ≠ t))

/-! ### Setup records -/

/-- A number held within a range, and whether it had to be replaced (R154). -/
def clampNat (lo hi v : Nat) : Nat × Bool := (max lo (min hi v), decide (v < lo ∨ hi < v))

/-- A level held within a range, and whether it had to be replaced (R154). -/
def clampInt (lo hi v : Int) : Int × Bool := (max lo (min hi v), decide (v < lo ∨ hi < v))

/-- An action byte: a code that is not allowed for its condition loads as NOTE and is marked (R154, R192). -/
def loadAction (allowShutter : Bool) (code : Nat) : Action × Bool :=
  if code = 0 then (.note, false)
  else if code = 1 then (.hold, false)
  else if code = 2 ∧ allowShutter = true then (.shutter, false)
  else (.note, true)

/-- The clamp mask from its sixteen marks, mark 0 in bit 0 (R192). -/
def maskOf (marks : List Bool) : Half :=
  marks.foldr (fun b (acc : Half) => (acc <<< 1) ||| (if b then 1 else 0)) 0

/-- Load a setup record: the parameter copy and the clamp mask (R154, R192). Words 6 to 15 are ignored. -/
def loadSetup (w : Vector Word 16) : Params × Half :=
  let w0 := w.get 0
  let w1 := w.get 1
  let w2 := w.get 2
  let w3 := w.get 3
  let w4 := w.get 4
  let w5 := w.get 5
  let step := clampNat 1 50 (bits w0 7 0)
  let pacing := clampNat 1 255 (bits w0 15 8)
  let il := clampNat 0 150 (bits w0 23 16)
  let budget := clampNat 1 255 (bits w0 31 24)
  let deadband := clampNat 0 50 (bits w1 7 0)
  let gain := clampNat 1 16 (bits w1 15 8)
  let lmin := clampInt (-300) 50 (lowHalf w2).toInt
  let lmax := clampInt (-300) 50 (highHalf w2).toInt
  let crossed := decide (lmax.1 < lmin.1)
  let lMark := lmin.2 || lmax.2 || crossed
  let los := clampInt (-500) 200 (lowHalf w3).toInt
  let high := clampInt (-500) 200 (highHalf w3).toInt
  let stale := clampNat 50 5000 (lowHalf w4).toNat
  let holdOff := clampNat 0 60000 (highHalf w4).toNat
  let a0 := loadAction true (bits w5 7 0)
  let a1 := loadAction false (bits w5 15 8)
  let a2 := loadAction false (bits w5 23 16)
  let a3 := loadAction false (bits w5 31 24)
  ({ step := step.1, pacing := pacing.1, il := il.1, budget := budget.1, deadband := deadband.1, gain := gain.1,
     lmin := if crossed then lmax.1 else lmin.1, lmax := lmax.1, los := los.1, high := high.1,
     staleLimit := stale.1, holdOff := holdOff.1, inLosAct := a0.1, inHighAct := a1.1, modFaultAct := a2.1,
     monStaleAct := a3.1 },
   maskOf [step.2, pacing.2, il.2, budget.2, deadband.2, gain.2, lMark, lMark, los.2, high.2, stale.2, holdOff.2,
     a0.2, a1.2, a2.2, a3.2])

/-! ### Commands and cells -/

/-- The command word: code in the top byte, operand below (R60). -/
def commandWord (code : Byte) (operand : BitVec 24) : Word := code ++ operand

/-- A site ordinal operand, when it is 0..9 (R64). -/
def siteOperand (operand : BitVec 24) : Option SiteId :=
  if h : operand.toNat < 10 then some ⟨operand.toNat, h⟩ else none

/-- The offset of a threshold cell (Table 12-1). -/
def thresholdOffset : ThresholdCell → Nat
  | .journal => 0x0008
  | .wait => 0x000C

/-- The offset of a mask cell (Table 12-1). -/
def maskOffset : MaskCell → Nat
  | .b0 => 0x0010
  | .s0 => 0x0014
  | .s1 => 0x0018

/-- The offset of a sticky word (R171, Tables 12-5 and 12-6). -/
def stickyOffset : StickyWord → Nat
  | .bridge => 0x0400
  | .site n => 0x0800 + 64 * n.val

/-- The wait level threshold a written word latches (R168). -/
def waitThreshold (w : Word) : Byte := let b : Byte := w.setWidth 8; if 63#8 < b then 63#8 else b

/-- The window offset of a byte address, when it lies in the window of a base (R166). -/
def windowOffset (base address : Nat) : Option Nat :=
  if base ≤ address ∧ address < base + 0x10000 then some (address - base) else none

/-- The byte address on the word-address lines (Table 0-2). -/
def BusCycle.byteAddress (c : BusCycle) : Nat := 4 * c.address.toNat

/-- The controller cycle at a window offset, for a part with a given base. -/
def cycleAt (base offset : Nat) (dir : BusDir) (enables : BitVec 4) (data : Word) : BusCycle :=
  { dir, address := BitVec.ofNat 22 ((base + offset) / 4), enables, data }

end Sys2Proof.Machine
end

