-- ==== Sys2Proof/Machine/Codes.lean ====
section
/-!
DEFINITION. The codes of Tables 12-10 to 12-12 (R197), the journal record layout (R195), the status word (R193) and the
setting message's bytes (R196).
-/

namespace Sys2Proof.Machine

open Sys2Proof

/-- Attenuation byte: BLOCKED is 254 (R190). -/
def Setting.code : Setting → Nat
  | .blocked => 254
  | .att a => a

def ChanState.code : ChanState → Nat
  | .free => 0
  | .dark => 1
  | .rising => 2
  | .active => 3
  | .adjusting => 4
  | .falling => 5

def ConnKind.code : ConnKind → Nat
  | .express => 0
  | .add => 1
  | .drop => 2

def TransKind.code : TransKind → Nat
  | .rise => 1
  | .restore => 2
  | .adjust => 3
  | .fall => 4
  | .adopt => 5

def Drive.code : Drive → Nat
  | .queued => 0
  | .sent => 1
  | .pacing _ => 2
  | .stopped => 3

def Action.code : Action → Nat
  | .note => 0
  | .hold => 1
  | .shutter => 2

def SiteState.code : SiteState → Nat
  | .disabled => 0
  | .loading => 1
  | .enabled => 2

def ReloadState.code : ReloadState → Nat
  | .idle => 0
  | .fetching => 1
  | .swapPending => 2

def MsgClass.code : MsgClass → Nat
  | .shutter => 1
  | .ramp => 2
  | .level => 3

def WalkerState.code : WalkerState → Nat
  | .idle => 0
  | .fetching => 1
  | .deciding => 2

/-- Port holder codes; 1, a controller cycle, is never the holder between commands (R181). -/
def Holder.code : Holder → Nat
  | .none => 0
  | .walkerBurst => 2
  | .setupBurst => 3
  | .posting => 4

def Outc.code : Outc → Byte
  | .taken => 1
  | .waiting => 2
  | .done => 3
  | .cancelled => 4
  | .shuttered => 5
  | .refused => 6

def Reason.code : Reason → Byte
  | .badKind => 1
  | .badState => 2
  | .badEnd => 3
  | .siteOff => 4
  | .badRange => 5
  | .conflict => 6
  | .portBusy => 7
  | .pending => 8
  | .waitFull => 9
  | .noSlot => 10
  | .badField => 11
  | .inFlight => 12

def ChainEnd.code : ChainEnd → Byte
  | .endOfChain => 1
  | .badLink => 2
  | .limit => 3
  | .halted => 4

def RecKind.code : RecKind → BitVec 4
  | .done => 1
  | .cancelled => 2
  | .refused => 3
  | .shuttered => 4
  | .restored => 5
  | .condRaised => 6
  | .condCleared => 7
  | .chainEnd => 8
  | .mark => 9
  | .lockBroken => 10
  | .site => 11
  | .gap => 12

/-- The condition index (R191). -/
def Cond.index : Cond → Nat
  | .inLos => 0
  | .inHigh => 1
  | .modFault => 2
  | .monStale => 3

/-- Site events of a SITE record (Table 12-12). -/
inductive SiteEvent where
  | enabled
  | reloaded
  | disabled
  deriving DecidableEq, Repr

def SiteEvent.code : SiteEvent → Byte
  | .enabled => 1
  | .reloaded => 2
  | .disabled => 3

/-- Command results (Table 12-10). -/
inductive CmdResult where
  | accepted
  | queueFull
  | badOperand
  | state
  | unknown
  deriving DecidableEq, Repr

def CmdResult.code : CmdResult → Byte
  | .accepted => 1
  | .queueFull => 2
  | .badOperand => 3
  | .state => 4
  | .unknown => 5

/-- A number as a field of a word: `n` at bit `lo`. -/
def field (n lo : Nat) : Word := BitVec.ofNat 32 n <<< lo

/-- A flag as a field of a word. -/
def flagAt (b : Bool) (lo : Nat) : Word := if b then field 1 lo else 0

/-- A level in a signed field of `w` bits: NOLIGHT is the field's most negative value (R190). -/
def levelBits (w : Nat) : Level → BitVec w
  | .noLight => BitVec.intMin w
  | .dt t => BitVec.ofInt w t

/-- The four words of a journal record (R195, Table 12-7). An absent field reads 0 (R190). -/
def Record.words (r : Record) : Word × Word × Word × Word :=
  (r.kind.code.setWidth 32 ||| flagAt r.site.isSome 4 ||| flagAt r.handle.isSome 5 ||| flagAt r.tag.isSome 6 |||
      flagAt r.desc.isSome 7 ||| field (r.site.elim 0 (·.val)) 8 ||| field (r.handle.elim 0 BitVec.toNat) 16 |||
      field r.code.toNat 24,
   r.tick,
   r.tag.getD 0,
   (r.desc.getD 0).setWidth 32 ||| field r.detail.toNat 16)

/-- The status word w6 (Table 12-3): outcome, CLAMPED in bit 8, reason, handle echo. -/
def statusWord (o : Outc) (clamped : Bool) (reason : Byte) (handle : Handle) : Word :=
  field o.code.toNat 0 ||| flagAt clamped 8 ||| field reason.toNat 16 ||| field handle.val 24

/-- The input select byte: bits 3..0 number, bit 4 set for an add group (R196). Table 12-9 gives bits 7..5 no meaning; the part sends
0 in them: DESIGN CHOICE, notes/assumptions/43.md. -/
def InputSel.byte : InputSel → Byte
  | .degree i => BitVec.ofNat 8 i.val
  | .group g => BitVec.ofNat 8 (16 + g.val)

/-- The nine bytes of a setting message (R196, Table 12-9). -/
def SettingMsg.bytes (m : SettingMsg) : List Byte :=
  [BitVec.ofNat 8 m.module.val, m.seq, BitVec.ofNat 8 (m.first % 256), BitVec.ofNat 8 (m.first / 256),
   BitVec.ofNat 8 m.count, m.input.byte, m.port.elim 255#8 (fun p => BitVec.ofNat 8 p.val),
   BitVec.ofNat 8 m.setting.code, BitVec.ofNat 8 m.cls.code]

end Sys2Proof.Machine
end

