-- ==== Sys2Proof/Machine/Journal.lean ====
section
/-!
DEFINITION. Postings, records and their two producers: the hand-over list (R184), the placing of words and records in the
Posting Queue with the ring's fill rule (R173, R175, R183), consumer updates (R185) and the in-flight set (R57).
-/

namespace Sys2Proof.Machine

open Sys2Proof

/-! ### Outcomes (R56, R58) -/

/-- The two postings of an outcome, stamp first (R56). -/
def State.outcomePosts (s : State) (desc : Half) (o : Outc) (clamped : Bool) (reason : Byte) (h : Handle) : List Item :=
  let final := decide (o ≠ .taken ∧ o ≠ .waiting)
  [.word (stampAddr desc) s.tick final, .word (statusAddr desc) (statusWord o clamped reason h) final]

/-- A final status carries CLAMPED for the transition of a SETUP, ADOPT or RETARGET; a FALL is a RELEASE's (R56). -/
def finalClamped (k : TransKind) (c : Channel) : Bool :=
  match k with
  | .fall => false
  | .rise | .restore | .adjust | .adopt => c.clamped

/-- The record of a later DONE or CANCELLED outcome, without tag (R58, R186). -/
def outcomeRecord (s : State) (k : RecKind) (o : Outc) (c : Channel) (h : Handle) (desc : Half) : Record :=
  { kind := k, site := some c.dstSite, handle := some (BitVec.ofNat 8 h.val), code := o.code, tick := s.tick,
    desc := some desc }

/-! ### The hand-over list (R184) -/

/-- How many items of a list are records. -/
def recordCount (l : List Item) : Nat :=
  (l.filter fun i => match i with | .record _ => true | .word _ _ _ => false).length

/-- Hand one item over: every word is taken; a record that finds 256 records is not, and is counted lost (R184). -/
def State.handOne (s : State) (i : Item) : State :=
  match i with
  | .word _ _ _ => { s with journal := { s.journal with handOver := s.journal.handOver ++ [i] } }
  | .record _ =>
    if recordCount s.journal.handOver < 256 then
      { s with journal := { s.journal with handOver := s.journal.handOver ++ [i] } }
    else { s with journal := { s.journal with lost := satInc s.journal.lost } }

/-- Hand items over in order (R184). -/
def State.handOver (s : State) (items : List Item) : State := items.foldl State.handOne s

/-! ### The Posting Queue (R172, R173) -/

/-- The address of an entry: a word posting's, or the first word's of a record posting. -/
def Posting.addr : Posting → Half
  | .word a _ _ => a
  | .record a _ _ _ _ => a

/-- Does an entry hold a word at an offset (R172)? -/
def Posting.holds (p : Posting) (o : Half) : Bool :=
  match p with
  | .word a _ _ => decide (o = a)
  | .record a _ _ _ _ => decide (o = a ∨ o = a + 4 ∨ o = a + 8 ∨ o = a + 12)

/-- The word an entry holds at an offset (R174). -/
def Posting.wordAt (p : Posting) (o : Half) : Word :=
  match p with
  | .word _ w _ => w
  | .record a w0 w1 w2 w3 => if o = a then w0 else if o = a + 4 then w1 else if o = a + 8 then w2 else w3

/-- The entry with bytes of its word at an offset replaced (R174). -/
def Posting.mergeAt (p : Posting) (o : Half) (enables : BitVec 4) (data : Word) : Posting :=
  if p.holds o then
    match p with
    | .word a w f => .word a (mergeLanes enables w data) f
    | .record a w0 w1 w2 w3 =>
      if o = a then .record a (mergeLanes enables w0 data) w1 w2 w3
      else if o = a + 4 then .record a w0 (mergeLanes enables w1 data) w2 w3
      else if o = a + 8 then .record a w0 w1 (mergeLanes enables w2 data) w3
      else .record a w0 w1 w2 (mergeLanes enables w3 data)
  else p

/-- Join the queue: replace the entry of the same address in place (R173), else join the tail if there is room (R172);
`none` when the producer must wait. -/
def joinQueue (q : List Posting) (p : Posting) : Option (List Posting) :=
  if q.any (fun e => decide (e.addr = p.addr)) then
    some (q.map fun e => if e.addr = p.addr then p else e)
  else if q.length < 32 then some (q ++ [p])
  else none

/-! ### The ring (R182, R183) -/

/-- The fill of the ring (R182). -/
def Journal.fill (j : Journal) : Nat := (j.produced - j.consumer).toNat

/-- The record posting of a record at the ring slot a produced count names (R183). -/
def ringPosting (produced : Half) (r : Record) : Posting :=
  let w := r.words
  .record (BitVec.ofNat 16 (0x8000 + 16 * (produced.toNat % 256))) w.1 w.2.1 w.2.2.1 w.2.2.2

/-- The GAP record of a number of missing records (R183, R186). -/
def gapRecord (tick : Word) (missing : Half) : Record := { kind := .gap, tick, detail := missing }

/-- Write records to the ring, all together or not at all (R183). -/
def State.writeRecords (s : State) : List Record → Option State
  | [] => some s
  | r :: rest =>
    match joinQueue s.queue (ringPosting s.journal.produced r) with
    | none => none
    | some q =>
      { s with queue := q, journal := { s.journal with produced := s.journal.produced + 1 } }.writeRecords rest

/-- Place a record by the first row of Table 11-1 that fits; `none` when the producer must wait (R183). -/
def State.placeRecord (s : State) (r : Record) : Option State :=
  if 256 ≤ s.journal.fill then
    some { s with journal := { s.journal with lost := satInc s.journal.lost } }
  else if s.journal.lost = 0 then s.writeRecords [r]
  else if s.journal.fill = 255 then
    { s with journal := { s.journal with lost := 0 } }.writeRecords [gapRecord s.tick (satInc s.journal.lost)]
  else { s with journal := { s.journal with lost := 0 } }.writeRecords [gapRecord s.tick s.journal.lost, r]

/-- Place one item (R173, R183). -/
def State.placeItem (s : State) (i : Item) : Option State :=
  match i with
  | .word a w f => (joinQueue s.queue (.word a w f)).map fun q => { s with queue := q }
  | .record r => s.placeRecord r

/-- The descriptor a pool word offset belongs to. -/
def descOf (o : Half) : Half := o &&& 0xFFE0#16

/-- The walker still holds a word of an item's descriptor: the item is a posting that must follow those of the walker's decision
(R64, R68, R77). -/
def State.walkerHolds (s : State) (i : Item) : Bool :=
  match i with
  | .word a _ _ => s.walker.toPlace.any fun x => match x with
    | .word b _ _ => decide (descOf b = descOf a)
    | .record _ => false
  | .record _ => false

/-- HANDOVER_PLACE: the head of the hand-over list is placed, if there is room for it. While the walker has something left to place, the
room is the walker's: an item that needs a new entry waits (R175, R184). An item that needs none goes on at once: a word that merges into
a queued entry (R173, Table 10-4) and a record that a full ring drops (R183). Only a word of a descriptor of which the walker itself still
has a word to place waits for it (R64, R68, R77; notes/assumptions/27.md). -/
def State.placeHandOver (s : State) : State :=
  match s.journal.handOver with
  | [] => s
  | i :: rest =>
    match s.placeItem i with
    | none => s
    | some s1 =>
      if s.walker.toPlace ≠ [] ∧ (s.queue.length < s1.queue.length ∨ s.walkerHolds i) then s
      else { s1 with journal := { s1.journal with handOver := rest } }

/-- The Journal Writer places what it holds, in order, as far as there is room (R175). -/
def State.writerPlaces (s : State) : State := s.journal.handOver.foldl (fun t _ => t.placeHandOver) s

/-- A consumer update (R185). -/
def State.offerConsumer (s : State) (v : Half) : State :=
  if (v - s.journal.consumer).toNat ≤ s.journal.fill then { s with journal := { s.journal with consumer := v } }
  else { s with attn := { s.attn with consumerBad := true } }

/-! ### The in-flight set (R57, R172) -/

/-- An offset enters the set, held once. -/
def State.enterFlight (s : State) (desc : Half) : State :=
  if s.inFlight.contains desc then s else { s with inFlight := s.inFlight ++ [desc] }

/-- An item holds w6 or w7 of a descriptor. -/
def itemHoldsDesc (desc : Half) (i : Item) : Bool :=
  match i with
  | .word a _ _ => decide (a = statusAddr desc ∨ a = stampAddr desc)
  | .record _ => false

/-- An entry of the queue holds w6 or w7 of a descriptor. -/
def postingHoldsDesc (desc : Half) (p : Posting) : Bool := p.holds (statusAddr desc) || p.holds (stampAddr desc)

/-- After a final word posting has left the queue: its descriptor leaves the in-flight set when nothing else holds its w6
or w7 (R172). -/
def State.leaveFlight (s : State) (p : Posting) : State :=
  match p with
  | .record _ _ _ _ _ => s
  | .word a _ final =>
    let d := descOf a
    if final && !(s.queue.any (postingHoldsDesc d)) && !(s.journal.handOver.any (itemHoldsDesc d)) &&
        !(s.walker.toPlace.any (itemHoldsDesc d)) then
      { s with inFlight := s.inFlight.filter fun o => decide (o ≠ d) }
    else s

end Sys2Proof.Machine
end

