-- ==== Sys2Proof/Machine/Power.lean ====
section
/-!
DEFINITION. The power arithmetic of Chapter 2: conversions, measurements, targets, models, swings and limits.
-/

namespace Sys2Proof.Machine

open Sys2Proof

/-! ### Conversions (R24 to R26) -/

/-- The clamp of a level into −500..+200 before it is converted (R24). -/
def clampLevel (t : Int) : Int := max (-500) (min 200 t)

/-- Is `r` not above 10^(k/100) rounded to the nearest whole number? Exactly: r − 1/2 ≤ 10^(k/100), raised to the
hundredth power and cleared of the half. -/
def notAboveRounded (k r : Nat) : Bool := decide ((2 * r - 1) ^ 100 ≤ 2 ^ 100 * 10 ^ k)

/-- The largest number reached from `acc` by adding powers of two below 2^bits for which `notAboveRounded` holds. -/
def linSearch (k : Nat) : Nat → Nat → Nat
  | 0, acc => acc
  | b + 1, acc => if notAboveRounded k (acc + 2 ^ b) then linSearch k b (acc + 2 ^ b) else linSearch k b acc

/-- lin: a level in dt to whole nanowatts, 10^((t + 600)/100) rounded to the nearest (R25). 2^27 is above the largest
result, 100 000 000. -/
def lin (t : Int) : Nat := linSearch (clampLevel t + 600).toNat 27 0

/-- The largest offset j above −500, up to 700, reached from `acc` by adding powers of two below 2^bits, for which
lin(−500 + j) is not above x. -/
def logSearch (x : Nat) : Nat → Nat → Nat
  | 0, acc => acc
  | b + 1, acc =>
    let j := acc + 2 ^ b
    if j ≤ 700 ∧ lin (-500 + (j : Int)) ≤ x then logSearch x b j else logSearch x b acc

/-- log: nanowatts to a level, rounded down onto the grid (R26). -/
def log (x : Nat) : Level :=
  if x < 10 then .noLight
  else if 100000000 ≤ x then .dt 200
  else .dt (-500 + (logSearch x 10 0 : Int))

/-- NOLIGHT ranks below every level (R26). -/
def Level.below (l : Level) (t : Int) : Bool :=
  match l with
  | .noLight => true
  | .dt v => decide (v < t)

/-- A level above a number of dt; NOLIGHT is above none (R26). -/
def Level.above (l : Level) (t : Int) : Bool :=
  match l with
  | .noLight => false
  | .dt v => decide (t < v)

/-! ### Measurements (R27 to R30) -/

/-- The power of one raw slice value (R27). -/
def slicePower (raw : Half) : Nat :=
  let v := raw.toInt
  if v < -500 then 0 else lin v

/-- The powers of the slices first..first + count − 1 of a tap, summed; a tap not received is dark (R27, R28). -/
def tapPower (t : Tap) (first count : Nat) : Nat :=
  if t.received then (((t.slices.toList.drop first).take count).map slicePower).sum else 0

/-- The measurement of a channel's slices at a tap (R28). -/
def measure (t : Tap) (first count : Nat) : Level := log (tapPower t first count)

/-- The tap total in nW (R29). -/
def tapTotal (t : Tap) : Nat := tapPower t 0 320

/-- The tap total level (R29). -/
def tapLevel (t : Tap) : Level := log (tapTotal t)

/-- The measurement at the source tap, whether or not P_in is valid (R28). -/
def State.measIn (s : State) (c : Channel) : Level := measure (s.tap c.srcTap) c.first c.count

/-- The measurement at the destination tap, M_out (R28). -/
def State.measOut (s : State) (c : Channel) : Level := measure (s.tap c.dstTap) c.first c.count

/-- P_in of a channel, when it is valid (R30). -/
def State.pIn (s : State) (c : Channel) : Option Int :=
  let t := s.tap c.srcTap
  if t.received && !t.stale then
    match s.measIn c with
    | .noLight => none
    | .dt v => some v
  else none

/-! ### Targets (R31, R32) -/

/-- A target computation: A_target and the two range flags it leaves (R31). -/
structure Target where
  att : Nat
  underRange : Bool
  overRange : Bool
  deriving DecidableEq, Repr

/-- A wanted attenuation clamped into 0..200, with its range flags (R31, R128). -/
def rangeAtt (wanted : Int) : Target :=
  if wanted < 0 then { att := 0, underRange := true, overRange := false }
  else if 200 < wanted then { att := 200, underRange := false, overRange := true }
  else { att := wanted.toNat, underRange := false, overRange := false }

/-- A_target of a RISE, RESTORE or ADJUST (R31). -/
def State.target (s : State) (c : Channel) (preset : Option Nat) : Target :=
  match s.pIn c with
  | some p => rangeAtt (p - (s.params c.dstSite).il - c.target)
  | none => { att := preset.getD 200, underRange := false, overRange := false }

/-- The predicted final level (R32). -/
def State.predicted (s : State) (c : Channel) (preset : Option Nat) : Int :=
  match s.pIn c with
  | some p => p - (s.params c.dstSite).il - (s.target c preset).att
  | none => c.target

/-! ### Models, swings and limits (R33 to R37) -/

/-- The modelled level of a channel, nW (R33). -/
def State.modelled (s : State) (c : Channel) : Nat :=
  match c.applied with
  | .blocked => 0
  | .att a =>
    match s.pIn c with
    | some p => lin (p - (s.params c.dstSite).il - a)
    | none => lin c.target

/-- Does a channel's state count in T_D (R34)? -/
def ChanState.counts : ChanState → Bool
  | .rising | .active | .adjusting | .falling => true
  | .free | .dark => false

/-- T_D, the modelled total of a line degree (R34). -/
def State.modelledTotal (s : State) (d : Fin 8) : Nat :=
  (s.chans.toList.map fun c => if c.state.counts && decide (c.dstSite = degreeSite d) then s.modelled c else 0).sum

/-- The budget limit of a line degree (R36). -/
def State.limit (s : State) (d : Fin 8) : Nat := (s.params (degreeSite d)).budget * s.modelledTotal d / 256

/-- The swing of a transition of a channel, were it admitted now (R35, R85): 0 for a group destination. -/
def State.swing (s : State) (k : TransKind) (c : Channel) (preset : Option Nat) : Nat :=
  match SiteId.degree? c.dstSite with
  | none => 0
  | some _ =>
    match k with
    | .rise | .restore => lin (s.predicted c preset)
    | .adjust =>
      let a := lin (s.predicted c preset)
      let b := s.modelled c
      (a - b) + (b - a)
    | .fall => s.modelled c
    | .adopt => 0

/-- The budget test (R37); a group destination is unbudgeted (R84). -/
def State.withinBudget (s : State) (dest : SiteId) (swing : Nat) : Bool :=
  match SiteId.degree? dest with
  | none => true
  | some d => decide (s.swingOf d = 0) || decide (s.swingOf d + swing ≤ s.limit d)

/-- Add a swing to the committed swing of a destination, if it is a line degree (R94). -/
def State.commit (s : State) (dest : SiteId) (swing : Nat) : State :=
  match SiteId.degree? dest with
  | none => s
  | some d => s.setSwing d (s.swingOf d + swing)

/-- Release a swing from the committed swing of a destination (R95); releasing more than 0 nW makes a pass due (R90). -/
def State.releaseSwing (s : State) (dest : SiteId) (swing : Nat) : State :=
  match SiteId.degree? dest with
  | none => s
  | some d => (s.setSwing d (s.swingOf d - swing)).due (decide (0 < swing))

end Sys2Proof.Machine
end

