-- ==== Sys2Proof/Machine/Link.lean ====
section
/-!
DEFINITION. The Switch Link and the Ramp Unit's requests (Chapter 6): the next attenuation, sending, placing and withdrawing
requests, detaching messages, the shutter set.
-/

namespace Sys2Proof.Machine

open Sys2Proof

/-! ### Sending (R103, R112 to R114) -/

/-- The attenuation of a slot's RAMP message: Table 6-2, and an ADOPT's preset whatever the applied setting (R103). -/
def nextAttenuation (kind : TransKind) (motion applied : Setting) (step : Nat) : Setting :=
  match kind, motion, applied with
  | .adopt, m, _ => m
  | _, .blocked, .blocked => .blocked
  | _, .blocked, .att a => if 200 ≤ a then .blocked else .att (min (a + step) 200)
  | _, .att _, .blocked => .att 200
  | _, .att m, .att a =>
    if m < a then .att (max (a - step) m)
    else if a < m then .att (min (a + step) m)
    else .att m

/-- The shutter-set entry served first: the lowest handle, and of one handle the one placed first (R114, R118). -/
def firstShutter : List ShutterEntry → Option ShutterEntry
  | [] => none
  | e :: rest =>
    match firstShutter rest with
    | none => some e
    | some f => if f.handle < e.handle then some f else some e

/-- Send a message on a module's link: it carries the present sequence number, which then rises by 1, and the ack timer
starts at 8 ticks (R113, R116). -/
def State.transmit (s : State) (m : SiteId) (first count : Nat) (input : InputSel) (port : Option (Fin 12))
    (setting : Setting) (cls : MsgClass) (bind : Binding) : State :=
  let l := s.link m
  s.setLink m
    { l with seq := l.seq + 1,
             out := some { msg := { module := m, seq := l.seq, first, count, input, port, setting, cls }, bind, timer := 8 } }

/-- Send the next message of a module: from the shutter set first, else the oldest request of its queue (R114). -/
def State.sendNext (s : State) (m : SiteId) : State :=
  let l := s.link m
  match firstShutter l.shutters with
  | some e =>
    (s.setLink m { l with shutters := l.shutters.erase e }).transmit m e.first e.count e.input e.port .blocked .shutter
      (if e.bound then .channel e.handle else .detached)
  | none =>
    match l.queue with
    | [] => s
    | .ramp k :: rest =>
      match s.slot k with
      | none => s.setLink m { l with queue := rest }
      | some t =>
        let c := s.chan t.handle
        let a := nextAttenuation t.kind (c.motion.getD .blocked) c.applied (s.params t.dest).step
        ((s.setLink m { l with queue := rest }).setSlot k (some { t with drive := .sent })).transmit m c.first c.count
          c.input c.outPort a .ramp (.slot k)
    | .level h a :: rest =>
      let c := s.chan h
      (s.setLink m { l with queue := rest }).transmit m c.first c.count c.input c.outPort (.att a) .level (.channel h)

/-- A request or entry was added, or the outstanding message ended: a module with none outstanding is sent its next message
at once (R114). -/
def State.kick (s : State) (m : SiteId) : State :=
  match (s.link m).out with
  | some _ => s
  | none => s.sendNext m

/-! ### RAMP requests (R102, R105, R109, R111, R117) -/

/-- Place a slot's RAMP request at the tail of its module's setting queue; the slot is QUEUED, or SENT if the module takes
it at once; the takeover mark is cleared (R101, R102). -/
def State.placeRamp (s : State) (k : SlotId) : State :=
  match s.slot k with
  | none => s
  | some t =>
    let l := s.link t.dest
    ((s.setLink t.dest { l with queue := l.queue ++ [.ramp k] }).setSlot k
      (some { t with drive := .queued, takeover := false })).kick t.dest

/-- Withdraw a slot's RAMP request from a module's queue (R117). -/
def State.withdrawRamp (s : State) (m : SiteId) (k : SlotId) : State :=
  let l := s.link m
  s.setLink m { l with queue := l.queue.filter fun r => decide (r ≠ .ramp k) }

/-- An outstanding message with one of its bindings taken away: its answer touches no record and no slot (R111). -/
def Outstanding.detachIf (o : Outstanding) (b : Bool) : Outstanding := if b then { o with bind := .detached } else o

/-- Detach a slot's outstanding RAMP message (R111). -/
def State.detachRamp (s : State) (m : SiteId) (k : SlotId) : State :=
  let l := s.link m
  s.setLink m { l with out := l.out.map fun o => o.detachIf (decide (o.bind = .slot k)) }

/-- End a slot's transition without completion: its request withdrawn, its countdown abandoned or its message detached, its
swing released, the slot freed, and a pass made due (R80, R95, R111). -/
def State.endSlot (s : State) (k : SlotId) : State :=
  match s.slot k with
  | none => s
  | some t =>
    let s1 := match t.drive with
      | .queued => s.withdrawRamp t.dest k
      | .sent => s.detachRamp t.dest k
      | .pacing _ | .stopped => s
    ((s1.releaseSwing t.dest t.swing).setSlot k none).due true

/-- A slot's held flag has been set: it is stopped by its drive state (R109). -/
def State.stopSlot (s : State) (k : SlotId) : State :=
  match s.slot k with
  | none => s
  | some t =>
    match t.drive with
    | .queued => (s.withdrawRamp t.dest k).setSlot k (some { t with drive := .stopped })
    | .pacing _ => s.setSlot k (some { t with drive := .stopped })
    | .sent | .stopped => s

/-- A slot's held flag has been cleared: a STOPPED slot places its next request at once (R109). -/
def State.restartSlot (s : State) (k : SlotId) : State :=
  match s.slot k with
  | none => s
  | some t => if t.drive = .stopped then s.placeRamp k else s

/-- A slot leaves SENT after an answer that does not complete it: the FALL's first request at once under the takeover mark,
STOPPED when held, else PACING from the destination site's interval (R105, R110). -/
def State.leaveSent (s : State) (k : SlotId) : State :=
  match s.slot k with
  | none => s
  | some t =>
    if t.held then s.setSlot k (some { t with drive := .stopped, takeover := false })
    else if t.takeover then s.placeRamp k
    else s.setSlot k (some { t with drive := .pacing (s.params t.dest).pacing })

/-! ### LEVEL requests (R117) -/

/-- Is a request a LEVEL request, of a channel? -/
def Request.isLevel : Request → Bool
  | .level _ _ => true
  | .ramp _ => false

/-- Is a request the LEVEL request of a channel? -/
def Request.isLevelOf (h : Handle) : Request → Bool
  | .level h' _ => decide (h' = h)
  | .ramp _ => false

/-- How many LEVEL requests a queue holds. -/
def levelCount (q : List Request) : Nat := (q.filter Request.isLevel).length

/-- Place a LEVEL request: it replaces the channel's queued one in place, else joins the tail when fewer than 16 LEVEL
requests are queued, else is not queued (R117, R130). -/
def State.placeLevel (s : State) (m : SiteId) (h : Handle) (a : Nat) : State :=
  let l := s.link m
  if l.queue.any (Request.isLevelOf h) then
    s.setLink m { l with queue := l.queue.map fun r => if r.isLevelOf h then .level h a else r }
  else if levelCount l.queue < 16 then
    (s.setLink m { l with queue := l.queue ++ [.level h a] }).kick m
  else s

/-- Withdraw a channel's queued LEVEL request (R129). -/
def State.withdrawLevel (s : State) (m : SiteId) (h : Handle) : State :=
  let l := s.link m
  s.setLink m { l with queue := l.queue.filter fun r => !r.isLevelOf h }

/-- Detach a channel's outstanding LEVEL message (R117). -/
def State.detachLevel (s : State) (m : SiteId) (h : Handle) : State :=
  let l := s.link m
  s.setLink m { l with out := l.out.map fun o => o.detachIf (decide (o.bind = .channel h ∧ o.msg.cls = .level)) }

/-- A channel enters a slot, is shuttered or returns to FREE: its queued LEVEL request is withdrawn and its outstanding
LEVEL message detached (R117). -/
def State.dropLevel (s : State) (m : SiteId) (h : Handle) : State := (s.withdrawLevel m h).detachLevel m h

/-! ### The shutter set (R118, R119) -/

/-- The entry a channel's shutter placing would add (R118). -/
def shutterEntry (h : Handle) (c : Channel) (bound : Bool) : ShutterEntry :=
  { handle := h, first := c.first, count := c.count, input := c.input, port := c.outPort, bound }

/-- Place an entry in a module's shutter set: merged into the handle's bound entry of the same range, else added and sent
if the module is idle; `none` when 256 entries leave no room (R118). -/
def State.addShutter (s : State) (m : SiteId) (e : ShutterEntry) : Option State :=
  let l := s.link m
  if l.shutters.any (fun f => f.bound && decide (f.handle = e.handle ∧ f.first = e.first ∧ f.count = e.count)) then some s
  else if l.shutters.length < 256 then some ((s.setLink m { l with shutters := l.shutters ++ [e] }).kick m)
  else none

/-- A channel returns to FREE: its bound shutter entries and outstanding bound shutter message become unbound (R118,
R119). -/
def State.unbindShutters (s : State) (m : SiteId) (h : Handle) : State :=
  let l := s.link m
  s.setLink m
    { l with shutters := l.shutters.map fun e => if e.handle = h then { e with bound := false } else e,
             out := l.out.map fun o => o.detachIf (decide (o.bind = .channel h ∧ o.msg.cls = .shutter)) }

end Sys2Proof.Machine
end

