-- ==== Sys2Proof/Machine/Channels.lean ====
section
/-!
DEFINITION. Holds (R142, R143), reservation, claims and hand-over (R20 to R23), removal of transitions (R83, R111) and the
return of a channel to FREE (R17).
-/

namespace Sys2Proof.Machine

open Sys2Proof

/-! ### Holds -/

/-- A condition is live with action HOLD at a site (R142). -/
def State.holding (s : State) (n : SiteId) (c : Cond) : Bool :=
  ((s.cond n).flag c).live && decide ((s.params n).action c = .hold)

/-- A site has a source hold (R142). -/
def State.sourceHold (s : State) (n : SiteId) : Bool := s.holding n .inLos || s.holding n .inHigh

/-- A site has a destination hold (R142). -/
def State.destHold (s : State) (n : SiteId) : Bool := s.holding n .modFault || s.holding n .monStale

/-- A site's freeze flag (R63). -/
def State.frozen (s : State) (n : SiteId) : Bool := (s.site n).frozen

/-- A transition between two sites is held (R142). -/
def State.heldBetween (s : State) (src dst : SiteId) : Bool :=
  s.sourceHold src || s.destHold dst || s.frozen src || s.frozen dst

/-- A channel's transition is held (R142). -/
def State.isHeld (s : State) (h : Handle) : Bool :=
  let c := s.chan h
  s.heldBetween c.srcSite c.dstSite

/-- Does a slot in use have one of the sites as an end? -/
def State.slotAt (s : State) (t : Slot) (sites : List SiteId) : Bool :=
  let c := s.chan t.handle
  sites.contains c.srcSite || sites.contains c.dstSite

/-- Recompute one slot's held flag, stopping or restarting it when the flag changes (R109, R143). -/
def State.reholdSlot (sites : List SiteId) (s : State) (k : SlotId) : State :=
  match s.slot k with
  | none => s
  | some t =>
    if s.slotAt t sites then
      let now := s.isHeld t.handle
      if now = t.held then s
      else
        let s1 := s.setSlot k (some { t with held := now })
        if now then s1.stopSlot k else s1.restartSlot k
    else s

/-- The handle of a slot's channel; a free slot has none and stands first. -/
def State.slotHandle (s : State) (k : SlotId) : Nat := (s.slot k).elim 0 fun t => t.handle.val

/-- The slots in ascending order of their channels' handles: the order does not depend on which slot a transition has (R79). -/
def State.slotsByHandle (s : State) : List SlotId :=
  allSlots.insertionSort fun j k => s.slotHandle j ≤ s.slotHandle k

/-- The holds of some sites have changed: recompute every slot with an end at one of them (R143), in ascending order of the
handles, since the number of a slot has no effect (R79; notes/assumptions/18.md). -/
def State.rehold (s : State) (sites : List SiteId) : State := s.slotsByHandle.foldl (State.reholdSlot sites) s

/-- Did a change remove a source hold or a destination hold of a site (R144)? -/
def holdRemoved (before after : State) (n : SiteId) : Bool :=
  (before.sourceHold n && !after.sourceHold n) || (before.destHold n && !after.destHold n)

/-! ### Reservation, claims and hand-over -/

/-- The classes of a footprint entry (R20). -/
inductive EntryClass where
  | free
  | claimable
  | blocking
  deriving DecidableEq, Repr

/-- The class of an entry (R20). -/
def State.classOf (s : State) (r : EntryRef) : EntryClass :=
  let e := s.entry r
  match e.owner with
  | none => .free
  | some h =>
    if (s.chan h).state = .falling then (if e.claimant = none then .claimable else .blocking) else .blocking

/-- Own a free entry or claim a claimable one (R20). -/
def State.reserveOne (h : Handle) (s : State) (r : EntryRef) : State :=
  let e := s.entry r
  match s.classOf r with
  | .free => s.setEntry r { e with owner := some h }
  | .claimable => s.setEntry r { e with claimant := some h }
  | .blocking => s

/-- Reserve a footprint for a channel (R20, R21). -/
def State.reserve (s : State) (h : Handle) (fp : List EntryRef) : State := fp.foldl (State.reserveOne h) s

/-- A channel owns its whole footprint and claims none of it (R84, condition 1). -/
def State.ownsAll (s : State) (h : Handle) : Bool :=
  (s.chan h).footprint.all fun r => decide ((s.entry r).owner = some h) && decide ((s.entry r).claimant ≠ some h)

/-- Hand over or release one entry a channel owns (R22). An entry that passes to a claimant which remains makes a pass due;
`doomed` are the channels freed in the same event (R23). -/
def State.handOverEntry (h : Handle) (doomed : List Handle) (s : State) (r : EntryRef) : State :=
  let e := s.entry r
  if e.owner = some h then
    match e.claimant with
    | some g => (s.setEntry r { owner := some g, claimant := none }).due (!doomed.contains g)
    | none => s.setEntry r { owner := none, claimant := none }
  else s

/-- Drop one claim of a channel (R23). -/
def State.dropClaim (h : Handle) (s : State) (r : EntryRef) : State :=
  let e := s.entry r
  if e.claimant = some h then s.setEntry r { e with claimant := none } else s

/-! ### Removal and return to FREE -/

/-- The Wait List entry of a channel. -/
def State.entryOf (s : State) (h : Handle) : Option WaitEntry := s.waitList.find? fun e => decide (e.handle = h)

/-- A barrier acts while it is not held (R86). -/
def State.acting (s : State) (e : WaitEntry) : Bool := e.barrier && !s.isHeld e.handle

/-- Remove a channel's entry from the Wait List; the removal of an acting barrier makes a pass due (R83). -/
def State.removeEntry (s : State) (h : Handle) : State :=
  match s.entryOf h with
  | none => s
  | some e =>
    { s with waitList := s.waitList.filter fun x => decide (x.handle ≠ h) }.due (s.acting e)

/-- Remove whatever transition a channel has, from its entry or its slot, and the record's reference to it (R17, step 1). -/
def State.dropTransition (s : State) (h : Handle) : State :=
  let s1 := match (s.chan h).pending with
    | none => s
    | some .waiting => s.removeEntry h
    | some (.slot k) => s.endSlot k
  s1.setChan h { s1.chan h with pending := none, motion := none, desc := none }

/-- A channel returns to FREE (R17, R7): its transition removed, its entries handed over or released, its claims dropped,
its LEVEL work withdrawn, its shutter work unbound (R117, R118), its record rewritten. -/
def State.toFree (s : State) (h : Handle) (doomed : List Handle) : State :=
  let s1 := s.dropTransition h
  let c := s1.chan h
  let s2 := c.footprint.foldl (State.handOverEntry h doomed) s1
  let s3 := c.footprint.foldl (State.dropClaim h) s2
  ((s3.dropLevel c.dstSite h).unbindShutters c.dstSite h).setChan h {}

/-- Find the kind, and the descriptor, of the transition a channel has (R10). -/
def State.transOf (s : State) (h : Handle) : Option (TransKind × Option Half) :=
  match (s.chan h).pending with
  | none => none
  | some .waiting => (s.entryOf h).map fun e => (e.kind, e.desc)
  | some (.slot k) => (s.slot k).map fun t => (t.kind, t.desc)

/-- Does a channel's Wait List entry have this kind? -/
def State.waits (s : State) (h : Handle) (k : TransKind) : Bool :=
  decide ((s.chan h).pending = some .waiting) && ((s.entryOf h).any fun e => decide (e.kind = k))

/-- A site is quiet: no slot in use has it at an end (R159). -/
def State.quiet (s : State) (n : SiteId) : Bool :=
  allSlots.all fun k => match s.slot k with
    | none => true
    | some t => !s.slotAt t [n]

end Sys2Proof.Machine
end

