-- ==== Sys2Proof/Machine/Admission.lean ====
section
/-!
DEFINITION. The Admission Unit (Chapter 5): admissibility, admission, the pass, offers at a decision, skip counts and barriers.
-/

namespace Sys2Proof.Machine

open Sys2Proof

/-- The lowest-numbered free slot (R79). -/
def State.freeSlot (s : State) : Option SlotId := allSlots.find? fun k => decide (s.slot k = none)

/-- An older acting barrier waits for a destination site (R84, condition 5). -/
def State.barred (s : State) (older : List WaitEntry) (dest : SiteId) : Bool :=
  older.any fun b => decide (b.dest = dest) && s.acting b

/-- Admissibility of a transition, given the entries older than it (R84). R77 says that a FREEZE or THAW changes no decision's outcome,
only whether the transition is held; by R84, condition 3, a held transition is not admissible, so an offer at a frozen site is WAITING or
WAIT_FULL where an unfrozen one could be TAKEN. The model follows R84, R88 and R99: DESIGN CHOICE, notes/assumptions/45.md. -/
def State.admissible (s : State) (older : List WaitEntry) (e : WaitEntry) : Bool :=
  let c := s.chan e.handle
  s.ownsAll e.handle && s.freeSlot.isSome && s.siteOn c.srcSite && s.siteOn c.dstSite && !s.isHeld e.handle &&
    s.withinBudget e.dest (s.swing e.kind c e.preset) && !s.barred older e.dest

/-- The state a channel has while its transition is in a slot (R12, R14). -/
def TransKind.slotState : TransKind → ChanState
  | .rise | .restore => .rising
  | .adjust | .adopt => .adjusting
  | .fall => .falling

/-- A channel record with the target computation's range flags and motion target (R31, R91 step 1). -/
def State.aimed (s : State) (c : Channel) (k : TransKind) (preset : Option Nat) : Channel :=
  match k with
  | .fall => { c with motion := some .blocked }
  | .rise | .restore | .adjust | .adopt =>
    let t := s.target c preset
    { c with motion := some (.att t.att), underRange := t.underRange, overRange := t.overRange }

/-- An ADJUST whose A_target equals the applied setting (R92). -/
def State.adjustMet (s : State) (e : WaitEntry) : Bool :=
  let c := s.chan e.handle
  decide (e.kind = .adjust) && decide (c.applied = .att (s.target c e.preset).att)

/-- A transition enters the lowest free slot (R91, steps 1 to 4 and 6): target and swing fixed, swing committed, record
changed, LEVEL work of the channel dropped (R117), first request placed. The Wait List is the caller's. The drop detaches an
outstanding LEVEL message (R117, R120), so its acknowledgement changes no applied setting after the admission, although R104
speaks of one that brings an ADJUST onto its target (notes/assumptions/44.md). -/
def State.admitEntry (s : State) (e : WaitEntry) : State :=
  match s.freeSlot with
  | none => s
  | some k =>
    let c := s.chan e.handle
    let swing := s.swing e.kind c e.preset
    let c1 := { s.aimed c e.kind e.preset with
      state := e.kind.slotState, pending := some (.slot k),
      shutteredBy := if e.kind = .restore then none else c.shutteredBy }
    let t : Slot := { kind := e.kind, handle := e.handle, desc := e.desc, dest := e.dest, restoreSite := e.restoreSite,
                      swing, held := false, drive := .stopped }
    ((((s.commit e.dest swing).setSlot k (some t)).setChan e.handle c1).dropLevel e.dest e.handle).placeRamp k

/-- An ADJUST completes at admission: range flags written, the record left ACTIVE with no transition (R92). -/
def State.completeAdjust (s : State) (e : WaitEntry) : State :=
  let c := s.chan e.handle
  let t := s.target c e.preset
  s.setChan e.handle
    { c with underRange := t.underRange, overRange := t.overRange, pending := none, desc := none }

/-- Raise the skip counts of the unheld entries for a destination among those older than an admitted transition; a count
that reaches 8 makes its entry a barrier (R86, R87). -/
def State.raiseSkips (s : State) (dest : SiteId) (older : List WaitEntry) : List WaitEntry :=
  older.map fun e =>
    if e.dest = dest ∧ s.isHeld e.handle = false then
      { e with skip := min 8 (e.skip + 1), barrier := e.barrier || decide (8 ≤ e.skip + 1) }
    else e

/-- The outcome of an ADJUST that completes in a pass: DONE, without tag, by the hand-over list (R92). -/
def State.adjustDone (s : State) (e : WaitEntry) : State :=
  match e.desc with
  | none => s
  | some d =>
    let c := s.chan e.handle
    s.handOver (s.outcomePosts d .done c.clamped 0 e.handle ++ [.record (outcomeRecord s .done .done c e.handle d)])

/-- Admit an admissible entry of a pass, or complete it (R89, R91, R92). -/
def State.admitWaiting (s : State) (e : WaitEntry) : State :=
  if s.adjustMet e then (s.adjustDone e).completeAdjust e else s.admitEntry e

/-- The pass over the entries still to test, oldest first; `older` are those tested and kept (R89). -/
def State.passFrom (s : State) (older : List WaitEntry) : List WaitEntry → State
  | [] => { s with waitList := older }
  | e :: rest =>
    if s.admissible older e then
      let s1 := s.admitWaiting e
      s1.passFrom (s1.raiseSkips e.dest older) rest
    else s.passFrom (older ++ [e]) rest

/-- One admission pass (R89). -/
def State.pass (s : State) : State := s.passFrom [] s.waitList

/-- The event's admission pass, when one is due (R90). -/
def State.runPass (s : State) : State := if s.passDue then { s with passDue := false }.pass else s

/-- What the Admission Unit answers to an offer at a decision (R88). -/
inductive Offer where
  | admitted (s : State)
  | complete (s : State)
  | appended (s : State)
  | full

/-- Append an entry at the tail of the Wait List; its channel's pending transition is that entry; a pass is due (R82, R90). -/
def State.append (s : State) (e : WaitEntry) : State :=
  ({ s with waitList := s.waitList ++ [e] }.setChan e.handle { s.chan e.handle with pending := some .waiting }).due true

/-- The offer of a RISE, ADJUST or FALL at a walker decision (R88). -/
def State.offer (s : State) (e : WaitEntry) : Offer :=
  if s.admissible s.waitList e then
    if s.adjustMet e then
      .complete { s.completeAdjust e with waitList := s.raiseSkips e.dest s.waitList }
    else
      let s1 := s.admitEntry e
      .admitted { s1 with waitList := s1.raiseSkips e.dest s1.waitList }
  else if s.waitList.length < 64 then .appended (s.append e)
  else .full

/-- The placing of an ADOPT into a slot (R98): no test, swing 0, held as the holds stand; a held ADOPT is STOPPED. -/
def State.placeAdopt (s : State) (k : SlotId) (h : Handle) (desc : Half) : State :=
  let c := s.chan h
  let held := s.isHeld h
  let t : Slot := { kind := .adopt, handle := h, desc := some desc, dest := c.dstSite, swing := 0, held, drive := .stopped }
  let s1 := (s.setSlot k (some t)).dropLevel c.dstSite h
  if held then s1 else s1.placeRamp k

/-- A RELEASE turns a RISING or ADJUSTING slot into a FALL (R96, R110). -/
def State.takeOver (s : State) (k : SlotId) (h : Handle) (desc : Half) : State :=
  match s.slot k with
  | none => s
  | some t =>
    let c := s.chan h
    let swing := s.swing .fall c none
    let s1 := (s.releaseSwing t.dest t.swing).commit t.dest swing
    let t1 : Slot := { t with kind := .fall, desc := some desc, restoreSite := none, swing,
                              takeover := t.takeover || decide (t.drive = .sent) }
    let s2 := (s1.setSlot k (some t1)).setChan h
      { c with state := .falling, motion := some .blocked, desc := some desc }
    match t.drive with
    | .pacing _ => s2.placeRamp k
    | .queued | .sent | .stopped => s2

end Sys2Proof.Machine
end

