-- ==== Sys2Proof/Machine/Conditions.lean ====
section
/-!
DEFINITION. The Condition Unit (Chapter 8): rises and falls, the SHUTTER action, restore hold-off and restores, and the
placing of shutter entries with its failure case (R118).
-/

namespace Sys2Proof.Machine

open Sys2Proof

/-- A condition record: COND_RAISED or COND_CLEARED (R140, R186); only IN_LOS and IN_HIGH carry the level judged. -/
def condRecord (tick : Word) (kind : RecKind) (n : SiteId) (c : Cond) (level : Level) : Record :=
  { kind, site := some n, code := BitVec.ofNat 8 c.index, tick,
    detail := match c with
      | .inLos | .inHigh => levelBits 16 level
      | .modFault | .monStale => 0 }

/-- A rise, but for the SHUTTER action (R140): live and sticky set, the IN_LOS stamps written, a running hold-off abandoned
and the restore-deferred mark cleared by a rise of IN_LOS (R148, R150), the record handed over, the holds recomputed. -/
def State.riseBase (s : State) (n : SiteId) (c : Cond) (level : Level) : State :=
  let r := s.cond n
  let r1 := r.setFlag c { live := true, sticky := true }
  let r2 := match c with
    | .inLos =>
      { r1 with lastLos := some s.tick, firstLos := if r.inLos.sticky then r.firstLos else some s.tick,
                holdOff := none, restoreDeferred := false }
    | .inHigh | .modFault | .monStale => r1
  ((s.setCond n r2).handOver [.record (condRecord s.tick .condRaised n c level)]).rehold [n]

/-- A fall, but for the start of the hold-off (R140): live cleared, the record handed over, the holds recomputed, and a pass
due if a hold was removed (R144). -/
def State.fallBase (s : State) (n : SiteId) (c : Cond) (level : Level) : State :=
  let r := s.cond n
  let s1 := s.setCond n (r.setFlag c { r.flag c with live := false })
  ((s1.handOver [.record (condRecord s.tick .condCleared n c level)]).rehold [n]).due (holdRemoved s s1 n)

/-- A REJECT or timeout raises MOD_FAULT of the module's site, if it is ENABLED and the condition is clear (R121, R139). -/
def State.raiseModFault (s : State) (n : SiteId) : State :=
  if s.siteOn n && !(s.cond n).modFault.live then s.riseBase n .modFault .noLight else s

/-- A matched OK clears MOD_FAULT's live flag (R121, R139). -/
def State.clearModFault (s : State) (n : SiteId) : State :=
  if s.siteOn n && (s.cond n).modFault.live then s.fallBase n .modFault .noLight else s

/-- Place a channel's shutter entry in its destination module's set (R118). A bound placing sets the applied setting to
BLOCKED (R9). A placing that finds no room sets BLOCKED and UNCONFIRMED in the record and raises MOD_FAULT. -/
def State.placeShutter (s : State) (h : Handle) (bound : Bool) : State :=
  let c := s.chan h
  match s.addShutter c.dstSite (shutterEntry h c bound) with
  | some s1 => if bound then s1.setChan h { s1.chan h with applied := .blocked } else s1
  | none => (s.setChan h { c with applied := .blocked, unconfirmed := true }).raiseModFault c.dstSite

/-! ### The SHUTTER action (R145, R146) -/

/-- The SHUTTERED record of a channel left DARK (R146, R186). -/
def shutteredRecord (tick : Word) (site : SiteId) (h : Handle) (desc : Option Half) : Record :=
  { kind := .shuttered, site := some site, handle := some (BitVec.ofNat 8 h.val),
    code := Outc.shuttered.code, tick, desc }

/-- Hand over the postings of a final outcome, when there is a descriptor (R146). -/
def State.finalPosts (s : State) (desc : Option Half) (o : Outc) (clamped : Bool) (h : Handle) : List Item :=
  match desc with
  | none => []
  | some d => s.outcomePosts d o clamped 0 h

/-- A channel of the SHUTTER action that is left DARK, shuttered-by the site. Its entry is placed before its postings and record are
handed over, as section 8.10 tells it; that a MOD_FAULT raised by a full shutter set (R118) is therefore recorded before the
channel's SHUTTERED record is DESIGN CHOICE, notes/assumptions/40.md. -/
def State.darken (s : State) (site : SiteId) (h : Handle) (entry : Bool) : State :=
  let c := s.chan h
  let desc := c.desc
  let s1 := (s.dropTransition h).dropLevel c.dstSite h
  let s2 := s1.setChan h { s1.chan h with state := .dark, shutteredBy := some site }
  let s3 := if entry then s2.placeShutter h true else s2
  s3.handOver (s.finalPosts desc .shuttered c.clamped h ++ [.record (shutteredRecord s.tick site h desc)])

/-- A channel of the SHUTTER action whose FALL ends DONE; its unbound entry is placed before it returns to FREE
(notes/assumptions/19.md), and its postings and record are handed over after that (section 8.10; DESIGN CHOICE as to a MOD_FAULT
raised by the placing, notes/assumptions/40.md). -/
def State.endFall (s : State) (h : Handle) : State :=
  let c := s.chan h
  let items := match c.desc with
    | none => []
    | some d => s.outcomePosts d .done false 0 h ++ [.record (outcomeRecord s .done .done c h d)]
  let s1 := (s.dropTransition h).dropLevel c.dstSite h
  ((s1.placeShutter h false).toFree h []).handOver items

/-- One channel of the SHUTTER action of a site (Table 8-3). A RESTORE that waits stays in the Wait List, as R16, Table 8-3, R148 and
section 8.11 say; R99's last bullet says that a SHUTTER removes a waiting RESTORE. The choice between them is DESIGN CHOICE,
notes/assumptions/39.md. -/
def State.shutterOne (site : SiteId) (s : State) (h : Handle) : State :=
  let c := s.chan h
  if c.state = .free ∨ c.srcSite ≠ site then s
  else match c.state with
    | .free => s
    | .dark => if s.waits h .rise then s.darken site h false else s
    | .rising | .adjusting => s.darken site h true
    | .active => if s.waits h .fall then s.endFall h else s.darken site h true
    | .falling => s.endFall h

/-- The SHUTTER action of a site: every channel, in handle order (R145). -/
def State.shutter (s : State) (site : SiteId) : State := allHandles.foldl (State.shutterOne site) s

/-! ### Restores (R148 to R150) -/

/-- Append the RESTORE of one channel shuttered by a site, or mark the site restore-deferred when the list is full (R149). -/
def State.restoreOne (site : SiteId) (s : State) (h : Handle) : State :=
  let c := s.chan h
  if c.shutteredBy = some site ∧ c.pending = none then
    if s.waitList.length < 64 then
      s.append { kind := .restore, handle := h, desc := none, dest := c.dstSite, restoreSite := some site }
    else s.setCond site { s.cond site with restoreDeferred := true }
  else s

/-- The appends of an expiry or re-run: the mark cleared, then every channel in handle order (R149, R150). -/
def State.restoreAll (s : State) (site : SiteId) : State :=
  allHandles.foldl (State.restoreOne site) (s.setCond site { s.cond site with restoreDeferred := false })

/-- The expiry of a site's restore hold-off (R149). -/
def State.expireHoldOff (s : State) (site : SiteId) : State :=
  (s.setCond site { s.cond site with holdOff := none }).restoreAll site

/-- A slot completed: the expiry is re-run for each site with the restore-deferred mark, ascending (R150). -/
def State.rerunOne (s : State) (n : SiteId) : State := if (s.cond n).restoreDeferred then s.restoreAll n else s

/-- The re-runs of R150. -/
def State.rerunDeferred (s : State) : State := allSites.foldl State.rerunOne s

/-- A fall of IN_LOS starts the hold-off; a hold-off of 0 expires within the event (R148). -/
def State.startHoldOff (s : State) (n : SiteId) : State :=
  let v := (s.params n).holdOff
  if v = 0 then s.expireHoldOff n else s.setCond n { s.cond n with holdOff := some v }

/-! ### Judgements (R135 to R138) -/

/-- IN_LOS judged from a level (R135). -/
def State.judgeInLos (s : State) (n : SiteId) (level : Level) : State :=
  let p := s.params n
  if (s.cond n).inLos.live then
    (if level.above (p.los + 10) then (s.fallBase n .inLos level).startHoldOff n else s)
  else if level.below p.los then
    let s1 := s.riseBase n .inLos level
    if p.inLosAct = .shutter then s1.shutter n else s1
  else s

/-- IN_HIGH judged from a level (R136). -/
def State.judgeInHigh (s : State) (n : SiteId) (level : Level) : State :=
  let p := s.params n
  if (s.cond n).inHigh.live then (if level.below (p.high - 10) then s.fallBase n .inHigh level else s)
  else if level.above p.high then s.riseBase n .inHigh level
  else s

/-- IN_LOS, then IN_HIGH, from one tap total level of the site's ingress tap (R137). -/
def State.judgeIngress (s : State) (n : SiteId) : State :=
  let level := tapLevel (s.tap (ingressTap n))
  (s.judgeInLos n level).judgeInHigh n level

/-- MON_STALE judged from the stale flags of the site's two taps (R138). -/
def State.judgeMonStale (s : State) (n : SiteId) : State :=
  let stale := (s.tap (ingressTap n)).stale || (s.tap (egressTap n)).stale
  if (s.cond n).monStale.live then (if stale then s else s.fallBase n .monStale .noLight)
  else (if stale then s.riseBase n .monStale .noLight else s)

end Sys2Proof.Machine
end

