-- ==== Sys2Proof/Machine/Sites.lean ====
section
/-!
DEFINITION. The Site Store (Chapter 9): the fetch queue, enabling, reload and swap, teardown; and the end of an event, with its
quiet-point swaps and its one admission pass (R89, R159).
-/

namespace Sys2Proof.Machine

open Sys2Proof

/-! ### SITE records, swaps and the end of an event -/

/-- A SITE record (R186); the detail is the setup-clamped flag, but for DISABLED. -/
def siteRecord (tick : Word) (n : SiteId) (e : SiteEvent) (clamped : Bool) : Record :=
  { kind := .site, site := some n, code := e.code, tick,
    detail := match e with
      | .enabled | .reloaded => if clamped then 1 else 0
      | .disabled => 0 }

/-- The swap of a site's buffered copy, the RELOADED record, the holds recomputed, and a pass due (R160). -/
def State.swap (s : State) (n : SiteId) : State :=
  let x := s.site n
  match x.buffered with
  | none => s
  | some p =>
    (((s.setSite n { x with active := p, buffered := none, reload := .idle }).handOver
      [.record (siteRecord s.tick n .reloaded x.setupClamped)]).rehold [n]).due true

/-- Did an event, from `before` to now, free a slot whose transition had the site at an end (R159)? -/
def State.freedAt (before s : State) (n : SiteId) : Bool :=
  allSlots.any fun k => match before.slot k with
    | none => false
    | some t => decide (s.slot k = none) && before.slotAt t [n]

/-- The test of one site in SWAP_PENDING after an event that freed slots (R159). -/
def State.swapIfQuiet (before s : State) (n : SiteId) : State :=
  if decide ((s.site n).reload = .swapPending) && before.freedAt s n && s.quiet n then s.swap n else s

/-- The end of an event that began at `before`: quiet sites in SWAP_PENDING are swapped, ascending, and then the admission
pass is made if one is due (R89, R159, R160). -/
def State.finish (before s : State) : State := (allSites.foldl (State.swapIfQuiet before) s).runPass

/-! ### The fetch queue (R156) -/

/-- The Site Store requests a setup burst for the head of its queue, one at a time (R156). -/
def State.requestSetup (s : State) : State :=
  if s.setup.queue ≠ [] ∧ s.setup.burst = none ∧ Burst.setup ∉ s.port.requests then
    { s with port := { s.port with requests := s.port.requests ++ [.setup] } }
  else s

/-- A site joins the fetch queue at the tail, if it is not in it (R156). -/
def State.joinFetch (s : State) (n : SiteId) : State :=
  (if s.setup.queue.contains n then s
   else { s with setup := { s.setup with queue := s.setup.queue ++ [n] } }).requestSetup

/-- A part request waits: a burst, or the queue head when it does not hold the port (R176, R177). -/
def State.partWaits (s : State) : Bool :=
  decide (s.port.requests ≠ []) || (decide (s.port.holder ≠ .posting) && decide (s.queue ≠ []))

/-- The fairness count is 0 whenever no part request waits (R177). -/
def State.settleFairness (s : State) : State :=
  if s.partWaits then s else { s with port := { s.port with fairness := 0 } }

/-- The site's burst runs (R156). -/
def State.burstRuns (s : State) (n : SiteId) : Bool := s.setup.burst.any fun b => decide (b.site = n)

/-- An accepted DISABLE abandons a site's fetch: its running burst is discarded, or the site leaves the queue and its burst
request, if it was at the head, is withdrawn (R156, R176). The next head's request is made in the same event. That the fairness count
then stands, and is 0 only if no part request waits after the event (R177), is DESIGN CHOICE, notes/assumptions/46.md. -/
def State.abandonFetch (s : State) (n : SiteId) : State :=
  if s.burstRuns n then
    { s with setup := { s.setup with burst := s.setup.burst.map fun b => { b with discard := true } } }
  else if s.setup.queue.head? = some n then
    ({ s with setup := { s.setup with queue := s.setup.queue.erase n },
              port := { s.port with requests :=
                if s.setup.burst = none then s.port.requests.erase .setup else s.port.requests } }.requestSetup).settleFairness
  else { s with setup := { s.setup with queue := s.setup.queue.erase n } }

/-! ### Enable and reload (R157, R158) -/

/-- An accepted ENABLE (R157). -/
def State.enableSite (s : State) (n : SiteId) : State :=
  (s.setSite n { s.site n with state := .loading }).joinFetch n

/-- An accepted RELOAD, by the reload state (R158). -/
def State.reloadSite (s : State) (n : SiteId) : State :=
  let x := s.site n
  match x.reload with
  | .idle => (s.setSite n { x with reload := .fetching }).joinFetch n
  | .fetching => if s.burstRuns n then s.setSite n { x with refetch := true } else s
  | .swapPending => (s.setSite n { x with buffered := none, reload := .fetching }).joinFetch n

/-- Start a tap's stale timer with its site's stale limit (R48). -/
def State.startStale (s : State) (t : TapId) (n : SiteId) : State :=
  s.setTap t { s.tap t with timer := some (s.params n).staleLimit }

/-- The enabling of a LOADING site at the completion of its fetch (R157, R51, R151). -/
def State.enabled (s : State) (n : SiteId) (p : Params) (mask : Half) : State :=
  let clamped := decide (mask ≠ 0)
  let s1 := s.setSite n { s.site n with active := p, setupClamped := clamped, clampMask := mask, state := .enabled }
  let s2 := (s1.startStale (ingressTap n) n).startStale (egressTap n) n
  (s2.handOver [.record (siteRecord s.tick n .enabled clamped)]).judgeIngress n

/-- The completion of an ENABLED site's reload fetch (R158): with the refetch mark the values are discarded and the site
joins the queue again; otherwise they become the buffered copy, swapped in at once if the site is quiet. -/
def State.reloaded (s : State) (n : SiteId) (p : Params) (mask : Half) : State :=
  let x := { s.site n with setupClamped := decide (mask ≠ 0), clampMask := mask }
  if x.refetch then (s.setSite n { x with refetch := false }).joinFetch n
  else
    let s1 := s.setSite n { x with buffered := some p, reload := .swapPending }
    if s1.quiet n then s1.swap n else s1

/-! ### Disable (R161 to R163) -/

/-- A tap of a disabled site becomes not received (R50). -/
def State.clearTap (s : State) (t : TapId) : State :=
  s.setTap t { s.tap t with received := false, lastSeq := none, stale := false, timer := none }

/-- The site's own starting state, and its DISABLED record (R161, R163, R151, R50). The active copy, the setup-clamped flag
and the clamp mask are kept. -/
def State.siteDown (s : State) (n : SiteId) : State :=
  let s1 := (s.setCond n {}).abandonFetch n
  let s2 := s1.setSite n
    { s1.site n with state := .disabled, buffered := none, reload := .idle, refetch := false, frozen := false }
  ((s2.clearTap (ingressTap n)).clearTap (egressTap n)).handOver [.record (siteRecord s.tick n .disabled false)]

/-- The channels a DISABLE concerns, ascending (R162). -/
def State.concerned (s : State) (n : SiteId) : List Handle :=
  allHandles.filter fun h =>
    let c := s.chan h
    decide (c.state ≠ .free) && (decide (c.srcSite = n) || decide (c.dstSite = n))

/-- The CANCELLED postings and record of a descriptor that is not the walker's (R58, R162). -/
def State.cancelItems (s : State) (h : Handle) : List Item :=
  let c := s.chan h
  match s.transOf h with
  | some (k, some d) =>
    s.outcomePosts d .cancelled (finalClamped k c) 0 h ++ [.record (outcomeRecord s .cancelled .cancelled c h d)]
  | _ => []

/-- Teardown step 1 for one channel: its transition removed or ended, its descriptor CANCELLED (R162). -/
def State.cancelOne (s : State) (h : Handle) : State := (s.dropTransition h).handOver (s.cancelItems h)

/-- Teardown step 2 for one channel (R162). -/
def State.dropLevelOf (s : State) (h : Handle) : State := s.dropLevel (s.chan h).dstSite h

/-- A RAMP message is outstanding for the channel's slot (R162, step 3). -/
def State.rampSent (s : State) (h : Handle) : Bool :=
  match (s.chan h).pending with
  | some (.slot k) => (s.slot k).any fun t => decide (t.drive = .sent)
  | some .waiting | none => false

/-- Teardown step 3 for one channel: an unbound entry if it is lit, or its RAMP message was detached in step 1 (R162). -/
def State.shutterDown (sent : List Handle) (s : State) (h : Handle) : State :=
  if (s.chan h).lit || sent.contains h then s.placeShutter h false else s

/-- Teardown step 4 for one channel (R162). -/
def State.freeDown (doomed : List Handle) (s : State) (h : Handle) : State := s.toFree h doomed

/-- The teardown of an ENABLED site (R162). -/
def State.tearDown (s : State) (n : SiteId) : State :=
  let hs := s.concerned n
  let sent := hs.filter s.rampSent
  let s1 := hs.foldl State.cancelOne s
  let s2 := hs.foldl State.dropLevelOf s1
  let s3 := hs.foldl (State.shutterDown sent) s2
  hs.foldl (State.freeDown hs) s3

/-- An accepted DISABLE, by the site's state (R161, R162, R163). -/
def State.disableSite (s : State) (n : SiteId) : State :=
  match (s.site n).state with
  | .disabled => s
  | .loading => s.siteDown n
  | .enabled => State.finish s ((s.tearDown n).siteDown n)

end Sys2Proof.Machine
end

