-- ==== Sys2Proof/Machine/LevelLoop.lean ====
section
/-!
DEFINITION. The Level Loop (Chapter 7).
-/

namespace Sys2Proof.Machine

open Sys2Proof

/-- A slot in use holds a transition whose destination site is the site (R124). -/
def State.slotTo (s : State) (n : SiteId) : Bool :=
  allSlots.any fun k => (s.slot k).any fun t => decide (t.dest = n)

/-- Level Loop status: 0 acts, else the first of the four conditions that fails (R124, R133, Table 12-12). -/
def State.loopStatus (s : State) (n : SiteId) : Nat :=
  if !s.siteOn n then 1 else if s.frozen n then 2 else if s.destHold n then 3 else if s.slotTo n then 4 else 0

/-- The correction for an error outside the deadband (R127, steps 1 to 3): err × gain / 16 truncated toward zero, at least 1
and at most S in size. -/
def correction (p : Params) (err : Int) : Int :=
  let c0 := (err * p.gain).tdiv 16
  let c1 := if c0 = 0 then (if 0 < err then 1 else -1) else c0
  if (p.step : Int) < c1 then p.step else if c1 < -(p.step : Int) then -(p.step : Int) else c1

/-- The wanted attenuation of a channel at applied setting `a` (R127). -/
def wantedAtt (p : Params) (a : Nat) (err : Int) : Int :=
  if err.natAbs ≤ p.deadband then a else a + correction p err

/-- Correct one channel of a frame (R125 to R129). -/
def State.correctOne (n : SiteId) (s : State) (h : Handle) : State :=
  let c := s.chan h
  if c.state = .active ∧ c.dstSite = n ∧ c.pending = none then
    match s.measOut c, c.applied with
    | .noLight, _ => s.setChan h { c with noLightOut := true }
    | .dt _, .blocked => s.setChan h { c with noLightOut := false }
    | .dt v, .att a =>
      let t := rangeAtt (wantedAtt (s.params n) a (v - c.target))
      let s1 := s.setChan h { c with noLightOut := false, underRange := t.underRange, overRange := t.overRange }
      if t.att = a then s1.withdrawLevel n h else s1.placeLevel n h t.att
  else s

/-- A frame of an egress tap is offered to the loop (R124, R125). -/
def State.levelLoop (s : State) (n : SiteId) : State :=
  if s.loopStatus n = 0 then allHandles.foldl (State.correctOne n) s else s

end Sys2Proof.Machine
end

