-- ==== Sys2Proof/Machine/Scan.lean ====
section
/-!
DEFINITION. The Scan Receiver and the taking of frames (Chapter 3).
-/

namespace Sys2Proof.Machine

open Sys2Proof

/-- One shift of the check register (R41). -/
def crcShift (r : Half) : Half := if r.msb then (r <<< 1) ^^^ 0x1021#16 else r <<< 1

/-- One byte into the check register (R41). -/
def crcByte (r : Half) (b : Byte) : Half :=
  let x := r ^^^ (b.setWidth 16 <<< 8)
  crcShift (crcShift (crcShift (crcShift (crcShift (crcShift (crcShift (crcShift x)))))))

/-- The check of a list of bytes: CRC-16 from 0xFFFF, polynomial 0x1021, not reflected (R41). -/
def crc16 (bytes : List Byte) : Half := bytes.foldl crcByte 0xFFFF#16

/-- Byte `i` of a frame, counting the start byte as 0 (Table 12-8). -/
def frameByte (f : List Byte) (i : Nat) : Byte := f.getD i 0

/-- Pairs of bytes, low byte first, as half-words. -/
def halves : List Byte → List Half
  | lo :: hi :: rest => (hi ++ lo) :: halves rest
  | _ => []

/-- A list cut or filled to a length. A complete frame needs no filling. -/
def fitTo : Nat → List Half → List Half
  | 0, _ => []
  | n + 1, [] => 0x8000#16 :: fitTo n []
  | n + 1, x :: rest => x :: fitTo n rest

theorem fitTo_length (n : Nat) (l : List Half) : (fitTo n l).length = n := by
  induction n generalizing l with
  | zero => rfl
  | succ n ih => cases l <;> simp [fitTo, ih]

/-- The slice values of a frame (R39). -/
def frameSlices (f : List Byte) : Vector Half 320 := ⟨⟨fitTo 320 (halves (f.drop 3))⟩, fitTo_length _ _⟩

/-- What the judgement of a complete frame finds (R42, Table 3-2). -/
inductive Judgement where
  | discarded
  | duplicate
  | good (t : TapId)
  deriving DecidableEq, Repr

/-- Judge a complete frame of 646 bytes (R42). -/
def State.judge (s : State) (f : List Byte) : Judgement :=
  if frameByte f 645 ≠ 0x7E#8 then .discarded
  else if crc16 ((f.drop 1).take 642) ≠ (frameByte f 644 ++ frameByte f 643 : Half) then .discarded
  else
    if h : (frameByte f 1).toNat < 20 then
      (if (s.tap ⟨(frameByte f 1).toNat, h⟩).lastSeq = some (frameByte f 2) then .duplicate
       else .good ⟨(frameByte f 1).toNat, h⟩)
    else .discarded

/-- Is the tap the source tap of an entry in the Wait List (R47)? -/
def State.feedsWaiting (s : State) (t : TapId) : Bool :=
  s.waitList.any fun e => decide ((s.chan e.handle).srcTap = t)

/-- Take a good frame into its tap record (R46). -/
def State.storeFrame (s : State) (t : TapId) (f : List Byte) : State :=
  let r := { s.tap t with slices := frameSlices f, received := true, lastSeq := some (frameByte f 2) }
  let n := tapSite t
  if s.siteOn n then s.setTap t { r with stale := false, timer := some (s.params n).staleLimit } else s.setTap t r

/-- The offers of a good frame, in the order of Table 3-4 (R47). -/
def State.offerFrame (s : State) (t : TapId) (wasStale : Bool) : State :=
  let n := tapSite t
  let s1 := if wasStale then s.judgeMonStale n else s
  if isSourceTap t then
    let s2 := s1.judgeIngress n
    s2.due (s2.feedsWaiting t)
  else s1.levelLoop n

/-- A good frame: stored, and offered if its tap's site is ENABLED (R46, R47). -/
def State.goodFrame (s : State) (t : TapId) (f : List Byte) : State :=
  let s1 := s.storeFrame t f
  if s.siteOn (tapSite t) then State.finish s (s1.offerFrame t (s.tap t).stale) else s1

/-- The 646th byte has been taken: the frame is judged and the receiver hunts (R38, R42, R43). -/
def State.endFrame (s : State) (f : List Byte) : State :=
  let s1 := { s with scan := { s.scan with inFrame := false, buffer := [] } }
  match s.judge f with
  | .discarded => { s1 with scan := { s1.scan with checkErrors := satInc s1.scan.checkErrors } }
  | .duplicate => s1
  | .good t => s1.goodFrame t f

/-- A byte arrives on the scan link (R38). -/
def State.takeByte (s : State) (b : Byte) : State :=
  if s.scan.inFrame then
    let f := s.scan.buffer ++ [b]
    if f.length = 646 then s.endFrame f else { s with scan := { s.scan with buffer := f } }
  else if b = 0x7E#8 then { s with scan := { s.scan with inFrame := true, buffer := [b] } }
  else s

end Sys2Proof.Machine
end

