-- ==== Sys2Proof/Machine/Walker.lean ====
section
/-!
DEFINITION. The Request Walker (Chapter 4): walks, the placing of postings, the end tests, and the decisions of the five kinds.
-/

namespace Sys2Proof.Machine

open Sys2Proof

/-! ### Walks (R66 to R70) -/

/-- A walk starts at a head and a locked burst is requested (R66, R67). -/
def State.startWalk (s : State) (head : Half) (heads : List Half) : State :=
  { s with walker := { state := .fetching, current := some head, examined := 0, halt := false, heads, fetched := none,
                       toPlace := [], ending := false },
           port := { s.port with requests := s.port.requests ++ [.walker] } }

/-- Place items in order until one must wait: each joins wherever the queue has room for it (R68, R173, R175). -/
def State.placeItems (s : State) : List Item → State × List Item
  | [] => (s, [])
  | i :: rest =>
    match s.placeItem i with
    | none => (s, i :: rest)
    | some s1 => s1.placeItems rest

/-- The walker places what it holds, as far as the queue has room for it (R68, R175). -/
def State.walkerPlaces (s : State) : State :=
  let r := s.placeItems s.walker.toPlace
  { r.1 with walker := { r.1.walker with toPlace := r.2 } }

/-- The walk's CHAIN_END record has been placed: the sticky is set, the halt flag cleared, and the next walk starts or the
walker is IDLE (R70). -/
def State.finishWalk (s : State) : State :=
  let s1 := { s with attn := { s.attn with chainEnd := true } }
  match s.walker.heads with
  | head :: rest => s1.startWalk head rest
  | [] =>
    { s1 with walker := { s.walker with state := .idle, current := none, halt := false, fetched := none, toPlace := [],
                                        ending := false } }

/-- The end-of-decision tests (R69, Table 4-6). -/
def Walker.endTest (w : Walker) (d : Desc) : Option ChainEnd :=
  if w.halt then some .halted
  else if d.endsChain then some .endOfChain
  else if !validPoolOffset d.next.toNat then some .badLink
  else if 256 ≤ w.examined then some .limit
  else none

/-- The CHAIN_END record (R70, R186). -/
def chainEndRecord (tick : Word) (w : Walker) (d : Desc) (e : ChainEnd) : Record :=
  { kind := .chainEnd, code := e.code, tick, tag := if e = .badLink then some (d.next.setWidth 32) else none,
    desc := w.current, detail := BitVec.ofNat 16 w.examined }

/-- The last posting of a decision has been placed: follow the chain, or end the walk (R69). -/
def State.followChain (s : State) : State :=
  match s.walker.fetched with
  | none => s
  | some f =>
    let d := decodeDesc f
    match s.walker.endTest d with
    | none =>
      { s with walker := { s.walker with state := .fetching, current := some d.next, fetched := none },
               port := { s.port with requests := s.port.requests ++ [.walker] } }
    | some e =>
      { s with walker := { s.walker with ending := true, toPlace := [.record (chainEndRecord s.tick s.walker d e)] } }

/-- The CHAIN_END record is placed if there is room, and the walk finished (R70). -/
def State.endWalk (s : State) : State :=
  let s1 := s.walkerPlaces
  if s1.walker.toPlace = [] then s1.finishWalk else s1

/-- In DECIDING, the walker places as far as there is room and, when all is placed, goes on (R68 to R70). -/
def State.walkerRun (s : State) : State :=
  let s1 := s.walkerPlaces
  if s1.walker.toPlace ≠ [] then s1
  else if s1.walker.ending then s1.finishWalk
  else
    let s2 := s1.followChain
    if s2.walker.ending then s2.endWalk else s2

/-! ### The end of a part grant (R178) -/

/-- A part grant of the port ends; a lock that was asserted meanwhile takes force (R178). -/
def State.endGrant (s : State) : State :=
  { s with port := { s.port with holder := .none,
                                 lock := if s.port.lock = .awaiting then .inForce else s.port.lock } }

/-! ### Decisions (R59, R71 to R76) -/

/-- What a decision answers: the state it leaves, and the postings it requires in their order (R68). -/
abbrev Decision := State × List Item

/-- The postings and record of a refusal; CLAMPED is clear (R56, R58). -/
def State.refuse (s : State) (off : Half) (d : Desc) (r : Reason) : Decision :=
  (s, s.outcomePosts off .refused false r.code d.handle ++
    [.record { kind := .refused, handle := some (BitVec.ofNat 8 d.handle.val), code := r.code, tick := s.tick,
               tag := some d.tag, desc := some off }])

/-- The postings and record of a DONE decided by the walker, with the tag (R58). -/
def State.doneItems (s : State) (off : Half) (d : Desc) (c : Channel) (clamped : Bool) : List Item :=
  s.outcomePosts off .done clamped 0 d.handle ++
    [.record { outcomeRecord s .done .done c d.handle off with tag := some d.tag }]

/-- Checks 5 to 9 of Table 4-2 for a SETUP or ADOPT, after the state check: the ends and kind, or the first reason. -/
def State.checkNew (s : State) (d : Desc) (needPreset : Bool) : Except Reason (End × End × ConnKind) :=
  if (s.chan d.handle).state ≠ .free then .error .badState
  else match d.ends with
    | none => .error .badEnd
    | some (a, b, k) =>
      if !d.rangeOk then .error .badRange
      else if !(s.siteOn a.site && s.siteOn b.site) then .error .siteOff
      else if !d.presetOk then .error .badField
      else if needPreset && d.preset.isNone then .error .badField
      else .ok (a, b, k)

/-- The channel record a taken SETUP or ADOPT fills (R13, R8). -/
def State.filled (s : State) (d : Desc) (off : Half) (a b : End) (k : ConnKind) : Channel :=
  let t := clampTarget (s.params b.site) d.target
  { state := .dark, kind := k, src := a, dst := b, first := d.first, count := d.count, target := t.1, clamped := t.2,
    desc := some off }

/-- The map checks 10 and 11: a slice entry that does not pass is CONFLICT, else a port cell that does not is PORT_BUSY
(R20, R21). -/
def State.checkMaps (s : State) (c : Channel) (pass : EntryClass → Bool) : Option Reason :=
  if !(c.slicesOf.all fun r => pass (s.classOf r)) then some .conflict
  else if !(c.cellOf.toList.all fun r => pass (s.classOf r)) then some .portBusy
  else none

/-- The decision of a SETUP (R71). -/
def State.decideSetup (s : State) (off : Half) (d : Desc) : Decision :=
  match s.checkNew d false with
  | .error r => s.refuse off d r
  | .ok (a, b, k) =>
    let c := s.filled d off a b k
    match s.checkMaps c (fun x => decide (x ≠ .blocking)) with
    | some r => s.refuse off d r
    | none =>
      let s1 := (s.reserve d.handle c.footprint).setChan d.handle c
      match s1.offer { kind := .rise, handle := d.handle, desc := some off, dest := b.site, preset := d.preset } with
      | .admitted s2 | .complete s2 => (s2.enterFlight off, s.outcomePosts off .taken c.clamped 0 d.handle)
      | .appended s2 => (s2.enterFlight off, s.outcomePosts off .waiting c.clamped 0 d.handle)
      | .full => s.refuse off d .waitFull

/-- The decision of an ADOPT (R72). -/
def State.decideAdopt (s : State) (off : Half) (d : Desc) : Decision :=
  match s.checkNew d true with
  | .error r => s.refuse off d r
  | .ok (a, b, k) =>
    let c := s.filled d off a b k
    match s.checkMaps c (fun x => decide (x = .free)) with
    | some r => s.refuse off d r
    | none =>
      match s.freeSlot with
      | none => s.refuse off d .noSlot
      | some slot =>
        let c1 := { c with state := .adjusting, pending := some (.slot slot), motion := some (.att (d.preset.getD 200)) }
        let s1 := ((s.reserve d.handle c.footprint).setChan d.handle c1).placeAdopt slot d.handle off
        (s1.enterFlight off, s.outcomePosts off .taken c.clamped 0 d.handle)

/-- The decision of a RETARGET (R73). -/
def State.decideRetarget (s : State) (off : Half) (d : Desc) : Decision :=
  let c := s.chan d.handle
  match c.state with
  | .free | .dark => s.refuse off d .badState
  | .rising | .adjusting | .falling => s.refuse off d .pending
  | .active =>
    if c.pending ≠ none then s.refuse off d .pending
    else if !d.presetOk then s.refuse off d .badField
    else
      let t := clampTarget (s.params c.dstSite) d.target
      let c1 := { c with target := t.1, clamped := t.2, desc := some off }
      let s1 := s.setChan d.handle c1
      match s1.offer { kind := .adjust, handle := d.handle, desc := some off, dest := c.dstSite, preset := d.preset } with
      | .admitted s2 => (s2.enterFlight off, s.outcomePosts off .taken t.2 0 d.handle)
      | .complete s2 => (s2, s.doneItems off d c1 t.2)
      | .appended s2 => (s2.enterFlight off, s.outcomePosts off .waiting t.2 0 d.handle)
      | .full => s.refuse off d .waitFull

/-- A RELEASE of an ACTIVE channel offers a FALL, after `s1` has dropped a waiting ADJUST whose CANCELLED items are
`before` (R74). -/
def State.offerFall (s s1 : State) (off : Half) (d : Desc) (before : List Item) : Decision :=
  let c := s1.chan d.handle
  let s2 := s1.setChan d.handle { c with desc := some off }
  match s2.offer { kind := .fall, handle := d.handle, desc := some off, dest := c.dstSite } with
  | .admitted s3 | .complete s3 => (s3.enterFlight off, before ++ s.outcomePosts off .taken false 0 d.handle)
  | .appended s3 => (s3.enterFlight off, before ++ s.outcomePosts off .waiting false 0 d.handle)
  | .full => s.refuse off d .waitFull

/-- The decision of a RELEASE (R74, R15). -/
def State.decideRelease (s : State) (off : Half) (d : Desc) : Decision :=
  let c := s.chan d.handle
  match c.state with
  | .free | .falling => s.refuse off d .badState
  | .dark => (s.toFree d.handle [], s.cancelItems d.handle ++ s.doneItems off d c false)
  | .active =>
    if s.waits d.handle .fall then s.refuse off d .pending
    else s.offerFall (s.dropTransition d.handle) off d (s.cancelItems d.handle)
  | .rising | .adjusting =>
    match c.pending with
    | some (.slot k) =>
      ((s.takeOver k d.handle off).enterFlight off,
       s.cancelItems d.handle ++ s.outcomePosts off .taken false 0 d.handle)
    | some .waiting | none => s.refuse off d .badState

/-- The decision of a MARK: the handle field is echoed, not read (R75). -/
def State.decideMark (s : State) (off : Half) (d : Desc) : Decision :=
  (s, s.outcomePosts off .done false 0 d.handle ++
    [.record { kind := .mark, code := Outc.done.code, tick := s.tick, tag := some d.tag, desc := some off }])

/-- The refusal of a descriptor in flight: a record, and neither stamp nor status (R76). -/
def State.decideInFlight (s : State) (off : Half) (d : Desc) : Decision :=
  (s, [.record { kind := .refused, handle := some (BitVec.ofNat 8 d.handle.val), code := Reason.inFlight.code,
                 tick := s.tick, tag := some d.tag, desc := some off }])

/-- The descriptor whose burst has been granted and now completes: its offset and its fields. -/
def State.fetchedDesc (s : State) : Option (Half × Desc) :=
  if s.inReset ∨ s.port.holder ≠ .walkerBurst then none
  else match s.walker.current, s.walker.fetched with
    | some off, some f => some (off, decodeDesc f)
    | _, _ => none

/-- The walker after its burst completes: the port is free, the count rises by 1, the walker is DECIDING (R67). Up to here the Journal
Writer alone had anything to place, so the room that is there went to it: it places what it holds, as far as there is room, before the
decision's postings come (R175). That it places here at the latest, and before that at HANDOVER_PLACE, is DESIGN CHOICE,
notes/assumptions/47.md. -/
def State.enterDeciding (s : State) : State :=
  let s1 := s.writerPlaces.endGrant
  { s1 with walker := { s1.walker with state := .deciding, examined := s1.walker.examined + 1 } }

/-- A decision made, its admission pass run, and its postings placed as far as there is room (R68, R90;
notes/assumptions/37.md). -/
def State.settle (before : State) (r : Decision) : State :=
  let s1 := before.finish r.1
  { s1 with walker := { s1.walker with toPlace := r.2 } }.walkerRun

/-- The step of a fetched descriptor for which `applies` holds: the burst completes and the descriptor is decided by
`decide`. It does not occur when no such descriptor has been fetched (notes/assumptions/3.md). -/
def State.decideStep (s : State) (applies : Half → Desc → Bool) (decision : State → Half → Desc → Decision) : State :=
  match s.fetchedDesc with
  | none => s
  | some (off, d) =>
    if applies off d then
      let s1 := s.enterDeciding
      s1.settle (decision s1 off d)
    else s

/-- A descriptor that passes check 1 of Table 4-2 and has a given kind code. -/
def State.isKind (s : State) (code : Byte) (off : Half) (d : Desc) : Bool :=
  !s.inFlight.contains off && decide (d.kind = code)

end Sys2Proof.Machine
end

