-- ==== Sys2Proof/Machine/Commands.lean ====
section
/-!
DEFINITION. The commands of the command cell (R60 to R64): each gives a result and, when ACCEPTED, its effect.
-/

namespace Sys2Proof.Machine

open Sys2Proof

/-- GO (R61). -/
def State.commandGo (s : State) (operand : BitVec 24) : State × CmdResult :=
  if !validPoolOffset operand.toNat then (s, .badOperand)
  else
    let head : Half := operand.setWidth 16
    if s.walker.state = .idle then (s.startWalk head s.walker.heads, .accepted)
    else if s.walker.heads.length < 4 then
      ({ s with walker := { s.walker with heads := s.walker.heads ++ [head] } }, .accepted)
    else (s, .queueFull)

/-- HALT (R62). Taken while the halt flag is already set, it is ACCEPTED and has no further effect: a head queued since the first
HALT stays. -/
def State.commandHalt (s : State) : State × CmdResult :=
  if s.walker.state = .idle then (s, .state)
  else if s.walker.halt then (s, .accepted)
  else ({ s with walker := { s.walker with heads := [], halt := true } }, .accepted)

/-- The sites a mask names, ascending (R63). -/
def maskSites (operand : BitVec 24) : List SiteId := allSites.filter fun n => operand.getLsbD n.val

/-- Write a site's freeze flag. -/
def State.setFreeze (v : Bool) (s : State) (n : SiteId) : State := s.setSite n { s.site n with frozen := v }

/-- FREEZE (R63, R143). -/
def State.commandFreeze (s : State) (operand : BitVec 24) : State × CmdResult :=
  if 1024 ≤ operand.toNat then (s, .badOperand)
  else
    let ns := maskSites operand
    let changed := ns.filter fun n => !s.frozen n
    (((ns.foldl (State.setFreeze true) s)).rehold changed, .accepted)

/-- THAW (R63, R143, R144): a pass follows when a set flag is cleared. -/
def State.commandThaw (s : State) (operand : BitVec 24) : State × CmdResult :=
  if 1024 ≤ operand.toNat then (s, .badOperand)
  else
    let ns := maskSites operand
    let changed := ns.filter fun n => s.frozen n
    (State.finish s ((((ns.foldl (State.setFreeze false) s)).rehold changed).due (decide (changed ≠ []))), .accepted)

/-- ENABLE (R64, R157). -/
def State.commandEnable (s : State) (operand : BitVec 24) : State × CmdResult :=
  match siteOperand operand with
  | none => (s, .badOperand)
  | some n => if (s.site n).state = .disabled then (s.enableSite n, .accepted) else (s, .state)

/-- DISABLE (R64, R161, R162). -/
def State.commandDisable (s : State) (operand : BitVec 24) : State × CmdResult :=
  match siteOperand operand with
  | none => (s, .badOperand)
  | some n => if (s.site n).state = .disabled then (s, .state) else (s.disableSite n, .accepted)

/-- RELOAD (R64, R158). -/
def State.commandReload (s : State) (operand : BitVec 24) : State × CmdResult :=
  match siteOperand operand with
  | none => (s, .badOperand)
  | some n => if (s.site n).state = .enabled then (s.reloadSite n, .accepted) else (s, .state)

/-- Record a command taken: the count wraps, the code and result replace the previous ones (R60). -/
def State.logCommand (r : State × CmdResult) (code : Byte) : State :=
  { r.1 with cmd := { count := r.1.cmd.count + 1, code, result := r.2.code } }

/-- The result and effect of a command by its code; a code that is none of the seven is UNKNOWN (R60). -/
def State.command (s : State) (code : Byte) (operand : BitVec 24) : State × CmdResult :=
  match code.toNat with
  | 1 => s.commandGo operand
  | 2 => s.commandHalt
  | 3 => s.commandFreeze operand
  | 4 => s.commandThaw operand
  | 5 => s.commandEnable operand
  | 6 => s.commandDisable operand
  | 7 => s.commandReload operand
  | _ => (s, .unknown)

/-- A full-word write of the command cell is taken (R60). -/
def State.takeCommand (s : State) (w : Word) : State :=
  let code : Byte := w.extractLsb 31 24
  State.logCommand (s.command code (w.extractLsb 23 0)) code

end Sys2Proof.Machine
end

