-- ==== Sys2Proof/Machine/Flags.lean ====
section
/-!
DEFINITION. The flag words and derived lines of the part: causes and masks of the attention line (R187, R188), sticky words
(R171), the lock's derived facts (R178).
-/

namespace Sys2Proof.Machine

open Sys2Proof

/-- The sticky flags of a site by condition index, bits 3..0 (Table 12-5). -/
def CondRec.stickyBits (r : CondRec) : Word :=
  flagAt r.inLos.sticky 0 ||| flagAt r.inHigh.sticky 1 ||| flagAt r.modFault.sticky 2 ||| flagAt r.monStale.sticky 3

/-- The live flags of a site by condition index, in bits 3..0. -/
def CondRec.liveBits (r : CondRec) : Word :=
  flagAt r.inLos.live 0 ||| flagAt r.inHigh.live 1 ||| flagAt r.modFault.live 2 ||| flagAt r.monStale.live 3

/-- JOURNAL_LEVEL: the fill is above the journal level threshold (R187). -/
def State.journalLevel (s : State) : Bool := decide (s.latches.journalThr.toNat < s.journal.fill)

/-- WAIT_LEVEL: the Wait List has more entries than the wait level threshold (R187). -/
def State.waitLevel (s : State) : Bool := decide (s.latches.waitThr.toNat < s.waitList.length)

/-- The true bridge causes, in the bits of mask B0 (Table 12-1). -/
def State.causesB0 (s : State) : Word :=
  flagAt s.journalLevel 0 ||| flagAt s.waitLevel 1 ||| flagAt s.attn.chainEnd 2 ||| flagAt s.attn.consumerBad 3

/-- The true site causes of sites 0..7, in the bits of mask S0 (Table 12-1). -/
def State.causesS0 (s : State) : Word :=
  (allSites.filter fun n => decide (n.val < 8)).foldl (fun w n => w ||| ((s.cond n).stickyBits <<< (4 * n.val))) 0

/-- The true site causes of sites 8 and 9, in the bits of mask S1 (Table 12-1). -/
def State.causesS1 (s : State) : Word := (s.cond 8).stickyBits ||| ((s.cond 9).stickyBits <<< 4)

/-- The causes that are true and unmasked (R188, R189). -/
def State.activeB0 (s : State) : Word := s.causesB0 &&& ~~~s.latches.maskB0
def State.activeS0 (s : State) : Word := s.causesS0 &&& ~~~s.latches.maskS0
def State.activeS1 (s : State) : Word := s.causesS1 &&& ~~~s.latches.maskS1

/-- The attention line is asserted: a cause is true and unmasked, and the reset input is not asserted (R188). -/
def State.attention (s : State) : Bool :=
  !s.inReset && (decide (s.activeB0 ≠ 0) || decide (s.activeS0 ≠ 0) || decide (s.activeS1 ≠ 0))

/-- The lock timer runs while the lock is in force and a part request waits (R178). Its microseconds are not counted
(notes/assumptions/4.md). -/
def State.lockTimerRuns (s : State) : Bool := decide (s.port.lock = .inForce) && s.partWaits

/-- A sticky flag cleared by a read unless its condition is live (R171). -/
def CondFlag.readClear (f : CondFlag) : CondFlag := if f.live then f else { f with sticky := false }

/-- The clear of a sticky word on a read whose enables assert the sticky byte's lane (R171). -/
def State.clearSticky (s : State) (w : StickyWord) (enables : BitVec 4) : State :=
  if enables.getLsbD 0 then
    match w with
    | .bridge => { s with attn := { chainEnd := false, consumerBad := false } }
    | .site n =>
      let r := s.cond n
      s.setCond n { r with inLos := r.inLos.readClear, inHigh := r.inHigh.readClear, modFault := r.modFault.readClear,
                           monStale := r.monStale.readClear }
  else s

end Sys2Proof.Machine
end

