-- ==== Sys2Proof/Machine/Views.lean ====
section
/-!
DEFINITION. The words of the status views (R194, Tables 12-4 to 12-6), each evaluated from the state at the read.
-/

namespace Sys2Proof.Machine

open Sys2Proof

/-- A pool offset in a view is an index, the offset being 0x4000 + 32 × index (R190). -/
def poolIndex (o : Half) : Nat := (o.toNat - 0x4000) / 32

/-- The high bits of a 40-bit quantity. -/
def high8 (n : Nat) : Nat := n / 2 ^ 32

/-! ### Live channel view (Table 12-4) -/

/-- An end in a view: bits 1..0 form, bit 2 group, bits 6..3 number. -/
def End.viewBits : End → Nat
  | .degree i => 1 + 8 * i.val
  | .addPort g p => 2 + 4 * g.val + 8 * p.val
  | .dropPort g p => 3 + 4 * g.val + 8 * p.val

/-- Word 0 of a live channel record. -/
def channelWord0 (c : Channel) : Word :=
  field c.state.code 0 ||| field c.kind.code 3 ||| flagAt c.underRange 5 ||| flagAt c.overRange 6 |||
    flagAt c.noLightOut 7 ||| flagAt c.unconfirmed 8 ||| flagAt c.clamped 9 |||
    field (c.shutteredBy.elim 15 (·.val)) 10 ||| field c.applied.code 14 |||
    field (c.motion.elim 255 Setting.code) 22 |||
    flagAt (match c.pending with
      | some (.slot _) => true
      | some .waiting | none => false) 30 |||
    flagAt c.desc.isSome 31

/-- The kind of a channel's transition, and its held flag (slot) or barrier flag (waiting), for word 1. -/
def State.viewTrans (s : State) (h : Handle) : Nat × Bool :=
  match (s.chan h).pending with
  | none => (0, false)
  | some .waiting => (s.entryOf h).elim (0, false) fun e => (e.kind.code, e.barrier)
  | some (.slot k) => (s.slot k).elim (0, false) fun t => (t.kind.code, t.held)

/-- Word 1 of a live channel record. -/
def State.channelWord1 (s : State) (h : Handle) : Word :=
  let c := s.chan h
  let t := s.viewTrans h
  field c.src.viewBits 0 ||| field c.dst.viewBits 7 ||| field c.first 14 ||| field c.count 23 ||| field t.1 28 |||
    flagAt t.2 31

/-- Word 2 of a live channel record. -/
def State.channelWord2 (s : State) (h : Handle) : Word :=
  let c := s.chan h
  field (BitVec.ofInt 10 c.target).toNat 0 ||| field (levelBits 11 (s.measIn c)).toNat 10 |||
    field (levelBits 11 (s.measOut c)).toNat 21

/-- A waiting entry's position, counted from the oldest as 1 (R100). -/
def State.position (s : State) (h : Handle) : Nat := s.waitList.findIdx (fun e => decide (e.handle = h)) + 1

/-- Word 3 of a live channel record. -/
def State.channelWord3 (s : State) (h : Handle) : Word :=
  let c := s.chan h
  field (c.desc.elim 0 poolIndex) 0 |||
    (match c.pending with
    | none => 0
    | some .waiting => (s.entryOf h).elim 0 fun e => field (s.position h) 9 ||| field e.skip 16
    | some (.slot k) => (s.slot k).elim 0 fun t =>
      field k.val 9 ||| field t.drive.code 13 ||| field (levelBits 11 (log t.swing)).toNat 15)

/-- A word of the live channel view (Table 12-4). -/
def State.channelView (s : State) (h : Handle) (i : Nat) : Word :=
  match i with
  | 0 => channelWord0 (s.chan h)
  | 1 => s.channelWord1 h
  | 2 => s.channelWord2 h
  | _ => s.channelWord3 h

/-! ### Site status view (Table 12-5) -/

/-- Word 0x00 of a site view. -/
def State.siteWord0 (s : State) (n : SiteId) : Word :=
  let r := s.cond n
  let x := s.site n
  r.stickyBits ||| (r.liveBits <<< 4) ||| flagAt (s.sourceHold n) 8 ||| flagAt (s.destHold n) 9 ||| flagAt x.frozen 10 |||
    flagAt r.restoreDeferred 11 ||| flagAt r.holdOff.isSome 12 ||| flagAt r.firstLos.isSome 13 |||
    flagAt r.lastLos.isSome 14 ||| flagAt (s.quiet n) 15 ||| field x.state.code 16 ||| field x.reload.code 18 |||
    flagAt (s.setup.queue.contains n) 20 ||| flagAt x.refetch 21 ||| flagAt x.buffered.isSome 22 |||
    flagAt x.setupClamped 23 ||| field (s.loopStatus n) 24

/-- A tap's word of a site view (0x10, 0x14). -/
def tapWord (t : Tap) : Word :=
  flagAt t.received 0 ||| flagAt t.stale 1 ||| flagAt t.lastSeq.isSome 2 ||| field (t.lastSeq.elim 0 BitVec.toNat) 8 |||
    field (levelBits 16 (tapLevel t)).toNat 16

/-- The committed swing, T_D and limit a site view reports; a group site's read as 0 (R194). -/
def State.siteTotals (s : State) (n : SiteId) : Nat × Nat × Nat :=
  match SiteId.degree? n with
  | none => (0, 0, 0)
  | some d => (s.swingOf d, s.modelledTotal d, s.limit d)

/-- Channels shuttered-by a site. -/
def State.shutteredBySite (s : State) (n : SiteId) : List Handle :=
  allHandles.filter fun h => decide ((s.chan h).shutteredBy = some n)

/-- Word 0x24 of a site view. -/
def State.siteWord9 (s : State) (n : SiteId) : Word :=
  let l := s.link n
  let v := s.siteTotals n
  field (high8 v.2.1) 0 ||| field (high8 v.2.2) 8 ||| field l.seq.toNat 16 |||
    field (l.out.elim 0 fun o => o.msg.cls.code) 24 ||| field l.queue.length 26

/-- Word 0x28 of a site view. -/
def State.siteWord10 (s : State) (n : SiteId) : Word :=
  let l := s.link n
  let hs := s.shutteredBySite n
  field l.shutters.length 0 ||| field hs.length 9 ||| field (hs.filter fun h => s.waits h .restore).length 18 |||
    field (levelCount l.queue) 27

/-- A 16-bit signed level in a half of a word. -/
def half16 (t : Int) (lo : Nat) : Word := field (BitVec.ofInt 16 t).toNat lo

/-- A word of a site status view (Table 12-5). A bit that the table neither lists nor marks zero (0x00 bits 31..27,
0x10 and 0x14 bits 7..3, 0x30 bits 31..24) reads 0: DESIGN CHOICE, notes/assumptions/42.md. -/
def State.siteView (s : State) (n : SiteId) (i : Nat) : Word :=
  let r := s.cond n
  let p := s.params n
  let v := s.siteTotals n
  match i with
  | 0 => s.siteWord0 n
  | 1 => r.firstLos.getD 0
  | 2 => r.lastLos.getD 0
  | 3 => field (r.holdOff.getD 0) 0 ||| field (s.site n).clampMask.toNat 16
  | 4 => tapWord (s.tap (ingressTap n))
  | 5 => tapWord (s.tap (egressTap n))
  | 6 => field v.1 0
  | 7 => field v.2.1 0
  | 8 => field v.2.2 0
  | 9 => s.siteWord9 n
  | 10 => s.siteWord10 n
  | 11 => field p.step 0 ||| field p.pacing 8 ||| field p.il 16 ||| field p.budget 24
  | 12 =>
    field p.deadband 0 ||| field p.gain 8 ||| field p.inLosAct.code 16 ||| field p.inHighAct.code 18 |||
      field p.modFaultAct.code 20 ||| field p.monStaleAct.code 22
  | 13 => half16 p.lmin 0 ||| half16 p.lmax 16
  | 14 => half16 p.los 0 ||| half16 p.high 16
  | _ => field p.staleLimit 0 ||| field p.holdOff 16

/-! ### Bridge status view (Table 12-6) -/

/-- The lock state code; a lock that waits for a part grant to end has no stated code (notes/assumptions/16.md). -/
def State.lockCode (s : State) : Nat :=
  match s.port.lock with
  | .off => 0
  | .inForce => 1
  | .broken => 2
  | .awaiting => (Config.awaitingLockCode s.freeIndex).toNat

/-- Slots in use (R100). -/
def State.slotsInUse (s : State) : Nat := (allSlots.filter fun k => (s.slot k).isSome).length

/-- A word of the bridge status view (Table 12-6). In word 0x00 the table names the bits of 1..0 and of 10..8 without saying which
name has which bit; the first named has the lowest bit, as Table 12-5 does where it says "from bit 8": DESIGN CHOICE,
notes/assumptions/41.md. A bit that the table neither lists nor marks zero reads 0: DESIGN CHOICE, notes/assumptions/42.md. -/
def State.bridgeView (s : State) (i : Nat) : Word :=
  let w := s.walker
  match i with
  | 0 =>
    flagAt s.attn.chainEnd 0 ||| flagAt s.attn.consumerBad 1 ||| flagAt s.journalLevel 8 ||| flagAt s.waitLevel 9 |||
      flagAt s.attention 10 ||| field (0xF0 + s.straps.toNat) 16
  | 1 => field s.cmd.count.toNat 0 ||| field s.cmd.code.toNat 16 ||| field s.cmd.result.toNat 24
  | 2 =>
    field w.state.code 0 ||| flagAt w.halt 2 ||| flagAt w.current.isSome 3 ||| field w.heads.length 4 |||
      field (w.current.elim 0 poolIndex) 16
  | 3 => field w.examined 0 ||| field s.waitList.length 16 ||| field s.slotsInUse 24
  | 4 =>
    field (s.waitList.filter fun e => e.barrier).length 0 ||| field s.queue.length 8 ||| field s.lockCode 16 |||
      field s.port.fairness 24
  | 5 => field s.port.holder.code 0 ||| field s.inFlight.length 16
  | 6 => field s.scan.gapCount.toNat 0 ||| field s.scan.checkErrors.toNat 16
  | 7 => field s.suppressed.toNat 0 ||| field s.port.lockBreaks.toNat 16
  | 8 => field s.journal.produced.toNat 0 ||| field s.journal.consumer.toNat 16
  | 9 => field s.journal.fill 0 ||| field s.journal.lost.toNat 16
  | 10 => field s.journal.handOver.length 0 ||| field (recordCount s.journal.handOver) 16
  | 11 => s.activeB0
  | 12 => s.activeS0
  | 13 => s.activeS1
  | _ => 0

/-- The word a view answers at a window offset, for the offsets of the three views (R169). -/
def State.viewWord (s : State) (offset : Nat) : Word :=
  if offset < 0x0440 then s.bridgeView ((offset - 0x0400) / 4)
  else if offset < 0x0A80 then
    (if h : (offset - 0x0800) / 64 < 10 then s.siteView ⟨(offset - 0x0800) / 64, h⟩ ((offset - 0x0800) % 64 / 4) else 0)
  else
    (if h : (offset - 0x1000) / 16 < 256 then s.channelView ⟨(offset - 0x1000) / 16, h⟩ ((offset - 0x1000) % 16 / 4) else 0)

end Sys2Proof.Machine
end

