-- ==== Sys2Proof/Machine/Path.lean ====
section
/-!
DEFINITION. The memory path (Chapter 10): the treatment of controller cycles (Table 10-1), latches, suppression, clear on read,
the Arbiter's grants (Table 10-3) and the draining of postings.
-/

namespace Sys2Proof.Machine

open Sys2Proof

/-! ### Answers and SRAM accesses -/

/-- The data lines of a completed read: the value on the lanes whose enable is asserted; the other lanes carry no meaning
(R169) and are free values. -/
def readLanes (free : Nat) (enables : BitVec 4) (w : Word) : Word :=
  let pick (i : Nat) : Byte := if enables.getLsbD i then lane w i else Config.idleLane (4 * free + i)
  ofLanes (pick 0) (pick 1) (pick 2) (pick 3)

/-- Complete a controller read with a word. -/
def State.answer (s : State) (enables : BitVec 4) (w : Word) : State :=
  { s with lastRead := some (readLanes s.freeIndex enables w), freeIndex := s.freeIndex + 1 }

/-- A controller cycle on the memory bus: a write reaches the SRAM with its data and byte enables, a read returns the SRAM's
data (R166). -/
def State.busAccess (s : State) (c : BusCycle) : State :=
  match c.dir with
  | .write => { s with mem := Memory.writeLanes s.mem c.byteAddress c.enables c.data }
  | .read => s.answer c.enables (Memory.readWord s.mem c.byteAddress)

/-- A controller cycle waits for its grant (R167). -/
def State.holdCycle (s : State) (c : BusCycle) : State :=
  { s with port := { s.port with waiting := s.port.waiting ++ [c] } }

/-! ### Table 10-1 -/

/-- The views' offsets. -/
def inView (o : Nat) : Bool :=
  decide (0x0400 ≤ o ∧ o < 0x0440) || decide (0x0800 ≤ o ∧ o < 0x0A80) || decide (0x1000 ≤ o ∧ o < 0x2000)
/-- The descriptor pool's offsets. -/
def inPool (o : Nat) : Bool := decide (0x4000 ≤ o ∧ o < 0x8000)
/-- The journal ring's offsets. -/
def inRing (o : Nat) : Bool := decide (0x8000 ≤ o ∧ o < 0x9000)

/-- The status or stamp word of an in-flight descriptor (R170). -/
def State.ownedWord (s : State) (o : Nat) : Bool :=
  inPool o && decide (24 ≤ o % 32) && s.inFlight.contains (descOf (BitVec.ofNat 16 o))

/-- A write at this offset is suppressed (R170). -/
def State.suppresses (s : State) (o : Nat) : Bool := inView o || inRing o || s.ownedWord o

/-- The effect on the part of a full-word write of a control cell, beside its forwarding (R60, R168). -/
def State.controlWrite (s : State) (o : Nat) (w : Word) : State :=
  if o = 0x0000 then s.takeCommand w
  else if o = 0x0004 then s.offerConsumer (lowHalf w)
  else if o = 0x0008 then { s with latches := { s.latches with journalThr := w.setWidth 8 } }
  else if o = 0x000C then { s with latches := { s.latches with waitThr := waitThreshold w } }
  else if o = 0x0010 then { s with latches := { s.latches with maskB0 := w } }
  else if o = 0x0014 then { s with latches := { s.latches with maskS0 := w } }
  else if o = 0x0018 then { s with latches := { s.latches with maskS1 := w } }
  else if o = 0x001C then { s with latches := { s.latches with probe := w } }
  else s

/-- A forwarded write merges into the queued word at its address (R174). -/
def State.mergeQueued (s : State) (o : Nat) (enables : BitVec 4) (data : Word) : State :=
  { s with queue := s.queue.map fun p => p.mergeAt (BitVec.ofNat 16 o) enables data }

/-- A controller write in the window arrives (R167, Table 10-1). -/
def State.windowWrite (s : State) (o : Nat) (c : BusCycle) : State :=
  if s.suppresses o then { s with suppressed := satInc s.suppressed }
  else
    let s1 := (s.holdCycle c).mergeQueued o c.enables c.data
    if c.enables = 0xF#4 then s1.controlWrite o c.data else s1

/-- The sticky word at an offset, if there is one (R171). -/
def stickyAt (o : Nat) : Option StickyWord :=
  if o = 0x0400 then some .bridge
  else if h : 0x0800 ≤ o ∧ o < 0x0A80 ∧ o % 64 = 0 then some (.site ⟨(o - 0x0800) / 64, by omega⟩)
  else none

/-- A read of a view: the word is sampled and returned, then a sticky word is cleared (R169, R171). -/
def State.viewRead (s : State) (o : Nat) (enables : BitVec 4) : State :=
  let s1 := s.answer enables (s.viewWord o)
  match stickyAt o with
  | none => s1
  | some w => s1.clearSticky w enables

/-- A controller read in the window arrives (R167, Table 10-1). -/
def State.windowRead (s : State) (o : Nat) (c : BusCycle) : State :=
  if o = 0x001C then s.answer c.enables (~~~s.latches.probe)
  else if inView o then s.viewRead o c.enables
  else if inPool o || inRing o then
    match s.queue.find? (fun p => p.holds (BitVec.ofNat 16 o)) with
    | some p => s.answer c.enables (p.wordAt (BitVec.ofNat 16 o))
    | none => s.holdCycle c
  else s.holdCycle c

/-- A controller cycle arrives: passed through while the reset input is asserted (R180), held for its grant outside the
window (R166), else treated by Table 10-1. -/
def State.arrive (s : State) (c : BusCycle) : State :=
  if s.inReset then s.busAccess c
  else match windowOffset s.base c.byteAddress with
    | none => s.holdCycle c
    | some o => match c.dir with
      | .write => s.windowWrite o c
      | .read => s.windowRead o c

/-- A full-word controller write of the control cell at an offset arrives. Its row names the effect, `effect`; the write also
reaches the SRAM (R167). While the reset input is asserted it only passes through (R180). -/
def State.cellWrite (s : State) (o : Nat) (w : Word) (effect : State → State) : State :=
  let c := cycleAt s.base o .write 0xF#4 w
  if s.inReset then s.busAccess c else effect (s.holdCycle c)

/-! ### Grants (R176 to R179) -/

/-- Grant the oldest waiting controller cycle: it is made whole (notes/assumptions/8.md), and counts for fairness while a
part request waits (R177). -/
def State.grantController (s : State) : State :=
  match s.port.waiting with
  | [] => s
  | c :: rest =>
    let f := if s.partWaits then min 8 (s.port.fairness + 1) else 0
    { s with port := { s.port with waiting := rest, fairness := f, lastController := true } }.busAccess c

/-- The port goes to a part request: the fairness count is 0 again (R177). -/
def Port.grantPart (p : Port) (h : Holder) (requests : List Burst) : Port :=
  { p with holder := h, requests, fairness := 0, lastController := false }

/-- The words of a walker burst, as they stand at the grant (R67, R179). -/
def State.walkerWords (s : State) (off : Half) : Fetch :=
  let w (i : Nat) := s.sramWord (off.toNat + 4 * i)
  { w0 := w 0, w1 := w 1, w2 := w 2, w3 := w 3, w4 := w 4, w5 := w 5 }

/-- The words of a site's setup record, as they stand at the grant (R154, R156). -/
def State.setupWords (s : State) (n : SiteId) : Vector Word 16 :=
  let w (i : Nat) := s.sramWord (0x0100 + 64 * n.val + 4 * i)
  ⟨⟨[w 0, w 1, w 2, w 3, w 4, w 5, w 6, w 7, w 8, w 9, w 10, w 11, w 12, w 13, w 14, w 15]⟩, rfl⟩

/-- Grant the oldest burst request (R176, case 5). -/
def State.grantBurst (s : State) : State :=
  match s.port.requests with
  | [] => s
  | .walker :: rest =>
    { s with port := s.port.grantPart .walkerBurst rest,
             walker := { s.walker with fetched := s.walker.current.map s.walkerWords } }
  | .setup :: rest =>
    { s with port := s.port.grantPart .setupBurst rest,
             setup := { s.setup with burst := s.setup.queue.head?.map fun n =>
               { site := n, words := s.setupWords n, discard := false } } }

/-- Grant the queue head (R176). -/
def State.grantPosting (s : State) : State := { s with port := s.port.grantPart .posting s.port.requests }

/-- The Arbiter chooses by the first case of Table 10-3 that applies (R176). With no part request waiting the fairness
count is 0 (R177), so case 4 applies. -/
def State.grant (s : State) : State :=
  let ctl := decide (s.port.waiting ≠ [])
  if s.inReset ∨ s.port.holder ≠ .none then s
  else if s.port.lock = .inForce then s.grantController
  else if 24 ≤ s.queue.length then
    (if ctl then (if s.port.lastController then s.grantPosting else s.grantController) else s.grantPosting)
  else if ctl && (decide (s.port.fairness < 8) || !s.partWaits) then s.grantController
  else if s.port.requests ≠ [] then s.grantBurst
  else if s.queue ≠ [] then s.grantPosting
  else s

/-! ### Postings reach the SRAM (R172, R179, R180) -/

/-- The memory-bus writes of an entry, in order: window offset and word. R172 gives a record posting four consecutive writes and does
not say in which order; the model makes them from word 0 to word 3: DESIGN CHOICE, notes/assumptions/48.md. -/
def Posting.writes : Posting → List (Nat × Word)
  | .word a w _ => [(a.toNat, w)]
  | .record a w0 w1 w2 w3 => [(a.toNat, w0), (a.toNat + 4, w1), (a.toNat + 8, w2), (a.toNat + 12, w3)]

/-- Make memory-bus writes in order. -/
def State.sramWrites (s : State) (l : List (Nat × Word)) : State := l.foldl (fun t w => t.sramPut w.1 w.2) s

/-- The queue head finishes its writes and leaves (R172); its grant ends (R178). -/
def State.drain (s : State) : State :=
  if s.inReset ∨ s.port.holder ≠ .posting then s
  else match s.queue with
    | [] => s
    | p :: rest => (({ s.sramWrites p.writes with queue := rest }).endGrant).leaveFlight p

end Sys2Proof.Machine
end

