-- ==== Sys2Proof/Machine/Answers.lean ====
section
/-!
DEFINITION. The meanings of acknowledgements, timeouts and countdown expiries (Chapters 6 and 8).
-/

namespace Sys2Proof.Machine

open Sys2Proof

/-- The items a completing transition hands over: DONE with its postings, or RESTORED (R107, step 3). -/
def State.doneLater (s : State) (t : Slot) : List Item :=
  let c := s.chan t.handle
  match t.desc with
  | some d =>
    s.outcomePosts d .done (finalClamped t.kind c) 0 t.handle ++ [.record (outcomeRecord s .done .done c t.handle d)]
  | none =>
    if t.kind = .restore then
      [.record { kind := .restored, site := t.restoreSite, handle := some (BitVec.ofNat 8 t.handle.val),
                 code := Outc.done.code, tick := s.tick }]
    else []

/-- A transition completes (R107, steps 1 to 4; the pass is the event's). -/
def State.complete (s : State) (t : Slot) : State :=
  let items := s.doneLater t
  let s1 := if t.kind = .fall then s.toFree t.handle []
    else
      let s0 := s.dropTransition t.handle
      s0.setChan t.handle { s0.chan t.handle with state := .active }
  (s1.handOver items).rerunDeferred

/-- The answer to a RAMP message bound to a slot (R106, R108, R110). -/
def State.rampAnswer (s : State) (k : SlotId) (setting : Setting) (ok : Bool) : State :=
  match s.slot k with
  | none => s
  | some t =>
    if ok then
      let c := s.chan t.handle
      let s1 := s.setChan t.handle { c with applied := setting, unconfirmed := false }
      if c.motion = some setting then s1.complete t else s1.leaveSent k
    else s.leaveSent k

/-- The answer to a message bound to a channel: a LEVEL (R120) or a bound SHUTTER (R119). -/
def State.channelAnswer (s : State) (h : Handle) (m : SettingMsg) (ok : Bool) : State :=
  let c := s.chan h
  match m.cls with
  | .level => if ok then s.setChan h { c with applied := m.setting, unconfirmed := false } else s
  | .shutter => s.setChan h { c with unconfirmed := !ok }
  | .ramp => s

/-- What an answer does by its message's class and binding; a detached or unbound message touches nothing (R111). -/
def State.classAnswer (s : State) (o : Outstanding) (ok : Bool) : State :=
  match o.bind with
  | .slot k => s.rampAnswer k o.msg.setting ok
  | .channel h => s.channelAnswer h o.msg ok
  | .detached => s

/-- The end of an answer's event: swaps and the admission pass, and last the module, free again, is sent its next message
(R89, R114). -/
def State.closeAnswer (before s : State) (m : SiteId) : State :=
  let s1 := State.finish before s
  (s1.setLink m { s1.link m with out := none }).kick m

/-- The module counts as busy, with a message that is bound to nothing, until the answer's event ends (R114). -/
def State.busy (s : State) (m : SiteId) : State :=
  s.setLink m { s.link m with out := (s.link m).out.map fun o => { o with bind := .detached } }

/-- MOD_FAULT of a module after an answer (R121). -/
def State.faultAnswer (s : State) (m : SiteId) (ok : Bool) : State := if ok then s.clearModFault m else s.raiseModFault m

/-- The outstanding message of a module ends: by an OK, or by a REJECT or timeout. Its class rule is taken, then MOD_FAULT
(R121), then the event's swaps and pass, and last the module's next message is sent (R114; notes/assumptions/17.md). -/
def State.messageEnds (s : State) (m : SiteId) (ok : Bool) : State :=
  match (s.link m).out with
  | none => s
  | some o => s.closeAnswer (((s.busy m).classAnswer o ok).faultAnswer m ok) m

/-- The outcome byte of an acknowledgement: OK 1, REJECT 2, else discarded (R196, Table 12-12). -/
def ackOutcome (b : Byte) : Option Bool := if b = 1 then some true else if b = 2 then some false else none

/-- The three tests of R115. -/
def State.ackMatches (s : State) (link : SiteId) (module seq : Byte) : Bool :=
  decide (module.toNat = link.val) && (s.link link).out.any fun o => decide (o.msg.seq = seq)

/-- An acknowledgement arrives (R115, R196). While the reset input is asserted it is discarded (R122). -/
def State.takeAck (s : State) (link : SiteId) (module seq outcome : Byte) : State :=
  if s.inReset then s
  else match ackOutcome outcome with
    | none => s
    | some ok => if s.ackMatches link module seq then s.messageEnds link ok else s

/-- A module's ack timer has expired (R116). -/
def State.ackExpires (s : State) (m : SiteId) : State :=
  if s.inReset = false ∧ ((s.link m).out.any fun o => decide (o.timer = 0)) = true then s.messageEnds m false else s

/-- A slot's pacing countdown has expired (R105). -/
def State.pacingExpires (s : State) (k : SlotId) : State :=
  if s.inReset = false ∧ ((s.slot k).any fun t => decide (t.drive = .pacing 0)) = true then s.placeRamp k else s

/-- A site's restore hold-off has expired (R149). -/
def State.holdOffExpires (s : State) (n : SiteId) : State :=
  if s.inReset = false ∧ (s.cond n).holdOff = some 0 then State.finish s (s.expireHoldOff n) else s

/-- ACK_RECEIVED (R115). -/
def execAckReceived (link : SiteId) (module seq outcome : Byte) (s : State) : Host.Outcome State Fault Refusal :=
  .next (s.takeAck link module seq outcome)

/-- ACK_TIMEOUT (R116). -/
def execAckTimeout (module : SiteId) (s : State) : Host.Outcome State Fault Refusal := .next (s.ackExpires module)

/-- PACING_EXPIRY (R105). -/
def execPacingExpiry (slot : SlotId) (s : State) : Host.Outcome State Fault Refusal := .next (s.pacingExpires slot)

/-- HOLD_OFF_EXPIRY (R149). -/
def execHoldOffExpiry (site : SiteId) (s : State) : Host.Outcome State Fault Refusal := .next (s.holdOffExpires site)

end Sys2Proof.Machine
end

