-- ==== Sys2Proof/Machine/CommandCell.lean ====
section
/-!
DEFINITION. The meanings of the command-cell writes and of the other control-cell writes: each is a full-word controller write
that also reaches the SRAM (R60, R168, R185). While the reset input is asserted each only passes through (R180).
-/

namespace Sys2Proof.Machine

open Sys2Proof

/-- GO, code 0x01 (R61). -/
def execGo (operand : BitVec 24) (s : State) : Host.Outcome State Fault Refusal :=
  .next (s.cellWrite 0x0000 (commandWord 0x01 operand) fun t => State.logCommand (t.commandGo operand) 0x01)

/-- HALT, code 0x02 (R62). -/
def execHalt (operand : BitVec 24) (s : State) : Host.Outcome State Fault Refusal :=
  .next (s.cellWrite 0x0000 (commandWord 0x02 operand) fun t => State.logCommand t.commandHalt 0x02)

/-- FREEZE, code 0x03 (R63). -/
def execFreeze (operand : BitVec 24) (s : State) : Host.Outcome State Fault Refusal :=
  .next (s.cellWrite 0x0000 (commandWord 0x03 operand) fun t => State.logCommand (t.commandFreeze operand) 0x03)

/-- THAW, code 0x04 (R63). -/
def execThaw (operand : BitVec 24) (s : State) : Host.Outcome State Fault Refusal :=
  .next (s.cellWrite 0x0000 (commandWord 0x04 operand) fun t => State.logCommand (t.commandThaw operand) 0x04)

/-- ENABLE, code 0x05 (R157). -/
def execEnable (operand : BitVec 24) (s : State) : Host.Outcome State Fault Refusal :=
  .next (s.cellWrite 0x0000 (commandWord 0x05 operand) fun t => State.logCommand (t.commandEnable operand) 0x05)

/-- DISABLE, code 0x06 (R162). -/
def execDisable (operand : BitVec 24) (s : State) : Host.Outcome State Fault Refusal :=
  .next (s.cellWrite 0x0000 (commandWord 0x06 operand) fun t => State.logCommand (t.commandDisable operand) 0x06)

/-- RELOAD, code 0x07 (R158). -/
def execReload (operand : BitVec 24) (s : State) : Host.Outcome State Fault Refusal :=
  .next (s.cellWrite 0x0000 (commandWord 0x07 operand) fun t => State.logCommand (t.commandReload operand) 0x07)

/-- UNKNOWN_COMMAND (R60): a code that is none of the seven gives UNKNOWN; a code of the seven is taken as that command. -/
def execUnknownCommand (code : Byte) (operand : BitVec 24) (s : State) : Host.Outcome State Fault Refusal :=
  .next (s.cellWrite 0x0000 (commandWord code operand) fun t => State.logCommand (t.command code operand) code)

/-- CONSUMER_UPDATE (R185). -/
def execConsumerUpdate (value : Word) (s : State) : Host.Outcome State Fault Refusal :=
  .next (s.cellWrite 0x0004 value fun t => t.offerConsumer (lowHalf value))

/-- THRESHOLD_WRITE (R168). -/
def execThresholdWrite (cell : ThresholdCell) (value : Word) (s : State) : Host.Outcome State Fault Refusal :=
  .next (s.cellWrite (thresholdOffset cell) value fun t => t.controlWrite (thresholdOffset cell) value)

/-- MASK_WRITE (R168). -/
def execMaskWrite (cell : MaskCell) (value : Word) (s : State) : Host.Outcome State Fault Refusal :=
  .next (s.cellWrite (maskOffset cell) value fun t => t.controlWrite (maskOffset cell) value)

/-- PROBE_WRITE (R169). -/
def execProbeWrite (value : Word) (s : State) : Host.Outcome State Fault Refusal :=
  .next (s.cellWrite 0x001C value fun t => t.controlWrite 0x001C value)

end Sys2Proof.Machine
end

