-- ==== Sys2Proof/Machine/Cycles.lean ====
section
/-!
DEFINITION. The meanings of the other controller cycles, of the controller lock, of the Arbiter's grants and of a posting's drain
(Chapter 10).
-/

namespace Sys2Proof.Machine

open Sys2Proof

/-- The lock signal is asserted (R178): the lock takes force, at once or when the part grant in progress ends. While the
reset input is asserted only the signal changes (R180). -/
def State.assertLock (s : State) : State :=
  if s.port.lockPin then s
  else
    let lock := if s.inReset then .off else if s.port.holder = .none then .inForce else .awaiting
    { s with port := { s.port with lockPin := true, lock } }

/-- The lock signal is deasserted: the lock, or a broken lock, ends (R178). -/
def State.deassertLock (s : State) : State := { s with port := { s.port with lockPin := false, lock := .off } }

/-- The lock timer passes 50 µs while it runs: the lock is broken, counted and recorded (R178, R186). -/
def State.breakLock (s : State) : State :=
  if s.inReset = false ∧ s.lockTimerRuns = true then
    let n := satInc s.port.lockBreaks
    { s with port := { s.port with lock := .broken, lockBreaks := n } }.handOver
      [.record { kind := .lockBroken, tick := s.tick, detail := n }]
  else s

/-- STICKY_WORD_READ (R171): answered from the view and cleared; from the SRAM while the reset input is asserted. -/
def execStickyWordRead (word : StickyWord) (enables : BitVec 4) (s : State) : Host.Outcome State Fault Refusal :=
  .next (if s.inReset then s.busAccess (cycleAt s.base (stickyOffset word) .read enables 0) else s.viewRead (stickyOffset word) enables)

/-- SUPPRESSED_WRITE (R170): a controller write at a window offset, treated by Table 10-1. -/
def execSuppressedWrite (offset : Half) (enables : BitVec 4) (data : Word) (s : State) :
    Host.Outcome State Fault Refusal :=
  .next (s.arrive (cycleAt s.base offset.toNat .write enables data))

/-- CONTROLLER_CYCLE (R167): a controller cycle at any address, treated by Table 10-1 in the window (so a cycle that another
row names has that row's effect) and forwarded outside it. -/
def execControllerCycle (dir : BusDir) (address : BitVec 22) (enables : BitVec 4) (data : Word) (s : State) :
    Host.Outcome State Fault Refusal :=
  .next (s.arrive { dir, address, enables, data })

/-- LOCK_ASSERT (R178). -/
def execLockAssert (s : State) : Host.Outcome State Fault Refusal := .next s.assertLock

/-- LOCK_DEASSERT (R178). -/
def execLockDeassert (s : State) : Host.Outcome State Fault Refusal := .next s.deassertLock

/-- LOCK_BROKEN (R178). -/
def execLockBroken (s : State) : Host.Outcome State Fault Refusal := .next s.breakLock

/-- ARBITER_GRANT (R176). -/
def execArbiterGrant (s : State) : Host.Outcome State Fault Refusal := .next s.grant

/-- POSTING_DRAIN (R172). -/
def execPostingDrain (s : State) : Host.Outcome State Fault Refusal := .next s.drain

end Sys2Proof.Machine
end

