-- ==== Sys2Proof/Machine/Decisions.lean ====
section
/-!
DEFINITION. The meanings of the walker's decisions and of the two producers' placings (Chapter 4, R68, R184).
-/

namespace Sys2Proof.Machine

open Sys2Proof

/-- SETUP (R71). -/
def execSetup (s : State) : Host.Outcome State Fault Refusal :=
  .next (s.decideStep (s.isKind 1) State.decideSetup)

/-- ADOPT (R72). -/
def execAdopt (s : State) : Host.Outcome State Fault Refusal :=
  .next (s.decideStep (s.isKind 2) State.decideAdopt)

/-- RETARGET (R73). -/
def execRetarget (s : State) : Host.Outcome State Fault Refusal :=
  .next (s.decideStep (s.isKind 3) State.decideRetarget)

/-- RELEASE (R74). -/
def execRelease (s : State) : Host.Outcome State Fault Refusal :=
  .next (s.decideStep (s.isKind 4) State.decideRelease)

/-- MARK (R75). -/
def execMark (s : State) : Host.Outcome State Fault Refusal :=
  .next (s.decideStep (s.isKind 5) State.decideMark)

/-- BAD_KIND (R75). -/
def execBadKind (s : State) : Host.Outcome State Fault Refusal :=
  .next (s.decideStep (fun off d => !s.inFlight.contains off && !d.knownKind) fun t off d => t.refuse off d .badKind)

/-- IN_FLIGHT_REFUSAL (R76). -/
def execInFlightRefusal (s : State) : Host.Outcome State Fault Refusal :=
  .next (s.decideStep (fun off _ => s.inFlight.contains off) State.decideInFlight)

/-- The walker, waiting in DECIDING, goes on placing (R68, R175). -/
def State.resumeWalker (s : State) : State :=
  if s.inReset = false ∧ s.walker.state = .deciding ∧ s.walker.toPlace ≠ [] then s.walkerRun else s

/-- WALKER_POSTING_PLACE (R68). -/
def execWalkerPostingPlace (s : State) : Host.Outcome State Fault Refusal := .next s.resumeWalker

/-- HANDOVER_PLACE (R184). -/
def execHandoverPlace (s : State) : Host.Outcome State Fault Refusal :=
  .next (if s.inReset then s else s.placeHandOver)

end Sys2Proof.Machine
end

