-- ==== Sys2Proof/Machine/Monitor.lean ====
section
/-!
DEFINITION. The meanings of the scan link's events, the stale timers and the completion of a setup burst (Chapters 3 and 9).
-/

namespace Sys2Proof.Machine

open Sys2Proof

/-- A byte arrives on the scan link; while the reset input is asserted none is taken (R38, R52). -/
def State.scanStep (s : State) (b : Byte) : State := if s.inReset then s else s.takeByte b

/-- More than 200 µs have passed since the last byte of the frame in progress: it is abandoned and counted (R40). -/
def State.abandonFrame (s : State) : State :=
  if s.inReset = false ∧ s.scan.inFrame = true then
    { s with scan := { s.scan with inFrame := false, buffer := [], gapCount := satInc s.scan.gapCount } }
  else s

/-- A tap's stale timer has reached 0: the tap is stale and MON_STALE of its site is judged (R48, R138). -/
def State.staleExpires (s : State) (t : TapId) : State :=
  if s.inReset = false ∧ (s.tap t).timer = some 0 then
    State.finish s ((s.setTap t { s.tap t with stale := true, timer := none }).judgeMonStale (tapSite t))
  else s

/-- The delivery of a completed setup burst, by the state of its site (R156 to R158). A burst whose purpose a DISABLE has
abandoned delivers nothing; a site ENABLED again meanwhile joins the queue for a fetch of its own (notes/assumptions/21.md). -/
def State.deliver (s : State) (b : SetupBurst) : State :=
  let n := b.site
  if b.discard then (if (s.site n).state = .loading then s.joinFetch n else s)
  else
    let r := loadSetup b.words
    match (s.site n).state with
    | .loading => s.enabled n r.1 r.2
    | .enabled => s.reloaded n r.1 r.2
    | .disabled => s

/-- A setup burst's sixteenth read completes: the grant ends, the site leaves the queue, the result is delivered, the next
burst is requested (R156). -/
def State.setupDone (s : State) : State :=
  match s.port.holder, s.setup.burst with
  | .setupBurst, some b =>
    if s.inReset then s
    else
      let s1 := s.endGrant
      let s2 := { s1 with setup := { queue := s1.setup.queue.erase b.site, burst := none } }
      State.finish s ((s2.deliver b).requestSetup)
  | _, _ => s

/-- SCAN_BYTE (R38). -/
def execScanByte (b : Byte) (s : State) : Host.Outcome State Fault Refusal := .next (s.scanStep b)

/-- BYTE_GAP_EXPIRY (R40). -/
def execByteGapExpiry (s : State) : Host.Outcome State Fault Refusal := .next s.abandonFrame

/-- STALE_TIMER_EXPIRY (R48). -/
def execStaleTimerExpiry (tap : TapId) (s : State) : Host.Outcome State Fault Refusal := .next (s.staleExpires tap)

/-- SETUP_FETCH_COMPLETE (R156). -/
def execSetupFetchComplete (s : State) : Host.Outcome State Fault Refusal := .next s.setupDone

end Sys2Proof.Machine
end

