-- ==== Sys2Proof/Machine/ResetAndTime.lean ====
section
/-!
DEFINITION. The meanings of RESET_ASSERT, RESET_RELEASE and TICK.
-/

namespace Sys2Proof.Machine

open Sys2Proof

/-- A module's outstanding message is abandoned without timeout (R122). -/
def State.abandonMessage (s : State) (m : SiteId) : State := s.setLink m { s.link m with out := none }

/-- The reset input is asserted (R180): memory-bus cycles of the part that had begun run to their end (`begun` of the posting
that holds the port), everything queued, granted, requested, outstanding or in progress is abandoned (R52, R65, R122, R182),
and waiting controller cycles pass through. -/
def State.assertReset (s : State) (begun : Nat) : State :=
  if s.inReset then s
  else
    let s1 := match s.port.holder, s.queue with
      | .posting, p :: _ => s.sramWrites (p.writes.take begun)
      | _, _ => s
    let s2 := s.port.waiting.foldl State.busAccess { s1 with inReset := true }
    let s3 := allSites.foldl State.abandonMessage s2
    { s3 with port := { s3.port with holder := .none, waiting := [], requests := [], lock := .off },
              queue := [], walker := {}, setup := {},
              journal := { s3.journal with handOver := [] },
              scan := { s3.scan with inFrame := false, buffer := [] } }

/-- The reset input is released: the cold-reset values of every block, the window base from the straps, and a locked sequence
in progress honoured as a new lock (R166, R180). The SRAM, the lock signal and the model's own fields are as they were. -/
def State.releaseReset (s : State) (straps : BitVec 2) : State :=
  if s.inReset then
    { State.reset with
      straps, mem := s.mem, lastRead := s.lastRead, freeIndex := s.freeIndex, pending := s.pending,
      port := { lockPin := s.port.lockPin, lock := if s.port.lockPin then .inForce else .off } }
  else s

/-- One tick of a slot's pacing countdown (R101). A countdown at 0 is due (notes/assumptions/5.md). -/
def State.tickSlot (s : State) (k : SlotId) : State :=
  match s.slot k with
  | none => s
  | some t =>
    match t.drive with
    | .pacing n => s.setSlot k (some { t with drive := .pacing (n - 1) })
    | .queued | .sent | .stopped => s

/-- One tick of a module's ack timer (R116). -/
def State.tickLink (s : State) (m : SiteId) : State :=
  let l := s.link m
  s.setLink m { l with out := l.out.map fun o => { o with timer := o.timer - 1 } }

/-- One tick of a tap's stale timer (R48). -/
def State.tickTap (s : State) (t : TapId) : State :=
  s.setTap t { s.tap t with timer := (s.tap t).timer.map (· - 1) }

/-- One tick of a site's restore hold-off countdown (R148). -/
def State.tickCond (s : State) (n : SiteId) : State :=
  s.setCond n { s.cond n with holdOff := (s.cond n).holdOff.map (· - 1) }

/-- One tick of 1 ms (R1): the counter rises by 1 and every running tick-timed countdown falls by 1. -/
def State.tickOnce (s : State) : State :=
  if s.inReset then s
  else
    let s1 := { s with tick := s.tick + 1 }
    let s2 := allSlots.foldl State.tickSlot s1
    let s3 := allSites.foldl State.tickLink s2
    let s4 := allTaps.foldl State.tickTap s3
    allSites.foldl State.tickCond s4

/-- RESET_ASSERT (R180). -/
def execResetAssert (begun : Nat) (s : State) : Host.Outcome State Fault Refusal := .next (s.assertReset begun)

/-- RESET_RELEASE (R166, R180). -/
def execResetRelease (straps : BitVec 2) (s : State) : Host.Outcome State Fault Refusal := .next (s.releaseReset straps)

/-- TICK (R1). -/
def execTick (s : State) : Host.Outcome State Fault Refusal := .next s.tickOnce

end Sys2Proof.Machine
end

