-- ==== Sys2Proof/Machine/Dispatch.lean ====
section
/-! DEFINITION. The meaning of each command: its effect on everything but the queue of commands. -/

namespace Sys2Proof.Machine

open Sys2Proof

def exec (i : Instr) (s : State) : Host.Outcome State Fault Refusal :=
  match i with
  | .resetAssert begun => Sys2Proof.Machine.execResetAssert begun s
  | .resetRelease straps => Sys2Proof.Machine.execResetRelease straps s
  | .tick => Sys2Proof.Machine.execTick s
  | .go operand => Sys2Proof.Machine.execGo operand s
  | .halt operand => Sys2Proof.Machine.execHalt operand s
  | .freeze operand => Sys2Proof.Machine.execFreeze operand s
  | .thaw operand => Sys2Proof.Machine.execThaw operand s
  | .enable operand => Sys2Proof.Machine.execEnable operand s
  | .disable operand => Sys2Proof.Machine.execDisable operand s
  | .reload operand => Sys2Proof.Machine.execReload operand s
  | .unknownCommand code operand => Sys2Proof.Machine.execUnknownCommand code operand s
  | .consumerUpdate value => Sys2Proof.Machine.execConsumerUpdate value s
  | .thresholdWrite cell value => Sys2Proof.Machine.execThresholdWrite cell value s
  | .maskWrite cell value => Sys2Proof.Machine.execMaskWrite cell value s
  | .probeWrite value => Sys2Proof.Machine.execProbeWrite value s
  | .stickyWordRead word enables => Sys2Proof.Machine.execStickyWordRead word enables s
  | .suppressedWrite offset enables data => Sys2Proof.Machine.execSuppressedWrite offset enables data s
  | .controllerCycle dir address enables data => Sys2Proof.Machine.execControllerCycle dir address enables data s
  | .lockAssert => Sys2Proof.Machine.execLockAssert s
  | .lockDeassert => Sys2Proof.Machine.execLockDeassert s
  | .lockBroken => Sys2Proof.Machine.execLockBroken s
  | .arbiterGrant => Sys2Proof.Machine.execArbiterGrant s
  | .setup => Sys2Proof.Machine.execSetup s
  | .adopt => Sys2Proof.Machine.execAdopt s
  | .retarget => Sys2Proof.Machine.execRetarget s
  | .release => Sys2Proof.Machine.execRelease s
  | .mark => Sys2Proof.Machine.execMark s
  | .badKind => Sys2Proof.Machine.execBadKind s
  | .inFlightRefusal => Sys2Proof.Machine.execInFlightRefusal s
  | .setupFetchComplete => Sys2Proof.Machine.execSetupFetchComplete s
  | .postingDrain => Sys2Proof.Machine.execPostingDrain s
  | .walkerPostingPlace => Sys2Proof.Machine.execWalkerPostingPlace s
  | .handoverPlace => Sys2Proof.Machine.execHandoverPlace s
  | .scanByte b => Sys2Proof.Machine.execScanByte b s
  | .byteGapExpiry => Sys2Proof.Machine.execByteGapExpiry s
  | .staleTimerExpiry tap => Sys2Proof.Machine.execStaleTimerExpiry tap s
  | .ackReceived link module seq outcome => Sys2Proof.Machine.execAckReceived link module seq outcome s
  | .ackTimeout module => Sys2Proof.Machine.execAckTimeout module s
  | .pacingExpiry slot => Sys2Proof.Machine.execPacingExpiry slot s
  | .holdOffExpiry site => Sys2Proof.Machine.execHoldOffExpiry site s

end Sys2Proof.Machine
end

