-- ==== Sys2Proof/Safety.lean ====
section
/-!
DEFINITION. What counts as a sound state of the part, in the terms the claims use: the bounds and relations the spec says always
hold, one predicate each, and the part of the state outside the transition engine, in which the frames are stated.
-/

namespace Sys2Proof.Machine

open Sys2Proof

/-! ### Frames -/

/-- What of the state stands outside the transition engine (channels, maps, Wait List, slots, swings, links, taps, conditions,
sites and the hand-over list are the engine). -/
structure Outer where
  inReset : Bool
  tick : Word
  straps : BitVec 2
  lastRead : Option Word
  latches : Latches
  inFlight : List Half
  suppressed : Half
  cmd : CommandLog
  port : Port
  queue : List Posting
  walker : Walker
  scan : ScanRx
  setup : SetupFetch
  attn : Attn
  mem : List Host.Cell
  freeIndex : Nat
  pending : List Instr
  produced : Half
  consumer : Half

/-- The part of a state outside the transition engine. -/
def State.outer (s : State) : Outer :=
  { inReset := s.inReset, tick := s.tick, straps := s.straps, lastRead := s.lastRead, latches := s.latches,
    inFlight := s.inFlight, suppressed := s.suppressed, cmd := s.cmd, port := s.port, queue := s.queue,
    walker := s.walker, scan := s.scan, setup := s.setup, attn := s.attn, mem := s.mem, freeIndex := s.freeIndex,
    pending := s.pending, produced := s.journal.produced, consumer := s.journal.consumer }

/-- The transition engine of a state: everything that is not outside it, but for the hand-over list and its lost count. -/
structure Engine where
  chans : Vector Channel 256
  maps : Vector (Vector Entry 320) 20
  addCells : Vector (Vector Entry 12) 2
  dropCells : Vector (Vector Entry 12) 2
  waitList : List WaitEntry
  slots : Vector (Option Slot) 16
  committed : Vector Nat 8
  passDue : Bool
  links : Vector Link 10
  taps : Vector Tap 20
  conds : Vector CondRec 10
  sites : Vector Site 10

/-- The transition engine of a state. -/
def State.engine (s : State) : Engine :=
  { chans := s.chans, maps := s.maps, addCells := s.addCells, dropCells := s.dropCells, waitList := s.waitList,
    slots := s.slots, committed := s.committed, passDue := s.passDue, links := s.links, taps := s.taps,
    conds := s.conds, sites := s.sites }

/-- A state with a full-word controller write of a control cell waiting for its grant. -/
def State.withCellWrite (s : State) (offset : Nat) (w : Word) : State :=
  { s with port := { s.port with waiting := s.port.waiting ++ [cycleAt s.base offset .write 0xF#4 w] } }

/-- A state with a command counted and its code and result recorded (R60). -/
def State.withLog (s : State) (code result : Byte) : State := { s with cmd := { count := s.cmd.count + 1, code, result } }

/-! ### Postings of an outcome -/

/-- The two postings of an outcome, stamp first, at a descriptor's w7 and w6 (R56); `final` marks those of a final outcome. -/
def postings (tick : Word) (desc : Half) (o : Outc) (clamped : Bool) (reason : Byte) (h : Handle) (final : Bool) : List Item :=
  [.word (desc + 28) tick final, .word (desc + 24) (statusWord o clamped reason h) final]

/-- What a refusal with a reason code posts: stamp, REFUSED status, REFUSED record (R56, R58, R59). -/
def refusal (tick : Word) (desc : Half) (d : Desc) (reason : Byte) : List Item :=
  postings tick desc .refused false reason d.handle true ++
    [.record { kind := .refused, handle := some (BitVec.ofNat 8 d.handle.val), code := reason, tick, tag := some d.tag,
               desc := some desc }]

/-- The CANCELLED postings and record of a descriptor of a channel, when there is one (R56, R58). -/
def cancelled (tick : Word) (desc : Option Half) (clamped : Bool) (c : Channel) (h : Handle) : List Item :=
  match desc with
  | none => []
  | some o => postings tick o .cancelled clamped 0 h true ++
      [.record { kind := .cancelled, site := some c.dstSite, handle := some (BitVec.ofNat 8 h.val), code := 4, tick,
                 desc := some o }]

/-- A command answers as a decision that leaves `u` and requires `items`: after it the event's pass is made and the items are
placed as far as there is room (R68). -/
def State.decides (s : State) (c : Instr) (u : State) (items : List Item) : Prop :=
  exec c s = .next (s.enterDeciding.settle (u, items))

/-- A command answers as a refused decision: nothing changes but the postings. -/
def State.refuses (s : State) (c : Instr) (desc : Half) (d : Desc) (reason : Byte) : Prop :=
  s.decides c s.enterDeciding (refusal s.tick desc d reason)

/-! ### The view words as the tables of section 12.5 list them -/

/-- A word carries these fields, each given by its lowest bit, its width and its value, and zeros elsewhere, whenever every value
fits its width. -/
def carries (w : Word) (fields : List (Nat × Nat × Nat)) : Prop :=
  (∀ f ∈ fields, f.2.2 < 2 ^ f.2.1) → w.toNat = (fields.map fun f => f.2.2 * 2 ^ f.1).sum

/-- A number as a two's complement field of `w` bits. -/
def signedField (w : Nat) (t : Int) : Nat := (t % 2 ^ w).toNat

/-- A level as a field of `w` bits: NOLIGHT is the most negative value (R190). -/
def levelField (w : Nat) : Level → Nat
  | .noLight => 2 ^ (w - 1)
  | .dt t => signedField w t

/-- A pool offset as an index; 0 when absent (R190). -/
def indexField (o : Option Half) : Nat := o.elim 0 fun a => (a.toNat - 0x4000) / 32

/-- An end in seven bits: form, group, number (Table 12-4). -/
def endFields (lo : Nat) : End → List (Nat × Nat × Nat)
  | .degree i => [(lo, 2, 1), (lo + 2, 1, 0), (lo + 3, 4, i.val)]
  | .addPort g p => [(lo, 2, 2), (lo + 2, 1, g.val), (lo + 3, 4, p.val)]
  | .dropPort g p => [(lo, 2, 3), (lo + 2, 1, g.val), (lo + 3, 4, p.val)]

/-- The kind of a channel's transition, and its held flag in a slot or its barrier flag in the Wait List (Table 12-4, word 1). -/
def State.transFields (s : State) (h : Handle) : List (Nat × Nat × Nat) :=
  match (s.chan h).pending with
  | none => []
  | some .waiting => (s.entryOf h).elim [] fun e => [(28, 3, e.kind.code), (31, 1, e.barrier.toNat)]
  | some (.slot k) => (s.slot k).elim [] fun t => [(28, 3, t.kind.code), (31, 1, t.held.toNat)]

/-- What word 3 tells of a channel's transition (Table 12-4): the slot's number, drive state and swing, or the entry's position,
counted from the oldest as 1, and skip count. -/
def State.placeFields (s : State) (h : Handle) : List (Nat × Nat × Nat) :=
  match (s.chan h).pending with
  | none => []
  | some .waiting => (s.entryOf h).elim [] fun e =>
    [(9, 7, (s.waitList.takeWhile fun x => decide (x.handle ≠ h)).length + 1), (16, 4, e.skip)]
  | some (.slot k) => (s.slot k).elim [] fun t =>
    [(9, 4, k.val), (13, 2, t.drive.code), (15, 11, levelField 11 (log t.swing))]

/-- Table 12-4. -/
def State.channelFields (s : State) (h : Handle) (i : Nat) : List (Nat × Nat × Nat) :=
  let c := s.chan h
  match i with
  | 0 =>
    [(0, 3, c.state.code), (3, 2, c.kind.code), (5, 1, c.underRange.toNat), (6, 1, c.overRange.toNat),
     (7, 1, c.noLightOut.toNat), (8, 1, c.unconfirmed.toNat), (9, 1, c.clamped.toNat),
     (10, 4, c.shutteredBy.elim 15 (·.val)), (14, 8, c.applied.code), (22, 8, c.motion.elim 255 Setting.code),
     (30, 1, (c.pending.any fun p => decide (p ≠ .waiting)).toNat), (31, 1, c.desc.isSome.toNat)]
  | 1 => endFields 0 c.src ++ endFields 7 c.dst ++ [(14, 9, c.first), (23, 5, c.count)] ++ s.transFields h
  | 2 => [(0, 10, signedField 10 c.target), (10, 11, levelField 11 (s.measIn c)), (21, 11, levelField 11 (s.measOut c))]
  | _ => [(0, 9, indexField c.desc)] ++ s.placeFields h

/-- A tap's word of Table 12-5. -/
def tapFields (t : Tap) : List (Nat × Nat × Nat) :=
  [(0, 1, t.received.toNat), (1, 1, t.stale.toNat), (2, 1, t.lastSeq.isSome.toNat), (8, 8, t.lastSeq.elim 0 BitVec.toNat),
   (16, 16, levelField 16 (tapLevel t))]

/-- Table 12-5. A group site's committed swing, T_D and limit read as 0 (R194). -/
def State.siteFields (s : State) (n : SiteId) (i : Nat) : List (Nat × Nat × Nat) :=
  let r := s.cond n
  let x := s.site n
  let p := x.active
  let l := s.link n
  let swing := (SiteId.degree? n).elim 0 s.swingOf
  let total := (SiteId.degree? n).elim 0 s.modelledTotal
  let limit := (SiteId.degree? n).elim 0 s.limit
  let dark := allHandles.filter fun h => decide ((s.chan h).shutteredBy = some n)
  match i with
  | 0 =>
    [(0, 1, r.inLos.sticky.toNat), (1, 1, r.inHigh.sticky.toNat), (2, 1, r.modFault.sticky.toNat),
     (3, 1, r.monStale.sticky.toNat), (4, 1, r.inLos.live.toNat), (5, 1, r.inHigh.live.toNat), (6, 1, r.modFault.live.toNat),
     (7, 1, r.monStale.live.toNat), (8, 1, (s.sourceHold n).toNat), (9, 1, (s.destHold n).toNat), (10, 1, x.frozen.toNat),
     (11, 1, r.restoreDeferred.toNat), (12, 1, r.holdOff.isSome.toNat), (13, 1, r.firstLos.isSome.toNat),
     (14, 1, r.lastLos.isSome.toNat), (15, 1, (s.quiet n).toNat), (16, 2, x.state.code), (18, 2, x.reload.code),
     (20, 1, (s.setup.queue.contains n).toNat), (21, 1, x.refetch.toNat), (22, 1, x.buffered.isSome.toNat),
     (23, 1, x.setupClamped.toNat), (24, 3, s.loopStatus n)]
  | 1 => [(0, 32, (r.firstLos.getD 0).toNat)]
  | 2 => [(0, 32, (r.lastLos.getD 0).toNat)]
  | 3 => [(0, 16, r.holdOff.getD 0), (16, 16, x.clampMask.toNat)]
  | 4 => tapFields (s.tap (ingressTap n))
  | 5 => tapFields (s.tap (egressTap n))
  | 6 => [(0, 32, swing)]
  | 7 => [(0, 32, total % 2 ^ 32)]
  | 8 => [(0, 32, limit % 2 ^ 32)]
  | 9 =>
    [(0, 8, total / 2 ^ 32), (8, 8, limit / 2 ^ 32), (16, 8, l.seq.toNat), (24, 2, l.out.elim 0 fun o => o.msg.cls.code),
     (26, 6, l.queue.length)]
  | 10 =>
    [(0, 9, l.shutters.length), (9, 9, dark.length), (18, 9, (dark.filter fun h => s.waits h .restore).length),
     (27, 5, levelCount l.queue)]
  | 11 => [(0, 8, p.step), (8, 8, p.pacing), (16, 8, p.il), (24, 8, p.budget)]
  | 12 =>
    [(0, 8, p.deadband), (8, 8, p.gain), (16, 2, p.inLosAct.code), (18, 2, p.inHighAct.code), (20, 2, p.modFaultAct.code),
     (22, 2, p.monStaleAct.code)]
  | 13 => [(0, 16, signedField 16 p.lmin), (16, 16, signedField 16 p.lmax)]
  | 14 => [(0, 16, signedField 16 p.los), (16, 16, signedField 16 p.high)]
  | _ => [(0, 16, p.staleLimit), (16, 16, p.holdOff)]

/-- Table 12-6, but for the three words of causes. A lock that waits for a grant to end has no code in Table 12-12, so its code is a
free value (notes/assumptions/16.md). -/
def State.bridgeFields (s : State) (i : Nat) : List (Nat × Nat × Nat) :=
  let w := s.walker
  let lock := match s.port.lock with
    | .off => 0
    | .inForce => 1
    | .broken => 2
    | .awaiting => (Config.awaitingLockCode s.freeIndex).toNat
  match i with
  | 0 =>
    [(0, 1, s.attn.chainEnd.toNat), (1, 1, s.attn.consumerBad.toNat), (8, 1, s.journalLevel.toNat), (9, 1, s.waitLevel.toNat),
     (10, 1, s.attention.toNat), (16, 8, s.base / 0x10000)]
  | 1 => [(0, 16, s.cmd.count.toNat), (16, 8, s.cmd.code.toNat), (24, 8, s.cmd.result.toNat)]
  | 2 =>
    [(0, 2, w.state.code), (2, 1, w.halt.toNat), (3, 1, w.current.isSome.toNat), (4, 4, w.heads.length),
     (16, 16, indexField w.current)]
  | 3 => [(0, 16, w.examined), (16, 8, s.waitList.length), (24, 8, (allSlots.filter fun k => (s.slot k).isSome).length)]
  | 4 =>
    [(0, 8, (s.waitList.filter fun e => e.barrier).length), (8, 8, s.queue.length), (16, 8, lock), (24, 8, s.port.fairness)]
  | 5 => [(0, 8, s.port.holder.code), (16, 16, s.inFlight.length)]
  | 6 => [(0, 16, s.scan.gapCount.toNat), (16, 16, s.scan.checkErrors.toNat)]
  | 7 => [(0, 16, s.suppressed.toNat), (16, 16, s.port.lockBreaks.toNat)]
  | 8 => [(0, 16, s.journal.produced.toNat), (16, 16, s.journal.consumer.toNat)]
  | 9 => [(0, 16, s.journal.fill), (16, 16, s.journal.lost.toNat)]
  | 10 => [(0, 16, s.journal.handOver.length), (16, 16, recordCount s.journal.handOver)]
  | _ => []

/-! ### Memory, postings and journal -/

/-- The SRAM has its canonical form. -/
def State.memoryOk (s : State) : Prop := Memory.wf s.mem = true

/-- The fill of the ring lies between 0 and 256 (R182). -/
def State.journalOk (s : State) : Prop := s.journal.fill ≤ 256

/-- The hand-over list holds at most 256 records (R184). -/
def State.handOverOk (s : State) : Prop := recordCount s.journal.handOver ≤ 256

/-- The Posting Queue holds at most 32 entries and no two of the same address (R172). -/
def State.queueOk (s : State) : Prop := s.queue.length ≤ 32 ∧ (s.queue.map Posting.addr).Nodup

/-- A controller write in the window that waits for its grant is at none of the offsets where R170 always suppresses. -/
def forwardable (base : Nat) (c : BusCycle) : Prop :=
  c.dir = .write → ∀ o, windowOffset base c.byteAddress = some o → inView o = false ∧ inRing o = false

/-- No waiting controller write is one that R170 always suppresses. -/
def State.waitingOk (s : State) : Prop := ∀ c ∈ s.port.waiting, forwardable s.base c

/-! ### Bounded tables -/

/-- The bounds the spec gives the lists and counts of the walker, the Arbiter and the Site Store (R57, R61, R156, R177). -/
def State.boundsOk (s : State) : Prop :=
  s.walker.heads.length ≤ 4 ∧ s.port.fairness ≤ 8 ∧ s.inFlight.Nodup ∧ s.setup.queue.Nodup

/-- The bounds of a module's side of the Switch Link: 16 LEVEL requests, 256 shutter entries, an ack timer of 8 ticks
(R116, R117, R118). -/
def Link.bounded (l : Link) : Prop :=
  levelCount l.queue ≤ 16 ∧ l.shutters.length ≤ 256 ∧ ∀ o, l.out = some o → o.timer ≤ 8

/-- Every module's side of the Switch Link is within its bounds. -/
def State.linksOk (s : State) : Prop := ∀ m, (s.link m).bounded

/-- The slots whose RAMP requests a setting queue holds, oldest first. -/
def rampSlots (q : List Request) : List SlotId :=
  q.filterMap fun r => match r with
    | .ramp k => some k
    | .level _ _ => none

/-- The requests and messages of the slots (R101, R117): a queued RAMP request names a QUEUED slot of its module, once; an outstanding
message bound to a slot belongs to a SENT slot of its module. -/
structure State.requestsOk (s : State) : Prop where
  queued : ∀ m k, .ramp k ∈ (s.link m).queue → ∃ x, s.slot k = some x ∧ x.dest = m ∧ x.drive = .queued
  once : ∀ m, (rampSlots (s.link m).queue).Nodup
  sent : ∀ m o k, (s.link m).out = some o → o.bind = .slot k → ∃ x, s.slot k = some x ∧ x.dest = m ∧ x.drive = .sent

/-- Out of reset a module with nothing outstanding has nothing waiting: what waits has been sent at once (R114). -/
def State.served (s : State) : Prop :=
  s.inReset = false → ∀ m, (s.link m).out = none → (s.link m).shutters = [] ∧ (s.link m).queue = []

/-! ### Holds -/

/-- The held flag of every slot is what the holds and freeze flags of its channel's two ends give (R143). -/
def State.heldOk (s : State) : Prop := ∀ k x, s.slot k = some x → x.held = s.isHeld x.handle

/-- Under the new held flags `now`, does a slot's held flag set (R109)? -/
def Slot.stops (now : Slot → Bool) (x : Slot) : Bool := !x.held && now x

/-- Under the new held flags `now`, does the held flag of a STOPPED slot clear, so that it places its next request (R109)? -/
def Slot.restarts (now : Slot → Bool) (x : Slot) : Bool := x.held && !now x && decide (x.drive = .stopped)

/-- What a held flag that sets makes of a drive state: QUEUED and PACING become STOPPED, SENT goes on (R109). -/
def Drive.stop : Drive → Drive
  | .queued | .pacing _ | .stopped => .stopped
  | .sent => .sent

/-- The slots of a module that restart, by ascending handle (R79; notes/assumptions/18.md, DESIGN CHOICE). -/
def State.restarting (s : State) (now : Slot → Bool) (m : SiteId) : List SlotId :=
  allHandles.flatMap fun h => allSlots.filter fun k =>
    (s.slot k).any fun x => decide (x.handle = h ∧ x.dest = m) && x.restarts now

/-- The setting queue of a module after its slots' held flags change: the requests of the slots that stop are withdrawn, those of the
slots that restart join the tail (R109, R117). -/
def State.queueAfter (s : State) (now : Slot → Bool) (m : SiteId) : List Request :=
  ((s.link m).queue.filter fun r => match r with
    | .ramp k => !(s.slot k).any fun x => x.stops now && decide (x.drive = .queued ∧ x.dest = m)
    | .level _ _ => true) ++ (s.restarting now m).map .ramp

/-- The message a slot is sent with: the fields of its channel and the attenuation of Table 6-2 (R103, R112, R113). -/
def State.rampMessage (s : State) (x : Slot) (kind : TransKind) (motion : Setting) : SettingMsg :=
  let c := s.chan x.handle
  { module := x.dest, seq := (s.link x.dest).seq, first := c.first, count := c.count, input := c.input, port := c.outPort,
    setting := nextAttenuation kind motion c.applied (s.params x.dest).step, cls := .ramp }

/-- The link of an idle module with nothing waiting after slot `k` was sent a message and the requests `queue` wait (R113, R114, R116). -/
def Link.sending (l : Link) (k : SlotId) (msg : SettingMsg) (queue : List Request) : Link :=
  { l with seq := l.seq + 1, queue, out := some { msg, bind := .slot k, timer := 8 } }

/-- From `s` to `t` the held flags of the slots become `now` and nothing else acts on slots and links (R109, R143). A slot whose flag
sets is stopped by its drive state and its queued request withdrawn. A STOPPED slot whose flag clears has its request placed: it is
SENT when its module is idle and it is the module's first by handle, else QUEUED. Every other slot and link stays. -/
structure State.reheld (s t : State) (now : Slot → Bool) : Prop where
  free : ∀ k, s.slot k = none → t.slot k = none
  stopped : ∀ k x, s.slot k = some x → x.stops now = true → t.slot k = some { x with held := true, drive := x.drive.stop }
  restarted : ∀ k x, s.slot k = some x → x.restarts now = true → t.slot k = some
    { x with held := false, takeover := false,
             drive := if (s.link x.dest).out = none ∧ (s.restarting now x.dest).head? = some k then .sent else .queued }
  others : ∀ k x, s.slot k = some x → x.stops now = false → x.restarts now = false → t.slot k = some { x with held := now x }
  busy : ∀ m, (s.link m).out ≠ none → t.link m = { s.link m with queue := s.queueAfter now m }
  idle : ∀ m, (s.link m).out = none → match s.restarting now m with
    | [] => t.link m = s.link m
    | k :: rest => ∀ x, s.slot k = some x →
      t.link m = (s.link m).sending k (s.rampMessage x x.kind ((s.chan x.handle).motion.getD .blocked)) (rest.map .ramp)

/-! ### Places of postings -/

/-- A word offset of the descriptor pool. -/
def poolWord (a : Half) : Prop := a.toNat % 4 = 0 ∧ 0x4000 ≤ a.toNat ∧ a.toNat < 0x8000

/-- An entry lies where R172 has its kind: a word in the pool, a record at a slot of the ring. -/
def Posting.placed : Posting → Prop
  | .word a _ _ => poolWord a
  | .record a _ _ _ _ => a.toNat % 16 = 0 ∧ 0x8000 ≤ a.toNat ∧ a.toNat < 0x9000

/-- An item to place is a record, or a word of the pool. -/
def Item.placed : Item → Prop
  | .word a _ _ => poolWord a
  | .record _ => True

/-- A descriptor pointer, when present, is a descriptor place (R54). -/
def validDesc (d : Option Half) : Prop := ∀ o, d = some o → validPoolOffset o.toNat = true

/-- Every descriptor offset the part holds is a descriptor place, and every posting lies in the pool or the ring (R54, R61, R69,
R172). -/
structure State.placedOk (s : State) : Prop where
  inFlight : ∀ o ∈ s.inFlight, validPoolOffset o.toNat = true
  queue : ∀ p ∈ s.queue, p.placed
  handOver : ∀ i ∈ s.journal.handOver, i.placed
  toPlace : ∀ i ∈ s.walker.toPlace, i.placed
  current : validDesc s.walker.current
  heads : ∀ o ∈ s.walker.heads, validPoolOffset o.toNat = true
  chans : ∀ h, validDesc (s.chan h).desc
  waits : ∀ e ∈ s.waitList, validDesc e.desc
  slots : ∀ k x, s.slot k = some x → validDesc x.desc

/-- The window offsets of the words an entry holds (R172). -/
def Posting.offsets (p : Posting) : List Nat := p.writes.map Prod.fst

/-! ### Records, maps, slots and Wait List -/

/-- What the state of a channel and its shuttered-by are while a transition of its kind waits (R12, R16, R81). -/
def Channel.waitsAs (c : Channel) (e : WaitEntry) : Prop :=
  match e.kind with
  | .rise => c.state = .dark ∧ c.shutteredBy = none
  | .restore => c.state = .dark ∧ c.shutteredBy ≠ none ∧ c.shutteredBy = e.restoreSite
  | .adjust | .fall => c.state = .active
  | .adopt => False

/-- The relations of R10, R12, R18, R19 and R164 between the channel records, the maps, the slots, the Wait List and the sites. -/
structure State.coherent (s : State) : Prop where
  /-- A channel that is not FREE has a kind, a range and two ENABLED ends. -/
  filled : ∀ h, (s.chan h).state ≠ .free →
    kindOf (s.chan h).src (s.chan h).dst = some (s.chan h).kind ∧ 1 ≤ (s.chan h).count ∧ (s.chan h).count ≤ 16 ∧
    (s.chan h).first + (s.chan h).count ≤ 320 ∧ (s.site (s.chan h).srcSite).state = .enabled ∧
    (s.site (s.chan h).dstSite).state = .enabled
  /-- A DARK channel owns or claims every entry of its footprint, a channel beyond DARK owns every one. -/
  footprint : ∀ h, (s.chan h).state ≠ .free → ∀ r ∈ (s.chan h).footprint,
    (s.entry r).owner = some h ∨ ((s.chan h).state = .dark ∧ (s.entry r).claimant = some h)
  /-- An owner or claimant is not FREE and has the entry in its footprint. -/
  reserved : ∀ r h, (s.entry r).owner = some h ∨ (s.entry r).claimant = some h →
    (s.chan h).state ≠ .free ∧ r ∈ (s.chan h).footprint
  /-- A claimant is DARK, and the entry has an owner, which is FALLING. -/
  claimed : ∀ r g, (s.entry r).claimant = some g → (s.chan g).state = .dark ∧
    ∃ h, (s.entry r).owner = some h ∧ (s.chan h).state = .falling
  /-- A FREE channel has no transition; a DARK one without a transition has been shuttered; no other has shuttered-by; a channel
  without a transition has no descriptor pointer (R10). -/
  resting : ∀ h, ((s.chan h).state = .free → (s.chan h).pending = none) ∧
    ((s.chan h).state = .dark → (s.chan h).pending = none → (s.chan h).shutteredBy ≠ none) ∧
    ((s.chan h).state ≠ .dark → (s.chan h).shutteredBy = none) ∧
    ((s.chan h).pending = none → (s.chan h).desc = none)
  /-- A channel has a transition in a slot exactly in RISING, ADJUSTING and FALLING, and a motion target exactly then. -/
  moving : ∀ h, ((∃ k, (s.chan h).pending = some (.slot k)) ↔
      ((s.chan h).state = .rising ∨ (s.chan h).state = .adjusting ∨ (s.chan h).state = .falling)) ∧
    ((∃ k, (s.chan h).pending = some (.slot k)) ↔ (s.chan h).motion ≠ none)
  /-- A slot in use is its channel's pending transition, of the kind the channel's state says; a RESTORE alone has no descriptor. -/
  slots : ∀ k x, s.slot k = some x → (s.chan x.handle).pending = some (.slot k) ∧
    (s.chan x.handle).state = x.kind.slotState ∧ x.dest = (s.chan x.handle).dstSite ∧
    x.desc = (s.chan x.handle).desc ∧ (x.desc = none ↔ x.kind = .restore)
  /-- A pending transition in a slot is there. -/
  slotOf : ∀ h k, (s.chan h).pending = some (.slot k) → ∃ x, s.slot k = some x ∧ x.handle = h
  /-- A waiting entry is its channel's pending transition, of a kind the channel's state allows; a RESTORE alone has no
  descriptor. -/
  waits : ∀ e ∈ s.waitList, (s.chan e.handle).pending = some .waiting ∧ (s.chan e.handle).waitsAs e ∧
    e.dest = (s.chan e.handle).dstSite ∧ e.desc = (s.chan e.handle).desc ∧ (e.desc = none ↔ e.kind = .restore)
  /-- A pending transition in the Wait List is there, once. -/
  waitOf : (s.waitList.map (·.handle)).Nodup ∧ ∀ h, (s.chan h).pending = some .waiting → ∃ e ∈ s.waitList, e.handle = h

/-! ### Admission -/

/-- The Wait List holds at most 64 entries; a skip count is 0..8, and the barrier flag is set exactly at 8
(R81, R86, R87). -/
def State.waitOk (s : State) : Prop :=
  s.waitList.length ≤ 64 ∧ ∀ e ∈ s.waitList, e.skip ≤ 8 ∧ (e.barrier = true ↔ e.skip = 8)

/-- What a slot charges a line degree: its swing, when its transition's destination is that degree. -/
def slotCharge (d : Fin 8) : Option Slot → Nat
  | none => 0
  | some t => if t.dest = degreeSite d then t.swing else 0

/-- The sum of the swings of the transitions in slots whose destination is a line degree. -/
def State.slotSwing (s : State) (d : Fin 8) : Nat := (allSlots.map fun k => slotCharge d (s.slot k)).sum

/-- Committed swing equals the sum of the swings in slots, for each line degree (R94). -/
def State.swingOk (s : State) : Prop := ∀ d, s.swingOf d = s.slotSwing d

/-- An entry that has a claimant has an owner (R18). -/
def State.claimsOk (s : State) : Prop := ∀ r, (s.entry r).claimant ≠ none → (s.entry r).owner ≠ none

/-! ### Values -/

/-- A setting is BLOCKED or 0..200 (R103). -/
def Setting.inRange : Setting → Prop
  | .blocked => True
  | .att a => a ≤ 200

/-- A LEVEL request carries 0..200 (R117). -/
def Request.inRange : Request → Prop
  | .ramp _ => True
  | .level _ a => a ≤ 200

/-- Every attenuation the part holds, sends or records is BLOCKED or 0..200 (R103). -/
def State.settingsOk (s : State) : Prop :=
  (∀ h, (s.chan h).applied.inRange ∧ ∀ m, (s.chan h).motion = some m → m.inRange) ∧
  (∀ m, (∀ o, (s.link m).out = some o → o.msg.setting.inRange) ∧ ∀ r ∈ (s.link m).queue, r.inRange) ∧
  ∀ e ∈ s.waitList, ∀ p, e.preset = some p → p ≤ 200

/-- A parameter copy satisfies every range of Table 9-3, with Lmin not above Lmax, and holds only allowed actions (R154). -/
def Params.inRange (p : Params) : Prop :=
  1 ≤ p.step ∧ p.step ≤ 50 ∧ 1 ≤ p.pacing ∧ p.pacing ≤ 255 ∧ p.il ≤ 150 ∧ 1 ≤ p.budget ∧ p.budget ≤ 255 ∧
  p.deadband ≤ 50 ∧ 1 ≤ p.gain ∧ p.gain ≤ 16 ∧ -300 ≤ p.lmin ∧ p.lmin ≤ p.lmax ∧ p.lmax ≤ 50 ∧
  -500 ≤ p.los ∧ p.los ≤ 200 ∧ -500 ≤ p.high ∧ p.high ≤ 200 ∧ 50 ≤ p.staleLimit ∧ p.staleLimit ≤ 5000 ∧
  p.holdOff ≤ 60000 ∧ p.inHighAct ≠ .shutter ∧ p.modFaultAct ≠ .shutter ∧ p.monStaleAct ≠ .shutter

/-- Every site's parameter copies are in range (R154). -/
def State.paramsOk (s : State) : Prop :=
  ∀ n, (s.site n).active.inRange ∧ ∀ p, (s.site n).buffered = some p → p.inRange

/-! ### The whole -/

/-- All of the above together, with no admission pass left due between events (R89). -/
structure State.Sound (s : State) : Prop where
  memory : s.memoryOk
  journal : s.journalOk
  handOver : s.handOverOk
  queue : s.queueOk
  waiting : s.waitingOk
  bounds : s.boundsOk
  links : s.linksOk
  wait : s.waitOk
  swing : s.swingOk
  claims : s.claimsOk
  coherent : s.coherent
  held : s.heldOk
  requests : s.requestsOk
  served : s.served
  placed : s.placedOk
  settings : s.settingsOk
  params : s.paramsOk
  noPassDue : s.passDue = false

end Sys2Proof.Machine
end

