-- ==== Sys2Proof/WellFormed.lean ====
section
/-!
DEFINITION. When a command is well formed: its operands are ones its row can carry. Sites, taps, slots and widths are
held by their types; what is left is checked here.
-/

namespace Sys2Proof

/-- The codes of the seven commands, Table 12-10. -/
def knownCommandCode (code : Byte) : Bool := decide (1 ≤ code.toNat ∧ code.toNat ≤ 7)

/-- An offset whose controller write R170 can suppress: a view, the journal ring, or w6 or w7 of a pool place. -/
def suppressibleOffset (offset : Half) : Bool :=
  let o := offset.toNat
  decide (o % 4 = 0) &&
    (decide (0x0400 ≤ o ∧ o < 0x0440) || decide (0x0800 ≤ o ∧ o < 0x0A80) || decide (0x1000 ≤ o ∧ o < 0x2000) ||
      decide (0x8000 ≤ o ∧ o < 0x9000) || decide (0x4000 ≤ o ∧ o < 0x8000 ∧ 24 ≤ o % 32))

/-- The operand checks of each command. -/
def Instr.wellFormed : Instr → Bool
  | .resetAssert begun => decide (begun ≤ 4)
  | .unknownCommand code _ => !knownCommandCode code
  | .suppressedWrite offset _ _ => suppressibleOffset offset
  | .resetRelease _ | .tick | .go _ | .halt _ | .freeze _ | .thaw _ | .enable _ | .disable _ | .reload _
  | .consumerUpdate _ | .thresholdWrite _ _ | .maskWrite _ _ | .probeWrite _ | .stickyWordRead _ _
  | .controllerCycle _ _ _ _ | .lockAssert | .lockDeassert | .lockBroken | .arbiterGrant | .setup | .adopt
  | .retarget | .release | .mark | .badKind | .inFlightRefusal | .setupFetchComplete | .postingDrain
  | .walkerPostingPlace | .handoverPlace | .scanByte _ | .byteGapExpiry | .staleTimerExpiry _
  | .ackReceived _ _ _ _ | .ackTimeout _ | .pacingExpiry _ | .holdOffExpiry _ => true

end Sys2Proof
end

