-- ==== Sys2Proof/Certificates/Slice0/Obligations.lean ====
section
/-!
DEFINITION. The statements for the provers, one definition each. A docstring names the rule of spec/ a statement rests on; where
a clause is the model's own choice it names the log entry.
-/

open Sys2Proof
open Sys2Proof.Machine

/-! ### The machine -/

/-- A step takes the command at the front of the queue and runs it with the queue's rest. -/
def Obligations.StepRunsFrontCommand : Prop :=
  ∀ (c : Instr) (rest : List Instr) (s : State), s.pending = c :: rest → step s = exec c { s with pending := rest }

/-- Every command answers a next state, in every state, and leaves the queue of commands alone. That it does so in every state is the
model's choice: a command without its cause leaves the state unchanged (notes/assumptions/3.md, DESIGN CHOICE), and the part has no fault
or refusal (notes/assumptions/36.md, DEDUCED). -/
def Obligations.CommandsAnswerNextAndKeepQueue : Prop :=
  ∀ (c : Instr) (s : State), ∃ t, exec c s = .next t ∧ t.pending = s.pending

/-- The cold-reset values the spec states (R1, R7, R18, R44, R57, R60, R65, R79, R81, R94, R113, R117, R118, R134, R153, R168,
R170, R172, R177, R178, R182, R187). -/
def Obligations.ResetHoldsColdValues : Prop :=
  State.reset.tick = 0 ∧
  (∀ h, State.reset.chan h =
    { state := .free, kind := .express, src := .degree 0, dst := .degree 0, first := 0, count := 0, target := 0,
      applied := .blocked, motion := none, shutteredBy := none, underRange := false, overRange := false,
      noLightOut := false, unconfirmed := false, clamped := false, pending := none, desc := none }) ∧
  (∀ r, State.reset.entry r = { owner := none, claimant := none }) ∧
  (∀ t, (∀ i : Fin 320, ((State.reset.tap t).slices.get i).toInt = -32768) ∧ (State.reset.tap t).received = false ∧
    (State.reset.tap t).lastSeq = none ∧ (State.reset.tap t).stale = false ∧ (State.reset.tap t).timer = none) ∧
  (∀ n c, (State.reset.cond n).flag c = { live := false, sticky := false }) ∧
  (∀ n, (State.reset.cond n).firstLos = none ∧ (State.reset.cond n).lastLos = none ∧
    (State.reset.cond n).holdOff = none ∧ (State.reset.cond n).restoreDeferred = false) ∧
  (∀ n, State.reset.site n =
    { state := .disabled, buffered := none, reload := .idle, refetch := false, setupClamped := false, clampMask := 0,
      frozen := false,
      active :=
        { step := 1, pacing := 1, il := 0, budget := 1, deadband := 0, gain := 1, lmin := -300, lmax := 50, los := -500,
          high := 200, staleLimit := 50, holdOff := 0, inLosAct := .note, inHighAct := .note, modFaultAct := .note,
          monStaleAct := .note } }) ∧
  (∀ m, State.reset.link m = { seq := 0, out := none, shutters := [], queue := [] }) ∧
  (∀ k, State.reset.slot k = none) ∧ (∀ d, State.reset.swingOf d = 0) ∧ State.reset.waitList = [] ∧
  State.reset.walker =
    { state := .idle, current := none, examined := 0, halt := false, heads := [], fetched := none, toPlace := [],
      ending := false } ∧
  State.reset.cmd = { count := 0, code := 0, result := 0 } ∧
  State.reset.latches =
    { journalThr := 0, waitThr := 0, maskB0 := 0xFFFFFFFF#32, maskS0 := 0xFFFFFFFF#32, maskS1 := 0xFFFFFFFF#32,
      probe := 0 } ∧
  State.reset.inFlight = [] ∧ State.reset.suppressed = 0 ∧ State.reset.queue = [] ∧
  State.reset.port.fairness = 0 ∧ State.reset.port.lockBreaks = 0 ∧ State.reset.setup.queue = [] ∧
  State.reset.journal = { produced := 0, consumer := 0, lost := 0, handOver := [] } ∧
  State.reset.attn = { chainEnd := false, consumerBad := false } ∧ State.reset.attention = false ∧
  State.reset.scan = { inFrame := false, buffer := [], gapCount := 0, checkErrors := 0 }

/-- The state right after reset meets every invariant stated below. -/
def Obligations.ResetIsSound : Prop := State.reset.Sound

/-! ### Invariants that every step keeps -/

/-- Every step keeps the canonical form of the plan memory (the model's own form, notes/assumptions/6.md). -/
def Obligations.StepKeepsMemoryForm : Prop := ∀ s t : State, s.memoryOk → step s = .next t → t.memoryOk

/-- Every step keeps the journal fill between 0 and 256, and at most 256 records in the hand-over list (R182, R184). -/
def Obligations.StepKeepsJournalFill : Prop :=
  (∀ s t : State, s.journalOk → step s = .next t → t.journalOk) ∧
  ∀ s t : State, s.handOverOk → step s = .next t → t.handOverOk

/-- Every step keeps the Posting Queue at 32 entries or fewer, no two of the same address, and keeps every posting in the pool or at a
slot of the ring and every descriptor offset the part holds, those in flight too, a descriptor place (R54, R57, R172). In a state with both properties no word
address is held twice, each word of a record posting counting as one of its addresses (R172). -/
def Obligations.StepKeepsPostingQueue : Prop :=
  (∀ s t : State, s.queueOk → step s = .next t → t.queueOk) ∧
  (∀ s t : State, s.placedOk → step s = .next t → t.placedOk) ∧
  ∀ s : State, s.queueOk → s.placedOk → (s.queue.flatMap Posting.offsets).Nodup

/-- Every step keeps the Wait List at 64 entries or fewer, every skip count at 0..8, and a barrier flag set exactly at a skip
count of 8 (R81, R86, R87); and every event makes its own admission pass, so that no step leaves one due (R89). -/
def Obligations.StepKeepsWaitList : Prop :=
  (∀ s t : State, s.waitOk → step s = .next t → t.waitOk) ∧
  ∀ s t : State, s.passDue = false → step s = .next t → t.passDue = false

/-- Every step keeps each line degree's committed swing equal to the sum of the swings in slots for it (R94). -/
def Obligations.StepKeepsCommittedSwing : Prop := ∀ s t : State, s.swingOk → step s = .next t → t.swingOk

/-- Every step keeps an owner at every map entry and port cell that has a claimant (R18). Every step keeps the records, the maps, the
slots and the Wait List in agreement: a DARK channel owns or claims its whole footprint and one beyond DARK owns it, a FREE one has
neither; the owner of a claimed entry is FALLING and its claimant DARK; each channel has at most one transition, in a slot exactly in
RISING, ADJUSTING and FALLING; a descriptor pointer is present exactly while a transition other than a RESTORE is; and a channel that
is not FREE has two ENABLED sites (R10, R12, R18, R19, R81, R164). In such a state every step keeps the held flag of every slot equal to
what the holds and freeze flags of its channel's ends give (R142, R143). -/
def Obligations.StepKeepsClaimsOwned : Prop :=
  (∀ s t : State, s.claimsOk → step s = .next t → t.claimsOk) ∧
  (∀ s t : State, s.coherent → step s = .next t → t.coherent) ∧
  ∀ s t : State, s.coherent → s.heldOk → step s = .next t → t.heldOk

/-- Every step keeps every attenuation applied, aimed at, queued or sent BLOCKED or within 0..200 (R103). -/
def Obligations.StepKeepsSettingsInRange : Prop := ∀ s t : State, s.settingsOk → step s = .next t → t.settingsOk

/-- Every step keeps every site's parameter copies within the ranges of Table 9-3 (R154). The load of a setup record reads each field of
Table 12-2 at its width and sign and holds it to its range by Table 9-3, with a clamp mark exactly where it replaced the value, in the
order of the mask; Lmin above Lmax loads as Lmax, with both marks; words 6 to 15 are ignored (R154, R192). -/
def Obligations.StepKeepsParametersInRange : Prop :=
  (∀ s t : State, s.paramsOk → step s = .next t → t.paramsOk) ∧
  ∀ w : Vector Word 16,
    let p := (loadSetup w).1
    let mark (i : Nat) := (loadSetup w).2.getLsbD i = true
    let byte (i : Fin 16) (j : Nat) := (w.get i).toNat / 256 ^ j % 256
    let half (i : Fin 16) (j : Nat) := (w.get i).toNat / 65536 ^ j % 65536
    let signed (i : Fin 16) (j : Nat) : Int := if half i j < 32768 then half i j else (half i j : Int) - 65536
    let number (lo hi v loaded i : Nat) := loaded = max lo (min hi v) ∧ (mark i ↔ v < lo ∨ hi < v)
    let level (v loaded : Int) (i : Nat) := loaded = max (-500) (min 200 v) ∧ (mark i ↔ v < -500 ∨ 200 < v)
    let action (shutter : Bool) (v : Nat) (loaded : Action) (i : Nat) :=
      (v = 0 → loaded = .note ∧ ¬mark i) ∧ (v = 1 → loaded = .hold ∧ ¬mark i) ∧
      (v = 2 → if shutter then loaded = .shutter ∧ ¬mark i else loaded = .note ∧ mark i) ∧
      (3 ≤ v → loaded = .note ∧ mark i)
    let lmin := max (-300) (min 50 (signed 2 0))
    let lmax := max (-300) (min 50 (signed 2 1))
    number 1 50 (byte 0 0) p.step 0 ∧ number 1 255 (byte 0 1) p.pacing 1 ∧ number 0 150 (byte 0 2) p.il 2 ∧
    number 1 255 (byte 0 3) p.budget 3 ∧ number 0 50 (byte 1 0) p.deadband 4 ∧ number 1 16 (byte 1 1) p.gain 5 ∧
    p.lmax = lmax ∧ p.lmin = (if lmax < lmin then lmax else lmin) ∧
    (mark 6 ↔ lmin ≠ signed 2 0 ∨ lmax ≠ signed 2 1 ∨ lmax < lmin) ∧ (mark 7 ↔ mark 6) ∧
    level (signed 3 0) p.los 8 ∧ level (signed 3 1) p.high 9 ∧ number 50 5000 (half 4 0) p.staleLimit 10 ∧
    number 0 60000 (half 4 1) p.holdOff 11 ∧ action true (byte 5 0) p.inLosAct 12 ∧ action false (byte 5 1) p.inHighAct 13 ∧
    action false (byte 5 2) p.modFaultAct 14 ∧ action false (byte 5 3) p.monStaleAct 15 ∧
    ∀ v : Vector Word 16, (∀ i : Fin 16, i.val < 6 → v.get i = w.get i) → loadSetup v = loadSetup w

/-- No step lets a controller write to a view or to the journal ring wait for the SRAM (R170). -/
def Obligations.StepKeepsSuppressedRegionsUnwritten : Prop := ∀ s t : State, s.waitingOk → step s = .next t → t.waitingOk

/-- Every step keeps the bounds of the chain queue, the fairness count, the in-flight set, the fetch queue (R57, R61, R156,
R177) and of each module's LEVEL requests, shutter set and ack timer (R116, R117, R118). Every step keeps each queued RAMP request that
of a QUEUED slot of the module, once, and each message bound to a slot that of a SENT one (R101, R117), and leaves no module idle with
something waiting (R114). A setting queue therefore holds at most 16 RAMP requests and at most 32 requests (R117). -/
def Obligations.StepKeepsTableBounds : Prop :=
  (∀ s t : State, s.boundsOk → step s = .next t → t.boundsOk) ∧
  (∀ s t : State, s.linksOk → step s = .next t → t.linksOk) ∧
  (∀ s t : State, s.requestsOk → step s = .next t → t.requestsOk) ∧
  (∀ s t : State, s.requestsOk → s.served → step s = .next t → t.served) ∧
  ∀ s : State, s.linksOk → s.requestsOk → ∀ m,
    (rampSlots (s.link m).queue).length ≤ 16 ∧ (s.link m).queue.length ≤ 32

/-! ### Rules about the whole part -/

/-- The tick counter rises by 1, wrapping, at TICK alone, stands while the reset input is asserted, and is 0 at its release
(R1). -/
def Obligations.TickCounterMovesOnlyAtTicks : Prop :=
  ∀ (c : Instr) (s t : State), exec c s = .next t →
    match c with
    | .tick => t.tick = if s.inReset then s.tick else s.tick + 1
    | .resetRelease _ => t.tick = if s.inReset then 0 else s.tick
    | _ => t.tick = s.tick

/-- Out of reset the SRAM changes only where the Arbiter grants a cycle, where a posting drains, and where the reset input is
asserted: no command and no decision writes it by itself (R167, R172, R180). -/
def Obligations.SramChangesOnlyThroughThePort : Prop :=
  ∀ (c : Instr) (s t : State), s.inReset = false → exec c s = .next t →
    c ≠ .arbiterGrant → c ≠ .postingDrain → (∀ b, c ≠ .resetAssert b) → t.mem = s.mem

/-- While the reset input is asserted every controller cycle passes through to the memory bus, those that another row names too: a
write reaches the SRAM at its own address with its data and byte enables, and a read returns the SRAM's word. The lock signal is
followed and gives no lock. Every other event but the release changes nothing (R52, R60, R122, R180). -/
def Obligations.ResetMasksEveryEvent : Prop :=
  ∀ (c : Instr) (s : State), s.inReset = true →
    let passes (b : BusCycle) := exec c s = .next (s.busAccess b) ∧
      (b.dir = .write → s.busAccess b = { s with mem := Memory.writeLanes s.mem (4 * b.address.toNat) b.enables b.data }) ∧
      (b.dir = .read → ∃ r, s.busAccess b = { s with lastRead := some r, freeIndex := s.freeIndex + 1 } ∧
        ∀ i < 4, b.enables.getLsbD i = true → lane r i = Memory.read s.mem (4 * b.address.toNat + i))
    let cell (offset : Nat) (w : Word) := passes (cycleAt s.base offset .write 0xF#4 w)
    match c with
    | .go o => cell 0x0000 (0x01#8 ++ o)
    | .halt o => cell 0x0000 (0x02#8 ++ o)
    | .freeze o => cell 0x0000 (0x03#8 ++ o)
    | .thaw o => cell 0x0000 (0x04#8 ++ o)
    | .enable o => cell 0x0000 (0x05#8 ++ o)
    | .disable o => cell 0x0000 (0x06#8 ++ o)
    | .reload o => cell 0x0000 (0x07#8 ++ o)
    | .unknownCommand code o => cell 0x0000 (code ++ o)
    | .consumerUpdate w => cell 0x0004 w
    | .thresholdWrite .journal w => cell 0x0008 w
    | .thresholdWrite .wait w => cell 0x000C w
    | .maskWrite .b0 w => cell 0x0010 w
    | .maskWrite .s0 w => cell 0x0014 w
    | .maskWrite .s1 w => cell 0x0018 w
    | .probeWrite w => cell 0x001C w
    | .stickyWordRead .bridge en => passes (cycleAt s.base 0x0400 .read en 0)
    | .stickyWordRead (.site n) en => passes (cycleAt s.base (0x0800 + 64 * n.val) .read en 0)
    | .suppressedWrite offset en data => passes (cycleAt s.base offset.toNat .write en data)
    | .controllerCycle dir a en data => passes { dir, address := a, enables := en, data }
    | .lockAssert => exec c s = .next { s with port := { s.port with
        lockPin := true, lock := if s.port.lockPin then s.port.lock else .off } }
    | .lockDeassert => exec c s = .next { s with port := { s.port with lockPin := false, lock := .off } }
    | .resetRelease _ => True
    | _ => exec c s = .next s

/-! ### Time and reset -/

/-- A tick raises the counter by 1 and each running tick-timed countdown falls by 1; nothing else changes (R1, R48, R101, R116,
R148). A countdown that has come to 0 stays at 0 until its expiry is taken (notes/assumptions/5.md). -/
def Obligations.TickCountsEveryCountdownDown : Prop :=
  ∀ s : State, s.inReset = false → ∃ t, exec .tick s = .next t ∧
    t.outer = { s.outer with tick := s.tick + 1 } ∧ t.journal = s.journal ∧
    (∀ k, t.slot k = (s.slot k).map fun x =>
      { x with drive := match x.drive with
          | .pacing n => .pacing (n - 1)
          | d => d }) ∧
    (∀ m, t.link m = { s.link m with out := (s.link m).out.map fun o => { o with timer := o.timer - 1 } }) ∧
    (∀ p, t.tap p = { s.tap p with timer := (s.tap p).timer.map fun n => n - 1 }) ∧
    (∀ n, t.cond n = { s.cond n with holdOff := (s.cond n).holdOff.map fun m => m - 1 }) ∧
    t.chans = s.chans ∧ t.maps = s.maps ∧ t.addCells = s.addCells ∧ t.dropCells = s.dropCells ∧
    t.waitList = s.waitList ∧ t.committed = s.committed ∧ t.sites = s.sites ∧ t.passDue = s.passDue

/-- At the assertion of the reset input everything queued, granted, requested, outstanding or in progress is abandoned, and of
the posting that holds the port only the memory-bus writes that had begun reach the SRAM (R52, R65, R122, R180, R188). How many
had begun is the command's operand (notes/assumptions/11.md); that the four writes of a record are made from word 0 to word 3 is
notes/assumptions/48.md (DESIGN CHOICE). Controller cycles that wait pass through at the assertion
(notes/assumptions/12.md, DEDUCED). -/
def Obligations.ResetAssertAbandonsWork : Prop :=
  ∀ (s : State) (begun : Nat), s.inReset = false → ∃ t, exec (.resetAssert begun) s = .next t ∧
    t.inReset = true ∧ t.tick = s.tick ∧ t.queue = [] ∧ t.journal.handOver = [] ∧ t.port.holder = .none ∧
    t.port.waiting = [] ∧ t.port.requests = [] ∧ t.setup = {} ∧ t.walker = {} ∧ t.scan.inFrame = false ∧
    t.scan.gapCount = s.scan.gapCount ∧ (∀ m, (t.link m).out = none) ∧ t.attention = false ∧
    (s.port.holder ≠ .posting → t.mem = (s.port.waiting.foldl State.busAccess s).mem) ∧
    (s.port.waiting = [] → s.port.holder ≠ .posting → t.mem = s.mem) ∧
    (∀ a w f, (Posting.word a w f).writes = [(a.toNat, w)]) ∧
    (∀ a w0 w1 w2 w3, (Posting.record a w0 w1 w2 w3).writes =
      [(a.toNat, w0), (a.toNat + 4, w1), (a.toNat + 8, w2), (a.toNat + 12, w3)]) ∧
    ∀ p rest, s.port.holder = .posting → s.queue = p :: rest →
      t.mem = (s.port.waiting.foldl State.busAccess (s.sramWrites (p.writes.take begun))).mem

/-- At the release of the reset input every block holds its cold-reset values, the window base is fixed by the straps, the SRAM
keeps its content, and a locked sequence in progress is a new lock (R166, R180). -/
def Obligations.ResetReleaseIsColdReset : Prop :=
  ∀ (s : State) (straps : BitVec 2), s.inReset = true → ∃ t, exec (.resetRelease straps) s = .next t ∧
    t.engine = State.reset.engine ∧ t.inReset = false ∧ t.tick = 0 ∧ t.base = 0xF00000 + 0x10000 * straps.toNat ∧
    t.latches = State.reset.latches ∧ t.inFlight = [] ∧ t.suppressed = 0 ∧ t.cmd = State.reset.cmd ∧ t.queue = [] ∧
    t.walker = State.reset.walker ∧ t.scan = State.reset.scan ∧ t.setup = State.reset.setup ∧
    t.journal = State.reset.journal ∧ t.attn = State.reset.attn ∧ t.port.holder = .none ∧ t.port.waiting = [] ∧
    t.port.requests = [] ∧ t.port.fairness = 0 ∧ t.port.lockBreaks = 0 ∧ t.port.lockPin = s.port.lockPin ∧
    t.port.lock = (if s.port.lockPin then .inForce else .off) ∧ t.mem = s.mem ∧ t.pending = s.pending

/-! ### Commands -/

/-- GO: with a valid head it starts a walk in IDLE, else joins the chain queue, else gives QUEUE_FULL; any other operand gives
BAD_OPERAND (R61, R66, R67). -/
def Obligations.GoStartsOrQueuesAWalk : Prop :=
  ∀ (s : State) (operand : BitVec 24), s.inReset = false →
    let t := s.withCellWrite 0 (0x01#8 ++ operand)
    let valid := operand.toNat % 32 = 0 ∧ 0x4000 ≤ operand.toNat ∧ operand.toNat ≤ 0x7FE0
    let head : Half := operand.setWidth 16
    (valid → s.walker.state = .idle →
      exec (.go operand) s = .next (State.withLog
        { t with walker := { state := .fetching, current := some head, examined := 0, halt := false,
                             heads := s.walker.heads, fetched := none, toPlace := [], ending := false },
                 port := { t.port with requests := s.port.requests ++ [.walker] } } 1 1)) ∧
    (valid → s.walker.state ≠ .idle → s.walker.heads.length < 4 →
      exec (.go operand) s = .next (State.withLog
        { t with walker := { s.walker with heads := s.walker.heads ++ [head] } } 1 1)) ∧
    (valid → s.walker.state ≠ .idle → 4 ≤ s.walker.heads.length → exec (.go operand) s = .next (t.withLog 1 2)) ∧
    (¬valid → exec (.go operand) s = .next (t.withLog 1 3))

/-- HALT: in IDLE it gives STATE; otherwise it empties the chain queue and sets the halt flag, and where the flag is set already it is
ACCEPTED with no further effect, so that a head queued since stays (R62). The operand is ignored. An unknown code is counted with
result UNKNOWN and has no other effect (R60). -/
def Obligations.HaltEndsTheWalk : Prop :=
  ∀ (s : State) (operand : BitVec 24), s.inReset = false →
    (s.walker.state = .idle → exec (.halt operand) s = .next ((s.withCellWrite 0 (0x02#8 ++ operand)).withLog 2 4)) ∧
    (s.walker.state ≠ .idle → s.walker.halt = false → exec (.halt operand) s = .next (State.withLog
      { s.withCellWrite 0 (0x02#8 ++ operand) with walker := { s.walker with heads := [], halt := true } } 2 1)) ∧
    (s.walker.state ≠ .idle → s.walker.halt = true →
      exec (.halt operand) s = .next ((s.withCellWrite 0 (0x02#8 ++ operand)).withLog 2 1)) ∧
    ∀ code : Byte, knownCommandCode code = false →
      exec (.unknownCommand code operand) s = .next ((s.withCellWrite 0 (code ++ operand)).withLog code 5)

/-- FREEZE with an operand of 1024 or more gives BAD_OPERAND and changes nothing else (R63). Otherwise it is ACCEPTED and sets the
freeze flag of each site its mask names. A slot with an end at a site newly frozen is held, and one that was
not held is stopped when it is QUEUED or PACING, the request of a QUEUED one being withdrawn from its module's setting queue. No other
slot and no other request is touched, no message, sequence or shutter entry of a module, and nothing else of the engine
(R63, R109, R143). -/
def Obligations.FreezeHoldsTheSitesItNames : Prop :=
  ∀ (s : State) (operand : BitVec 24), s.inReset = false →
    (1024 ≤ operand.toNat → exec (.freeze operand) s = .next ((s.withCellWrite 0 (0x03#8 ++ operand)).withLog 3 3)) ∧
    (operand.toNat < 1024 →
    let newlyFrozen (x : Slot) := ∃ n : SiteId, operand.getLsbD n.val = true ∧ (s.site n).frozen = false ∧
      ((s.chan x.handle).srcSite = n ∨ (s.chan x.handle).dstSite = n)
    let withdrawn (m : SiteId) (r : Request) : Bool := match r with
      | .ramp k => (s.slot k).any fun x => decide (newlyFrozen x ∧ x.held = false ∧ x.drive = .queued ∧ x.dest = m)
      | .level _ _ => false
    ∃ t, exec (.freeze operand) s = .next t ∧
      t.outer = ((s.withCellWrite 0 (0x03#8 ++ operand)).withLog 3 1).outer ∧ t.journal = s.journal ∧
      (∀ n, t.site n = { s.site n with frozen := (s.site n).frozen || operand.getLsbD n.val }) ∧
      t.chans = s.chans ∧ t.maps = s.maps ∧ t.addCells = s.addCells ∧ t.dropCells = s.dropCells ∧
      t.waitList = s.waitList ∧ t.committed = s.committed ∧ t.conds = s.conds ∧ t.taps = s.taps ∧ t.passDue = s.passDue ∧
      (∀ m, t.link m = { s.link m with queue := (s.link m).queue.filter fun r => !withdrawn m r }) ∧
      ∀ k, match s.slot k with
        | none => t.slot k = none
        | some x =>
          (newlyFrozen x → t.slot k = some
            { x with held := true,
                     drive := if x.held then x.drive else match x.drive with
                       | .queued | .pacing _ => .stopped
                       | d => d }) ∧
          (¬newlyFrozen x → t.slot k = some x))

/-- THAW with an operand of 1024 or more gives BAD_OPERAND and changes nothing else (R63). Otherwise it is ACCEPTED and clears the
freeze flag of each site its mask names; when none of them was frozen, nothing else changes and no pass follows (R63, R144). The held
flag of a slot with an end at a site so thawed becomes what the holds that remain give it, and no other held flag changes. A STOPPED
slot whose flag clears has its request placed at the tail of its module's queue: a busy module leaves it QUEUED; of the slots of an
idle module the one of lowest handle is SENT its message of Table 6-2, with the fields of its channel, the present sequence number,
which then rises by 1, and 8 ticks, and the others are QUEUED behind it in ascending order of their handles. A slot whose flag sets is
stopped and its request withdrawn (State.reheld; R109, R114, R143). That an idle module has nothing waiting is State.served, an
invariant; without it, under State.requestsOk, another, the slots and the busy modules still do as said. The event's end and its admission pass follow (R144). The order
by handle is notes/assumptions/18.md (DESIGN CHOICE). -/
def Obligations.ThawClearsFreezeFlags : Prop :=
  ∀ (s : State) (operand : BitVec 24), s.inReset = false →
    let c := s.withCellWrite 0 (0x04#8 ++ operand)
    (1024 ≤ operand.toNat → exec (.thaw operand) s = .next (c.withLog 4 3)) ∧
    (operand.toNat < 1024 →
    let thawedSite (n : SiteId) : Bool := operand.getLsbD n.val && (s.site n).frozen
    let frozenAfter (n : SiteId) := (s.site n).frozen && !operand.getLsbD n.val
    let heldAfter (x : Slot) := let d := s.chan x.handle
      s.sourceHold d.srcSite || s.destHold d.dstSite || frozenAfter d.srcSite || frozenAfter d.dstSite
    let thawed (x : Slot) := thawedSite (s.chan x.handle).srcSite || thawedSite (s.chan x.handle).dstSite
    let now (x : Slot) : Bool := if thawed x then heldAfter x else x.held
    (∃ t, exec (.thaw operand) s = .next t ∧ t.outer = (c.withLog 4 1).outer ∧
      (∀ n, t.site n = { s.site n with frozen := frozenAfter n }) ∧
      t.maps = s.maps ∧ t.addCells = s.addCells ∧ t.dropCells = s.dropCells ∧ t.conds = s.conds ∧ t.taps = s.taps ∧
      (s.passDue = false → (∀ n, thawedSite n = false) → t.engine = s.engine ∧ t.journal = s.journal)) ∧
    ∃ v : State, exec (.thaw operand) s = .next ((c.finish v).withLog 4 1) ∧ v.outer = c.outer ∧ v.journal = s.journal ∧
      (∀ n, v.site n = { s.site n with frozen := frozenAfter n }) ∧
      v.chans = s.chans ∧ v.maps = s.maps ∧ v.addCells = s.addCells ∧ v.dropCells = s.dropCells ∧ v.waitList = s.waitList ∧
      v.committed = s.committed ∧ v.conds = s.conds ∧ v.taps = s.taps ∧
      (v.passDue = true ↔ s.passDue = true ∨ ∃ n, thawedSite n = true) ∧
      (s.served → s.reheld v now) ∧
      (∀ k, s.slot k = none → v.slot k = none) ∧
      (s.requestsOk → (∀ k x, s.slot k = some x → ∃ drive takeover, v.slot k = some { x with held := now x, drive, takeover } ∧
        (x.restarts now = true → takeover = false ∧ (drive = .queued ∨ drive = .sent)) ∧
        (x.restarts now = false → takeover = x.takeover ∧
          (drive = .sent ∨ drive = if x.stops now then x.drive.stop else x.drive))) ∧
      ∀ m, (s.link m).out ≠ none → v.link m = { s.link m with queue := s.queueAfter now m }))

/-- ENABLE of a DISABLED site makes it LOADING and puts it at the tail of the fetch queue, where a burst is requested for the
head; of another site it gives STATE, and an operand above 9 gives BAD_OPERAND (R64, R156, R157). -/
def Obligations.EnableStartsLoading : Prop :=
  ∀ (s : State) (operand : BitVec 24), s.inReset = false →
    let c := s.withCellWrite 0 (0x05#8 ++ operand)
    (9 < operand.toNat → exec (.enable operand) s = .next (c.withLog 5 3)) ∧
    ∀ n : SiteId, operand.toNat = n.val →
      ((s.site n).state ≠ .disabled → exec (.enable operand) s = .next (c.withLog 5 4)) ∧
      ((s.site n).state = .disabled → ∃ t, exec (.enable operand) s = .next t ∧
        t.site n = { s.site n with state := .loading } ∧ (∀ m, m ≠ n → t.site m = s.site m) ∧
        t.engine = { s.engine with sites := t.sites } ∧ t.journal = s.journal ∧
        t.setup = { s.setup with queue := if n ∈ s.setup.queue then s.setup.queue else s.setup.queue ++ [n] } ∧
        t.outer = { (c.withLog 5 1).outer with
          setup := t.setup,
          port := { c.port with requests :=
            if s.setup.burst = none ∧ Burst.setup ∉ s.port.requests then s.port.requests ++ [.setup]
            else s.port.requests } })

/-- DISABLE gives BAD_OPERAND above 9 and STATE for a DISABLED site. It returns a LOADING site to DISABLED and touches no channel
(R161). It tears an ENABLED site down (R162): every channel with an end at it is FREE, every other record stands; their slots are free,
their entries leave the Wait List, and each committed swing is again that of the slots left, 0 for the site itself; the entries they
owned pass to claimants that remain; a pass is due for a slot freed, an acting barrier removed or a claim that passes (R22, R83); their RAMP and LEVEL requests are withdrawn and their outstanding messages detached (R111, R117);
an unbound shutter entry stands for each that was lit or had its RAMP message outstanding, the lowest handle's being sent at once by an
idle module; CANCELLED is handed over for each descriptor in handle order, then the SITE record. The site's own state, conditions and
taps return to their starting values, the active copy kept (R50, R151, R163); swaps and the pass follow. In both states the site's fetch
is abandoned (R156, R161, R163): a running burst of the site goes on, marked discarded; else the site leaves the fetch queue, and, if it
was at the head, the setup request is withdrawn and made anew for the next head, and the fairness count is 0 when no part request waits
(R176, R177). Outside the engine nothing else changes but that the write of the command cell waits for its grant. That the count stands when
the request is made anew is notes/assumptions/46.md (DESIGN CHOICE). The clauses on records,
conditions of other sites and shutter sets hold where no set is filled (R118; notes/assumptions/22.md says what happens there). -/
def Obligations.DisableTearsTheSiteDown : Prop :=
  ∀ (s : State) (operand : BitVec 24), s.inReset = false →
    let c := s.withCellWrite 0 (0x06#8 ++ operand)
    (9 < operand.toNat → exec (.disable operand) s = .next (c.withLog 6 3)) ∧
    ∀ n : SiteId, operand.toNat = n.val →
      ((s.site n).state = .disabled → exec (.disable operand) s = .next (c.withLog 6 4)) ∧
      ((s.site n).state ≠ .disabled → ∃ u,
        let siteDown : Item := .record { kind := .site, site := some n, code := 3, tick := s.tick }
        ((s.site n).state = .loading → exec (.disable operand) s = .next (u.withLog 6 1) ∧
          u.engine = { s.engine with conds := u.conds, taps := u.taps, sites := u.sites } ∧
          (∀ m, m ≠ n → u.cond m = s.cond m) ∧
          (recordCount s.journal.handOver < 256 → u.journal.handOver = s.journal.handOver ++ [siteDown])) ∧
        ((s.site n).state = .enabled → exec (.disable operand) s = .next ((c.finish u).withLog 6 1) ∧
          let torn (h : Handle) := (s.chan h).state ≠ .free ∧ ((s.chan h).srcSite = n ∨ (s.chan h).dstSite = n)
          let held (k : SlotId) := ∃ h, torn h ∧ (s.chan h).pending = some (.slot k)
          let hs := allHandles.filter fun h => decide (torn h)
          (∀ h, (torn h → u.chan h = {}) ∧ (¬torn h → u.chan h = s.chan h)) ∧
          u.waitList = (s.waitList.filter fun e =>
            decide ¬(torn e.handle ∧ (s.chan e.handle).pending = some .waiting)) ∧
          (∀ k, (held k → u.slot k = none ∧ (s.slot k ≠ none → u.passDue = true)) ∧ (s.slot k = none → u.slot k = none) ∧
            ∀ x, ¬held k → s.slot k = some x → ∃ y, u.slot k = some y ∧
              y = { x with held := y.held, drive := y.drive, takeover := y.takeover }) ∧
          (s.swingOk → u.swingOk) ∧
          (s.coherent →
            (u.passDue = true ↔ s.passDue = true ∨ (∃ k, held k ∧ s.slot k ≠ none) ∨
              (∃ e ∈ s.waitList, torn e.handle ∧ e.barrier = true ∧ s.isHeld e.handle = false) ∨
              ∃ x o g, (s.entry x).owner = some o ∧ (s.entry x).claimant = some g ∧ torn o ∧ ¬torn g) ∧
            (s.swingOk → ∀ d, degreeSite d = n → u.swingOf d = 0) ∧
            ∀ x, u.entry x = match (s.entry x).owner, (s.entry x).claimant with
              | none, _ => {}
              | some o, none => if torn o then {} else { owner := some o }
              | some o, some g =>
                if torn o then (if torn g then {} else { owner := some g })
                else if torn g then { owner := some o } else { owner := some o, claimant := some g }) ∧
          let dark (h : Handle) := (s.chan h).applied ≠ .blocked ∨ s.rampSent h = true
          let merges (h : Handle) := (s.link (s.chan h).dstSite).shutters.any fun f =>
            f.bound && decide (f.handle = h ∧ f.first = (s.chan h).first ∧ f.count = (s.chan h).count)
          let placed (m : SiteId) := hs.filter fun h => decide ((s.chan h).dstSite = m ∧ dark h) && !merges h
          let loses (m : SiteId) (o : Outstanding) : Bool := match o.bind with
            | .slot k => (s.slot k).any fun x => decide (torn x.handle ∧ x.drive = .sent ∧ x.dest = m)
            | .channel h => decide (torn h ∧ (s.chan h).dstSite = m ∧ (o.msg.cls = .level ∨ o.msg.cls = .shutter))
            | .detached => false
          let unbound (h : Handle) : ShutterEntry :=
            { handle := h, first := (s.chan h).first, count := (s.chan h).count, input := (s.chan h).input,
              port := (s.chan h).outPort, bound := false }
          (∀ m, (s.link m).shutters.length + (placed m).length ≤ 256) →
            (∀ m, m ≠ n → u.cond m = s.cond m) ∧
            (s.served → ∀ k x, ¬held k → s.slot k = some x → u.slot k = some x) ∧
            (s.coherent → recordCount s.journal.handOver + hs.length < 256 →
              u.journal.handOver = s.journal.handOver ++ (hs.flatMap fun h => match s.transOf h with
                | some (k, some d) => cancelled s.tick (some d) (decide (k ≠ .fall) && (s.chan h).clamped) (s.chan h) h
                | _ => []) ++ [siteDown]) ∧
            (∀ m, (s.link m).out = none → (s.link m).queue = [] → (s.link m).shutters = [] → u.link m =
              match placed m with
              | [] => s.link m
              | h :: rest =>
                { seq := (s.link m).seq + 1, queue := [], shutters := rest.map unbound,
                  out := some { msg := { module := m, seq := (s.link m).seq, first := (s.chan h).first,
                                         count := (s.chan h).count, input := (s.chan h).input, port := (s.chan h).outPort,
                                         setting := .blocked, cls := .shutter }, bind := .detached, timer := 8 } }) ∧
            (s.coherent → ∀ m o, (s.link m).out = some o → (u.link m).seq = (s.link m).seq ∧
              (u.link m).out = some (if loses m o then { o with bind := .detached } else o)) ∧
            ∀ m, (s.link m).out ≠ none →
              (u.link m).shutters = ((s.link m).shutters ++ (placed m).map unbound).map (fun (f : ShutterEntry) =>
                if torn f.handle ∧ (s.chan f.handle).dstSite = m then { f with bound := false } else f) ∧
              (s.coherent → (u.link m).queue = (s.link m).queue.filter fun r => match r with
                | .level h _ => decide ¬(torn h ∧ (s.chan h).dstSite = m)
                | .ramp k => (s.slot k).all fun x => decide ¬(torn x.handle ∧ x.drive = .queued ∧ x.dest = m))) ∧
        u.site n = { s.site n with state := .disabled, buffered := none, reload := .idle, refetch := false,
                                   frozen := false } ∧
        (∀ m, m ≠ n → u.site m = s.site m) ∧ u.cond n = {} ∧
        (∀ p, u.tap p = if tapSite p = n
          then { s.tap p with received := false, lastSeq := none, stale := false, timer := none } else s.tap p) ∧
        -- the fetch abandoned, and the rest of the part
        u.outer = { c.outer with setup := u.setup, port := u.port } ∧
        (∀ b, s.setup.burst = some b → b.site = n →
          u.setup = { s.setup with burst := some { b with discard := true } } ∧ u.port = c.port) ∧
        ((∀ b, s.setup.burst = some b → b.site ≠ n) →
          u.setup = { s.setup with queue := s.setup.queue.erase n } ∧
          (s.setup.queue.head? ≠ some n → u.port = c.port) ∧
          (s.setup.queue.head? = some n →
            let left := if s.setup.burst = none then s.port.requests.erase .setup else s.port.requests
            let anew := s.setup.queue.erase n ≠ [] ∧ s.setup.burst = none ∧ .setup ∉ left
            u.port = { c.port with requests := u.port.requests, fairness := u.port.fairness } ∧
            (anew → u.port.requests = left ++ [.setup]) ∧ (¬anew → u.port.requests = left) ∧
            u.port.fairness =
              if u.port.requests = [] ∧ (s.port.holder = .posting ∨ s.queue = []) then 0 else s.port.fairness)))

/-- RELOAD of an ENABLED site acts by its reload state (R158): FETCHING before its burst, nothing more; FETCHING with its burst
running, the refetch mark; IDLE or SWAP_PENDING, FETCHING with the site at the tail of the fetch queue, a buffered copy discarded, and a
burst requested for the head (R156). Each is logged ACCEPTED, and the rest of the part stands; of another site it gives STATE, and an operand above 9 gives
BAD_OPERAND (R64). -/
def Obligations.ReloadActsByReloadState : Prop :=
  ∀ (s : State) (operand : BitVec 24), s.inReset = false →
    let c := s.withCellWrite 0 (0x07#8 ++ operand)
    (9 < operand.toNat → exec (.reload operand) s = .next (c.withLog 7 3)) ∧
    ∀ n : SiteId, operand.toNat = n.val →
      ((s.site n).state ≠ .enabled → exec (.reload operand) s = .next (c.withLog 7 4)) ∧
      ((s.site n).state = .enabled → (s.site n).reload = .fetching →
        (∀ b, s.setup.burst = some b → b.site ≠ n) → exec (.reload operand) s = .next (c.withLog 7 1)) ∧
      ((s.site n).state = .enabled → (s.site n).reload = .fetching → (∃ b, s.setup.burst = some b ∧ b.site = n) →
        exec (.reload operand) s = .next ((c.setSite n { s.site n with refetch := true }).withLog 7 1)) ∧
      ((s.site n).state = .enabled → (s.site n).reload ≠ .fetching → ∃ t, exec (.reload operand) s = .next t ∧
        t.site n = { s.site n with reload := .fetching,
                                   buffered := if (s.site n).reload = .idle then (s.site n).buffered else none } ∧
        (∀ m, m ≠ n → t.site m = s.site m) ∧ t.engine = { s.engine with sites := t.sites } ∧
        t.journal = s.journal ∧
        t.setup = { s.setup with queue := if n ∈ s.setup.queue then s.setup.queue else s.setup.queue ++ [n] } ∧
        t.outer = { (c.withLog 7 1).outer with
          setup := t.setup,
          port := { c.port with requests :=
            if s.setup.burst = none ∧ Burst.setup ∉ s.port.requests then s.port.requests ++ [.setup]
            else s.port.requests } })

/-- A command whose result is not ACCEPTED changes nothing except the command count and the recorded code and result; its write
waits for the SRAM like any other (R60). -/
def Obligations.RefusedCommandsChangeNothing : Prop :=
  ∀ (s t : State) (operand : BitVec 24) (code : Byte) (c : Instr), s.inReset = false →
    (c, code) ∈ [(Instr.go operand, 1#8), (.halt operand, 2#8), (.freeze operand, 3#8), (.thaw operand, 4#8),
      (.enable operand, 5#8), (.disable operand, 6#8), (.reload operand, 7#8), (.unknownCommand code operand, code)] →
    exec c s = .next t → t.cmd.result ≠ 1 → t = (s.withCellWrite 0 (code ++ operand)).withLog code t.cmd.result

/-! ### Control cells, views and the probe -/

/-- A write of the consumer cell is accepted when its low half less the consumer count, modulo 65536, is not above the fill, and
the fill falls by the difference; otherwise it is ignored and CONSUMER_BAD is set. The write waits for the SRAM in every case
(R185). -/
def Obligations.ConsumerWriteMovesTheCount : Prop :=
  ∀ (s : State) (w : Word), s.inReset = false →
    let v : Half := w.setWidth 16
    let moved := (v - s.journal.consumer).toNat
    (moved ≤ s.journal.fill → ∃ t, exec (.consumerUpdate w) s = .next t ∧
      t = { s.withCellWrite 0x0004 w with journal := { s.journal with consumer := v } } ∧
      t.journal.fill = s.journal.fill - moved) ∧
    (s.journal.fill < moved →
      exec (.consumerUpdate w) s =
        .next { s.withCellWrite 0x0004 w with attn := { s.attn with consumerBad := true } })

/-- A full-word write of a threshold, mask or probe cell sets its latch and nothing else; a wait level byte above 63 is latched
as 63; a read of the probe then answers the complement of what was written (R168, R169). -/
def Obligations.LatchesTakeFullWordWrites : Prop :=
  ∀ (s : State) (w : Word), s.inReset = false →
    exec (.thresholdWrite .journal w) s =
      .next { s.withCellWrite 0x0008 w with latches := { s.latches with journalThr := w.setWidth 8 } } ∧
    (w.toNat % 256 ≤ 63 → exec (.thresholdWrite .wait w) s =
      .next { s.withCellWrite 0x000C w with latches := { s.latches with waitThr := w.setWidth 8 } }) ∧
    (63 < w.toNat % 256 → exec (.thresholdWrite .wait w) s =
      .next { s.withCellWrite 0x000C w with latches := { s.latches with waitThr := 63 } }) ∧
    exec (.maskWrite .b0 w) s = .next { s.withCellWrite 0x0010 w with latches := { s.latches with maskB0 := w } } ∧
    exec (.maskWrite .s0 w) s = .next { s.withCellWrite 0x0014 w with latches := { s.latches with maskS0 := w } } ∧
    exec (.maskWrite .s1 w) s = .next { s.withCellWrite 0x0018 w with latches := { s.latches with maskS1 := w } } ∧
    ∃ t, exec (.probeWrite w) s = .next t ∧
      t = { s.withCellWrite 0x001C w with latches := { s.latches with probe := w } } ∧
      ∃ u, exec (.controllerCycle .read (BitVec.ofNat 22 ((s.base + 0x1C) / 4)) 0xF 0) t = .next u ∧
        u.lastRead = some (~~~w)

/-- A controller read of a view answers, on every lane whose enable is asserted, the word as it stands, and a read of a word that is
not a sticky word changes nothing else (R169, R194). The words carry the fields of Tables 12-4, 12-5 and 12-6 at their bits, and zeros
elsewhere, wherever each value fits its width (R190, R194), with the codes of Table 12-12 (R197); the Level Loop status is that of the
first condition of R124 that fails (R133); the order of the two groups of word 0x00 of the bridge view is
notes/assumptions/41.md, the zeros where a table is silent are notes/assumptions/42.md (both DESIGN CHOICE), and the code of a lock
that waits for a grant is free (notes/assumptions/16.md). A read of a sticky word answers it, and then clears, when the sticky byte's
lane is one of them, each sticky whose condition is not live; the stamps and every other part of the state stand (R171). -/
def Obligations.StickyWordReadClears : Prop :=
  (∀ (s : State) (en : BitVec 4), s.inReset = false →
    let shows (t : State) (view : Word) := ∃ r, t.lastRead = some r ∧
      ∀ i, i < 4 → en.getLsbD i = true → lane r i = lane view i
    (∃ t, exec (.stickyWordRead .bridge en) s = .next t ∧ shows t (s.bridgeView 0) ∧
      t.attn = (if en.getLsbD 0 then { chainEnd := false, consumerBad := false } else s.attn) ∧ t.engine = s.engine ∧
      t.journal = s.journal ∧
      t.outer = { s.outer with lastRead := t.lastRead, freeIndex := t.freeIndex, attn := t.attn }) ∧
    (∀ n : SiteId, ∃ t, exec (.stickyWordRead (.site n) en) s = .next t ∧ shows t (s.siteView n 0) ∧
      (∀ c, (t.cond n).flag c =
        { live := ((s.cond n).flag c).live,
          sticky := ((s.cond n).flag c).sticky && (((s.cond n).flag c).live || !en.getLsbD 0) }) ∧
      (t.cond n).firstLos = (s.cond n).firstLos ∧ (t.cond n).lastLos = (s.cond n).lastLos ∧
      (t.cond n).holdOff = (s.cond n).holdOff ∧ (t.cond n).restoreDeferred = (s.cond n).restoreDeferred ∧
      (∀ m, m ≠ n → t.cond m = s.cond m) ∧ t.engine = { s.engine with conds := t.conds } ∧ t.journal = s.journal ∧
      t.outer = { s.outer with lastRead := t.lastRead, freeIndex := t.freeIndex }) ∧
    ∀ (a : BitVec 22) (data : Word) (o : Nat), windowOffset s.base (4 * a.toNat) = some o →
      let reads (view : Word) := ∃ t, exec (.controllerCycle .read a en data) s = .next t ∧ shows t view ∧
        t = { s with lastRead := t.lastRead, freeIndex := t.freeIndex }
      (∀ i, i < 16 → i ≠ 0 → o = 0x0400 + 4 * i → reads (s.bridgeView i)) ∧
      (∀ (n : SiteId) (i : Nat), i < 16 → i ≠ 0 → o = 0x0800 + 64 * n.val + 4 * i → reads (s.siteView n i)) ∧
      (∀ (h : Handle) (i : Nat), i < 4 → o = 0x1000 + 16 * h.val + 4 * i → reads (s.channelView h i)) ∧
      (o = 0x0400 → exec (.controllerCycle .read a en data) s = exec (.stickyWordRead .bridge en) s) ∧
      ∀ n : SiteId, o = 0x0800 + 64 * n.val →
        exec (.controllerCycle .read a en data) s = exec (.stickyWordRead (.site n) en) s) ∧
  -- the codes of Table 12-12
  ([ChanState.free, .dark, .rising, .active, .adjusting, .falling].map ChanState.code = [0, 1, 2, 3, 4, 5] ∧
    [ConnKind.express, .add, .drop].map ConnKind.code = [0, 1, 2] ∧
    [TransKind.rise, .restore, .adjust, .fall, .adopt].map TransKind.code = [1, 2, 3, 4, 5] ∧
    (∀ n, [Drive.queued, .sent, .pacing n, .stopped].map Drive.code = [0, 1, 2, 3]) ∧
    [Action.note, .hold, .shutter].map Action.code = [0, 1, 2] ∧
    [SiteState.disabled, .loading, .enabled].map SiteState.code = [0, 1, 2] ∧
    [ReloadState.idle, .fetching, .swapPending].map ReloadState.code = [0, 1, 2] ∧
    [MsgClass.shutter, .ramp, .level].map MsgClass.code = [1, 2, 3] ∧
    [WalkerState.idle, .fetching, .deciding].map WalkerState.code = [0, 1, 2] ∧
    [Holder.none, .walkerBurst, .setupBurst, .posting].map Holder.code = [0, 2, 3, 4] ∧
    ∀ a, [Setting.att a, .blocked].map Setting.code = [a, 254]) ∧
  -- the holds, quiet and the Level Loop status of a site
  (∀ (s : State) (n : SiteId),
    let holds (c : Cond) := ((s.cond n).flag c).live = true ∧ (s.params n).action c = .hold
    let on := (s.site n).state = .enabled
    let frozen := (s.site n).frozen = true
    let used := ∃ k x, s.slot k = some x ∧ x.dest = n
    (s.sourceHold n = true ↔ holds .inLos ∨ holds .inHigh) ∧ (s.destHold n = true ↔ holds .modFault ∨ holds .monStale) ∧
    (s.quiet n = true ↔ ∀ k x, s.slot k = some x → (s.chan x.handle).srcSite ≠ n ∧ (s.chan x.handle).dstSite ≠ n) ∧
    (¬on → s.loopStatus n = 1) ∧ (on → frozen → s.loopStatus n = 2) ∧
    (on → ¬frozen → s.destHold n = true → s.loopStatus n = 3) ∧
    (on → ¬frozen → s.destHold n = false → (used → s.loopStatus n = 4) ∧ (¬used → s.loopStatus n = 0))) ∧
  ∀ s : State,
    (∀ h i, i < 4 → carries (s.channelView h i) (s.channelFields h i)) ∧
    (∀ n i, i < 16 → carries (s.siteView n i) (s.siteFields n i)) ∧
    (∀ i, i < 11 → carries (s.bridgeView i) (s.bridgeFields i)) ∧
    s.bridgeView 14 = 0 ∧ s.bridgeView 15 = 0 ∧ (∀ i, 8 ≤ i → (s.bridgeView 13).getLsbD i = false) ∧
    (∀ i, (s.bridgeView 11).getLsbD i = (!s.latches.maskB0.getLsbD i && match i with
      | 0 => s.journalLevel
      | 1 => s.waitLevel
      | 2 => s.attn.chainEnd
      | 3 => s.attn.consumerBad
      | _ => false)) ∧
    ∀ (n : SiteId) (c : Cond),
      (n.val < 8 → (s.bridgeView 12).getLsbD (4 * n.val + c.index) =
        (((s.cond n).flag c).sticky && !s.latches.maskS0.getLsbD (4 * n.val + c.index))) ∧
      (8 ≤ n.val → (s.bridgeView 13).getLsbD (4 * (n.val - 8) + c.index) =
        (((s.cond n).flag c).sticky && !s.latches.maskS1.getLsbD (4 * (n.val - 8) + c.index)))

/-! ### Controller cycles, the Arbiter and postings -/

/-- A controller write to a view, to the journal ring, or to w6 or w7 of an in-flight descriptor adds 1 to the suppressed-write
count, which saturates, and does nothing else (R170). -/
def Obligations.SuppressedWritesAreCounted : Prop :=
  ∀ (s : State) (offset : Half) (en : BitVec 4) (data : Word), s.inReset = false → offset.toNat % 4 = 0 →
    ((0x0400 ≤ offset.toNat ∧ offset.toNat < 0x0440) ∨ (0x0800 ≤ offset.toNat ∧ offset.toNat < 0x0A80) ∨
      (0x1000 ≤ offset.toNat ∧ offset.toNat < 0x2000) ∨ (0x8000 ≤ offset.toNat ∧ offset.toNat < 0x9000) ∨
      (∃ d ∈ s.inFlight, 0x4000 ≤ d.toNat ∧ d.toNat ≤ 0x7FE0 ∧ d.toNat % 32 = 0 ∧
        (offset.toNat = d.toNat + 24 ∨ offset.toNat = d.toNat + 28))) →
    exec (.suppressedWrite offset en data) s =
      .next { s with suppressed := if s.suppressed.toNat = 65535 then s.suppressed else s.suppressed + 1 }

/-- A controller write that the part neither takes nor suppresses waits, is granted, and reaches the SRAM with its data and byte
enables: it changes the bytes whose enables are asserted and no other. A read the part does not answer waits and is answered from
the SRAM at its grant (R166, R167). That one ARBITER_GRANT makes the whole cycle is notes/assumptions/8.md (DESIGN CHOICE). A pool or
ring read whose word is queued is answered from the queue. A write so forwarded replaces at its arrival the same bytes of the queued
word at its address, and no other queued byte, entry, order or final mark changes (R174). A full-word write of a control cell has the
effect of the row that names it: the command of its code, the consumer update, a threshold, a mask or the probe (R60, R167, R168, R185). -/
def Obligations.ForwardedCyclesReachTheSram : Prop :=
  (∀ (s : State) (a : BitVec 22) (w : Word) (o : Nat), windowOffset s.base (4 * a.toNat) = some o →
    (∀ p ∈ s.queue, p.holds (BitVec.ofNat 16 o) = false) →
    let cycle := exec (.controllerCycle .write a 0xF w) s
    let operand : BitVec 24 := w.extractLsb' 0 24
    (o = 0x00 → cycle = exec (match w.toNat / 2 ^ 24 with
      | 1 => .go operand
      | 2 => .halt operand
      | 3 => .freeze operand
      | 4 => .thaw operand
      | 5 => .enable operand
      | 6 => .disable operand
      | 7 => .reload operand
      | _ => .unknownCommand (w.extractLsb' 24 8) operand) s) ∧
    (o = 0x04 → cycle = exec (.consumerUpdate w) s) ∧
    (o = 0x08 → cycle = exec (.thresholdWrite .journal w) s) ∧
    (o = 0x0C → cycle = exec (.thresholdWrite .wait w) s) ∧
    (o = 0x10 → cycle = exec (.maskWrite .b0 w) s) ∧
    (o = 0x14 → cycle = exec (.maskWrite .s0 w) s) ∧
    (o = 0x18 → cycle = exec (.maskWrite .s1 w) s) ∧
    (o = 0x1C → cycle = exec (.probeWrite w) s)) ∧
  (∀ (s : State) (a : BitVec 22) (en : BitVec 4) (data : Word), s.inReset = false → s.memoryOk →
    s.port.holder = .none → s.port.lock ≠ .inForce → s.port.waiting = [] → s.port.fairness < 8 →
    s.queue.length < 24 →
    ((∀ o, windowOffset s.base (4 * a.toNat) = some o → (0x20 ≤ o ∨ en ≠ 0xF#4) ∧ s.suppresses o = false) →
      ∃ t u, exec (.controllerCycle .write a en data) s = .next t ∧ t.mem = s.mem ∧ t.engine = s.engine ∧
        t.latches = s.latches ∧ t.cmd = s.cmd ∧
        exec .arbiterGrant t = .next u ∧ u.port.waiting = [] ∧ u.port.holder = .none ∧ u.engine = s.engine ∧
        (∀ i < 4, Memory.read u.mem (4 * a.toNat + i) =
          if en.getLsbD i then lane data i else Memory.read s.mem (4 * a.toNat + i)) ∧
        ∀ x, (x < 4 * a.toNat ∨ 4 * a.toNat + 3 < x) → Memory.read u.mem x = Memory.read s.mem x) ∧
    ((∀ o, windowOffset s.base (4 * a.toNat) = some o → o ≠ 0x1C ∧ inView o = false ∧
        ∀ p ∈ s.queue, p.holds (BitVec.ofNat 16 o) = false) →
      ∃ t u, exec (.controllerCycle .read a 0xF data) s = .next t ∧ t.lastRead = s.lastRead ∧
        exec .arbiterGrant t = .next u ∧ u.lastRead = some (Memory.readWord s.mem (4 * a.toNat)) ∧ u.mem = s.mem ∧
        u.port.waiting = [] ∧ u.engine = s.engine)) ∧
  (∀ (s : State) (a : BitVec 22) (o : Nat) (p : Posting), s.inReset = false →
    windowOffset s.base (4 * a.toNat) = some o → (0x4000 ≤ o ∧ o < 0x9000) →
    s.queue.find? (fun e => e.holds (BitVec.ofNat 16 o)) = some p →
    exec (.controllerCycle .read a 0xF 0) s =
      .next { s with lastRead := some (p.wordAt (BitVec.ofNat 16 o)), freeIndex := s.freeIndex + 1 }) ∧
  ∀ (s : State) (a : BitVec 22) (en : BitVec 4) (data : Word) (o : Nat), s.inReset = false →
    windowOffset s.base (4 * a.toNat) = some o → (0x20 ≤ o ∨ en ≠ 0xF#4) → s.suppresses o = false →
    let merged (p : Posting) := p.mergeAt (BitVec.ofNat 16 o) en data
    exec (.controllerCycle .write a en data) s = .next { s with
      queue := s.queue.map merged,
      port := { s.port with waiting := s.port.waiting ++ [{ dir := .write, address := a, enables := en, data }] } } ∧
    ∀ p : Posting, (p.holds (BitVec.ofNat 16 o) = false → merged p = p) ∧ (merged p).addr = p.addr ∧
      (∀ q : Half, (merged p).holds q = p.holds q) ∧
      (∀ b w f, p = .word b w f → ∃ v, merged p = .word b v f) ∧
      (∀ q : Half, p.holds q = true → q ≠ BitVec.ofNat 16 o → (merged p).wordAt q = p.wordAt q) ∧
      (p.holds (BitVec.ofNat 16 o) = true → ∀ i < 4, lane ((merged p).wordAt (BitVec.ofNat 16 o)) i =
        if en.getLsbD i then lane data i else lane (p.wordAt (BitVec.ofNat 16 o)) i)

/-- The controller lock takes force at the assertion of its signal when no part grant holds the port, and otherwise when that
grant ends; it ends at the deassertion; when its timer expires it is broken, counted, and recorded (R178, R186). That the timer
has passed 50 µs is what the command says (notes/assumptions/4.md). While a lock waits no event but the assertion of the reset input and
the deassertion of the lock signal takes it away: it waits while the grant lasts, and is in force when the grant has ended. The drain of
a posting, the completion of a setup burst and a decision each end the grant and so put it in force. -/
def Obligations.LockTakesForceAndBreaks : Prop :=
  ∀ s : State, s.inReset = false →
    (s.port.lockPin = false → exec .lockAssert s = .next { s with port := { s.port with
      lockPin := true, lock := if s.port.holder = .none then .inForce else .awaiting } }) ∧
    (s.port.lockPin = true → exec .lockAssert s = .next s) ∧
    exec .lockDeassert s = .next { s with port := { s.port with lockPin := false, lock := .off } } ∧
    (s.port.lock = .inForce → (s.port.requests ≠ [] ∨ s.port.holder ≠ .posting ∧ s.queue ≠ []) →
      ∃ t, exec .lockBroken s = .next t ∧ t.port.lock = .broken ∧
        t.port.lockBreaks = (if s.port.lockBreaks.toNat = 65535 then s.port.lockBreaks else s.port.lockBreaks + 1) ∧
        t.outer = { s.outer with port := { s.port with lock := .broken, lockBreaks := t.port.lockBreaks } } ∧
        t.engine = s.engine ∧
        (recordCount s.journal.handOver < 256 → t.journal.handOver = s.journal.handOver ++
          [.record { kind := .lockBroken, tick := s.tick, detail := t.port.lockBreaks }])) ∧
    (s.port.lock = .awaiting → s.port.holder ≠ .none →
      (∀ (c : Instr) (t : State), exec c s = .next t → (∀ b, c ≠ .resetAssert b) → c ≠ .lockDeassert →
        c ≠ .lockAssert → t.port.lock = if t.port.holder = .none then .inForce else .awaiting) ∧
      let takesForce (c : Instr) := ∃ t, exec c s = .next t ∧ t.port.holder = .none ∧ t.port.lock = .inForce
      (s.port.holder = .posting → s.queue ≠ [] → takesForce .postingDrain) ∧
      (s.port.holder = .setupBurst → s.setup.burst ≠ none → takesForce .setupFetchComplete) ∧
      ∀ off d, s.fetchedDesc = some (off, d) →
        (off ∈ s.inFlight → takesForce .inFlightRefusal) ∧
        (off ∉ s.inFlight → (d.kind = 1 → takesForce .setup) ∧ (d.kind = 2 → takesForce .adopt) ∧
          (d.kind = 3 → takesForce .retarget) ∧ (d.kind = 4 → takesForce .release) ∧ (d.kind = 5 → takesForce .mark) ∧
          ((d.kind = 0 ∨ 5 < d.kind.toNat) → takesForce .badKind)))

/-- The Arbiter's choice, case by case (Table 10-3, R176, R177): whom it grants the free port, and what becomes of the fairness
count. A grant to the controller is one whole cycle (notes/assumptions/8.md); a burst's words are taken at its grant
(notes/assumptions/9.md). -/
def Obligations.ArbiterChoosesByTheTable : Prop :=
  ∀ s : State, s.inReset = false → s.port.holder = .none →
    let partWaits := s.port.requests ≠ [] ∨ s.queue ≠ []
    let toController := ∀ c rest, s.port.waiting = c :: rest → exec .arbiterGrant s = .next
      (State.busAccess { s with port := { s.port with
        waiting := rest, lastController := true,
        fairness := if s.port.requests ≠ [] ∨ s.queue ≠ [] then min 8 (s.port.fairness + 1) else 0 } } c)
    let toPosting := exec .arbiterGrant s = .next { s with port := { s.port with
      holder := .posting, fairness := 0, lastController := false } }
    (s.port.lock = .inForce → toController ∧ (s.port.waiting = [] → exec .arbiterGrant s = .next s)) ∧
    (s.port.lock ≠ .inForce → 24 ≤ s.queue.length → s.port.waiting ≠ [] → s.port.lastController = true → toPosting) ∧
    (s.port.lock ≠ .inForce → 24 ≤ s.queue.length → s.port.lastController = false → toController) ∧
    (s.port.lock ≠ .inForce → 24 ≤ s.queue.length → s.port.waiting = [] → toPosting) ∧
    (s.port.lock ≠ .inForce → s.queue.length < 24 → (s.port.fairness < 8 ∨ ¬partWaits) → toController) ∧
    (s.port.lock ≠ .inForce → s.queue.length < 24 → (s.port.waiting = [] ∨ 8 ≤ s.port.fairness) →
      (∀ rest, s.port.requests = .walker :: rest → exec .arbiterGrant s = .next
        { s with port := { s.port with holder := .walkerBurst, requests := rest, fairness := 0, lastController := false },
                 walker := { s.walker with fetched := s.walker.current.map fun o =>
                   { w0 := s.sramWord o.toNat, w1 := s.sramWord (o.toNat + 4), w2 := s.sramWord (o.toNat + 8),
                     w3 := s.sramWord (o.toNat + 12), w4 := s.sramWord (o.toNat + 16),
                     w5 := s.sramWord (o.toNat + 20) } } }) ∧
      (∀ rest, s.port.requests = .setup :: rest → ∃ t, exec .arbiterGrant s = .next t ∧
        t.port = { s.port with holder := .setupBurst, requests := rest, fairness := 0, lastController := false } ∧
        t.setup.queue = s.setup.queue ∧ t.mem = s.mem ∧ t.engine = s.engine ∧
        ∀ n more, s.setup.queue = n :: more → ∃ b, t.setup.burst = some b ∧ b.site = n ∧ b.discard = false ∧
          ∀ i : Fin 16, b.words.get i = s.sramWord (0x0100 + 64 * n.val + 4 * i.val)) ∧
      (s.port.requests = [] → s.queue ≠ [] → toPosting))

/-- The queue head that holds the port is written whole to the SRAM and leaves: its words read back, every byte outside them
stands, the grant ends, and its descriptor leaves the in-flight set exactly when the word is of a final outcome and nothing else
holds the descriptor's w6 or w7 (R57, R172, R179). That the entry is written as it stands at the drain, with what merged into it after its grant, is
notes/assumptions/10.md (DEDUCED). The drain gives the room to no producer: Obligations.WalkerPlacesAndFollowsTheChain and
Obligations.HandOverPlacesByTheTable say who may take it (R175). -/
def Obligations.PostingDrainWritesTheEntry : Prop :=
  ∀ (s : State) (p : Posting) (rest : List Posting), s.inReset = false → s.memoryOk → s.port.holder = .posting →
    s.queue = p :: rest → ∃ t, exec .postingDrain s = .next t ∧
      t.queue = rest ∧ t.port.holder = .none ∧ t.engine = s.engine ∧ t.walker = s.walker ∧ t.journal = s.journal ∧
      (∀ w ∈ p.writes, t.sramWord w.1 = w.2) ∧
      (∀ x, (∀ w ∈ p.writes, x < s.base + w.1 ∨ s.base + w.1 + 3 < x) → Memory.read t.mem x = Memory.read s.mem x) ∧
      (∀ a w, p = .word a w false → t.inFlight = s.inFlight) ∧
      (∀ a w0 w1 w2 w3, p = .record a w0 w1 w2 w3 → t.inFlight = s.inFlight) ∧
      ∀ a w, p = .word a w true → ∀ d, d ∈ t.inFlight ↔ (d ∈ s.inFlight ∧
        (d = descOf a → rest.any (postingHoldsDesc d) = true ∨ s.journal.handOver.any (itemHoldsDesc d) = true ∨
          s.walker.toPlace.any (itemHoldsDesc d) = true))

/-! ### Attention -/

/-- The attention line is asserted exactly while a cause is true and unmasked and the reset input is not asserted. The causes are the
fill above its threshold, the Wait List above its threshold, the two bridge stickies and the forty site stickies; a cause is masked
while its bit of B0, S0 or S1 is set. After cold reset every mask bit is set and the line is released; a write of a mask latch acts
on the line at the write (R188, with the causes of R187 and the bits of Table 12-1). -/
def Obligations.AttentionFollowsUnmaskedCauses : Prop :=
  (∀ s : State, s.attention = true ↔ s.inReset = false ∧
    ((s.latches.journalThr.toNat < s.journal.fill ∧ s.latches.maskB0.getLsbD 0 = false) ∨
      (s.latches.waitThr.toNat < s.waitList.length ∧ s.latches.maskB0.getLsbD 1 = false) ∨
      (s.attn.chainEnd = true ∧ s.latches.maskB0.getLsbD 2 = false) ∨
      (s.attn.consumerBad = true ∧ s.latches.maskB0.getLsbD 3 = false) ∨
      (∃ (n : SiteId) (c : Cond), n.val < 8 ∧ ((s.cond n).flag c).sticky = true ∧
        s.latches.maskS0.getLsbD (4 * n.val + c.index) = false) ∨
      ∃ (n : SiteId) (c : Cond), 8 ≤ n.val ∧ ((s.cond n).flag c).sticky = true ∧
        s.latches.maskS1.getLsbD (4 * (n.val - 8) + c.index) = false)) ∧
  (∀ i, i < 32 → State.reset.latches.maskB0.getLsbD i = true ∧ State.reset.latches.maskS0.getLsbD i = true ∧
    State.reset.latches.maskS1.getLsbD i = true) ∧ State.reset.attention = false ∧
  ∀ (s t : State) (w : Word), s.inReset = false → s.attn.chainEnd = true → exec (.maskWrite .b0 w) s = .next t →
    w.getLsbD 2 = false → t.attention = true

/-! ### Decisions -/

/-- A MARK is DONE: stamp, status and MARK record, and no channel is touched (R75). A kind code that is none of the five is
refused BAD_KIND (R75). A descriptor in flight is refused IN_FLIGHT by a record alone (R76). Completion and decision as one command, the pass before
the postings, and the placing of every posting with room are notes/assumptions/9.md, 37.md (DEDUCED) and 26.md (DESIGN CHOICE);
Obligations.WalkerPlacesAndFollowsTheChain says what they do. -/
def Obligations.MarkAndUndecidedKindsTouchNothing : Prop :=
  ∀ (s : State) (off : Half) (d : Desc), s.fetchedDesc = some (off, d) →
    (off ∉ s.inFlight → d.kind = 5 → s.decides .mark s.enterDeciding
      (postings s.tick off .done false 0 d.handle true ++
        [.record { kind := .mark, code := 3, tick := s.tick, tag := some d.tag, desc := some off }])) ∧
    (off ∉ s.inFlight → (d.kind = 0 ∨ 5 < d.kind.toNat) → s.refuses .badKind off d 1) ∧
    (off ∈ s.inFlight → s.decides .inFlightRefusal s.enterDeciding
      [.record { kind := .refused, handle := some (BitVec.ofNat 8 d.handle.val), code := 12, tick := s.tick,
                 tag := some d.tag, desc := some off }])

/-- The first check that fails refuses the descriptor with that check's reason, and nothing but the postings changes: Tables 4-2
and 4-3, checks 3 to 12, for each of the four kinds that have them (R59, R20, R21). The fields are those of Table 12-3, in the six words
the burst read; an end is decoded by its form, group and number (R3, R193), and the kind follows from the pair of ends (R4): what
decodes to nothing is BAD_END. An
entry without owner is free, one whose owner is FALLING and that has no claimant claimable, every other blocking (R20). In `refuses` the burst's completion and the decision are one command (notes/assumptions/9.md, DEDUCED),
the pass comes before the walker's postings (notes/assumptions/37.md, DEDUCED), and every posting with room is placed at once
(notes/assumptions/26.md, DESIGN CHOICE). -/
def Obligations.RefusalsFollowTheCheckOrder : Prop :=
  (∀ f : Fetch,
    let d := decodeDesc f
    let at_ (w : Word) (lo width : Nat) := w.toNat / 2 ^ lo % 2 ^ width
    d.kind.toNat = at_ f.w0 0 8 ∧ (d.last = true ↔ at_ f.w0 8 1 = 1) ∧ d.handle.val = at_ f.w0 16 8 ∧
    d.src.toNat = at_ f.w1 0 16 ∧ d.dst.toNat = at_ f.w1 16 16 ∧ d.first = at_ f.w2 0 9 ∧ d.count = at_ f.w2 16 5 ∧
    d.target = (if at_ f.w3 0 16 < 32768 then (at_ f.w3 0 16 : Int) else (at_ f.w3 0 16 : Int) - 65536) ∧
    d.presetRaw = at_ f.w3 16 8 ∧ d.next.toNat = at_ f.w4 0 16 ∧ d.tag = f.w5) ∧
  (∀ raw : Half,
    let form := raw.toNat % 16
    let group := raw.toNat / 16 % 16
    let number := raw.toNat / 256 % 16
    (∀ i : Fin 8, decodeEnd raw = some (.degree i) ↔ form = 1 ∧ number = i.val) ∧
    ∀ (g : Fin 2) (p : Fin 12), (decodeEnd raw = some (.addPort g p) ↔ form = 2 ∧ group = g.val ∧ number = p.val) ∧
      (decodeEnd raw = some (.dropPort g p) ↔ form = 3 ∧ group = g.val ∧ number = p.val)) ∧
  (∀ (d : Desc) (a b : End) (kind : ConnKind), d.ends = some (a, b, kind) ↔
    decodeEnd d.src = some a ∧ decodeEnd d.dst = some b ∧ match kind with
      | .express => ∃ i j, a = .degree i ∧ b = .degree j ∧ i ≠ j
      | .add => ∃ g p j, a = .addPort g p ∧ b = .degree j
      | .drop => ∃ i g p, a = .degree i ∧ b = .dropPort g p) ∧
  (∀ (s : State) (x : EntryRef),
    let e := s.entry x
    let owned (p : ChanState → Prop) := ∃ h, e.owner = some h ∧ p (s.chan h).state
    (s.classOf x = .free ↔ e.owner = none) ∧
    (s.classOf x = .claimable ↔ owned (· = .falling) ∧ e.claimant = none) ∧
    (s.classOf x = .blocking ↔ owned (· ≠ .falling) ∨ owned (· = .falling) ∧ e.claimant ≠ none)) ∧
  ∀ (s : State) (off : Half) (d : Desc), s.fetchedDesc = some (off, d) → off ∉ s.inFlight →
    let c := s.chan d.handle
    let new (x : Instr) :=
      (c.state ≠ .free → s.refuses x off d 2) ∧
      (c.state = .free → d.ends = none → s.refuses x off d 3) ∧
      ∀ a b kind, c.state = .free → d.ends = some (a, b, kind) →
        ((d.count = 0 ∨ 16 < d.count ∨ 320 < d.first + d.count) → s.refuses x off d 5) ∧
        (1 ≤ d.count ∧ d.count ≤ 16 ∧ d.first + d.count ≤ 320 →
          (((s.site a.site).state ≠ .enabled ∨ (s.site b.site).state ≠ .enabled) → s.refuses x off d 4) ∧
          ((s.site a.site).state = .enabled → (s.site b.site).state = .enabled →
            200 < d.presetRaw → d.presetRaw ≠ 255 → s.refuses x off d 11))
    let passed a b kind := c.state = .free ∧ d.ends = some (a, b, kind) ∧ 1 ≤ d.count ∧ d.count ≤ 16 ∧
      d.first + d.count ≤ 320 ∧ (s.site a.site).state = .enabled ∧ (s.site b.site).state = .enabled
    (d.kind = 1 → new .setup ∧
      ∀ a b kind, passed a b kind → (d.presetRaw ≤ 200 ∨ d.presetRaw = 255) →
        let f := s.filled d off a b kind
        ((∃ r ∈ f.slicesOf, s.classOf r = .blocking) → s.refuses .setup off d 6) ∧
        ((∀ r ∈ f.slicesOf, s.classOf r ≠ .blocking) → (∃ r ∈ f.cellOf, s.classOf r = .blocking) →
          s.refuses .setup off d 7)) ∧
    (d.kind = 2 → new .adopt ∧
      ∀ a b kind, passed a b kind →
        let f := s.filled d off a b kind
        (d.presetRaw = 255 → s.refuses .adopt off d 11) ∧
        (d.presetRaw ≤ 200 →
          ((∃ r ∈ f.slicesOf, (s.entry r).owner ≠ none) → s.refuses .adopt off d 6) ∧
          ((∀ r ∈ f.slicesOf, (s.entry r).owner = none) → (∃ r ∈ f.cellOf, (s.entry r).owner ≠ none) →
            s.refuses .adopt off d 7) ∧
          ((∀ r ∈ f.footprint, (s.entry r).owner = none) → (∀ k, s.slot k ≠ none) → s.refuses .adopt off d 10))) ∧
    (d.kind = 3 →
      ((c.state = .free ∨ c.state = .dark) → s.refuses .retarget off d 2) ∧
      ((c.state = .rising ∨ c.state = .adjusting ∨ c.state = .falling ∨ c.state = .active ∧ c.pending ≠ none) →
        s.refuses .retarget off d 8) ∧
      (c.state = .active → c.pending = none → 200 < d.presetRaw → d.presetRaw ≠ 255 → s.refuses .retarget off d 11)) ∧
    (d.kind = 4 →
      ((c.state = .free ∨ c.state = .falling) → s.refuses .release off d 2) ∧
      (∀ e, c.state = .active → c.pending = some .waiting → s.entryOf d.handle = some e → e.kind = .fall →
        s.refuses .release off d 8))

/-- The footprint of a channel is its slices on its source map and on its destination map, by Table 1-2, and the port cell of an ADD or
a DROP (R5, R19). A SETUP that passes its checks fills the record, owns the free entries of its footprint and claims the claimable ones, and
offers a RISE: TAKEN when it is admissible, WAITING when it is not and the Wait List has room, WAIT_FULL with nothing changed
otherwise. With any entry claimed it is not admissible (R8, R13, R20, R71, R82, R88). That a freeze alone makes it not
admissible is notes/assumptions/45.md (DESIGN CHOICE). Completion and decision as one command, the pass before
the postings, and the placing of every posting with room are notes/assumptions/9.md, 37.md (DEDUCED) and 26.md (DESIGN CHOICE);
Obligations.WalkerPlacesAndFollowsTheChain says what they do. -/
def Obligations.SetupReservesAndOffersARise : Prop :=
  (∀ c : Channel,
    (∀ m n, .slice m n ∈ c.footprint ↔ (m = c.srcTap ∨ m = c.dstTap) ∧ c.first ≤ n.val ∧ n.val < c.first + c.count) ∧
    (∀ g p, (.addCell g p ∈ c.footprint ↔ c.kind = .add ∧ c.src = .addPort g p) ∧
      (.dropCell g p ∈ c.footprint ↔ c.kind = .drop ∧ c.dst = .dropPort g p)) ∧
    (∀ x, (x ∈ c.slicesOf ↔ x ∈ c.footprint ∧ ∃ m n, x = .slice m n) ∧
      (c.cellOf = some x ↔ x ∈ c.footprint ∧ ∀ m n, x ≠ .slice m n)) ∧
    (∀ i, c.src = .degree i → c.srcTap.val = i.val) ∧ (∀ g p, c.src = .addPort g p → c.srcTap.val = 16 + g.val) ∧
    (∀ j, c.dst = .degree j → c.dstTap.val = 8 + j.val) ∧ ∀ g p, c.dst = .dropPort g p → c.dstTap.val = 18 + g.val) ∧
  ∀ (s : State) (off : Half) (d : Desc) (a b : End) (kind : ConnKind), s.fetchedDesc = some (off, d) →
    off ∉ s.inFlight → d.kind = 1 → (s.chan d.handle).state = .free → d.ends = some (a, b, kind) →
    1 ≤ d.count → d.count ≤ 16 → d.first + d.count ≤ 320 → (s.site a.site).state = .enabled →
    (s.site b.site).state = .enabled → (d.presetRaw ≤ 200 ∨ d.presetRaw = 255) →
    let level := max (s.params b.site).lmin (min (s.params b.site).lmax d.target)
    let c : Channel := { state := .dark, kind, src := a, dst := b, first := d.first, count := d.count, target := level,
                         clamped := decide (level ≠ d.target), desc := some off }
    (∀ x ∈ c.footprint, s.classOf x ≠ .blocking) →
    let t := s.enterDeciding
    let r := (t.reserve d.handle c.footprint).setChan d.handle c
    let e : WaitEntry := { kind := .rise, handle := d.handle, desc := some off, dest := b.site,
                           preset := if d.presetRaw ≤ 200 then some d.presetRaw else none }
    (∀ x, r.entry x = if x ∈ c.footprint
      then (if (s.entry x).owner = none then { s.entry x with owner := some d.handle }
            else { s.entry x with claimant := some d.handle })
      else s.entry x) ∧
    (∀ h, h ≠ d.handle → r.chan h = s.chan h) ∧
    ((∃ x ∈ c.footprint, (s.entry x).owner ≠ none) → r.admissible s.waitList e = false) ∧
    (r.admissible s.waitList e = true → s.decides .setup
      (State.enterFlight { r.admitEntry e with waitList := (r.admitEntry e).raiseSkips b.site s.waitList } off)
      (postings s.tick off .taken c.clamped 0 d.handle false)) ∧
    (r.admissible s.waitList e = false → s.waitList.length < 64 →
      ∃ u, s.decides .setup u (postings s.tick off .waiting c.clamped 0 d.handle false) ∧
        u.waitList = s.waitList ++ [e] ∧ u.chan d.handle = { c with pending := some .waiting } ∧
        (∀ h, h ≠ d.handle → u.chan h = s.chan h) ∧ (∀ x, u.entry x = r.entry x) ∧ u.slots = s.slots ∧
        u.committed = s.committed ∧ u.links = s.links ∧ u.passDue = true ∧ off ∈ u.inFlight) ∧
    (r.admissible s.waitList e = false → 64 ≤ s.waitList.length → s.refuses .setup off d 9)

/-- An ADOPT that passes its checks owns its footprint and stands in the lowest free slot at swing 0, ADJUSTING toward its preset
with applied setting BLOCKED; a hold does not refuse it, but leaves the slot STOPPED, with no request and nothing sent. Unheld, its
request joins the tail of the module's queue, or its preset is sent at once by a module that is idle with nothing waiting. No other
module's link and no other slot changes; at its module the shutter set stands, LEVEL work of the handle is dropped and its outstanding
LEVEL message detached (R72, R98, R102, R117). Completion and decision as one command, the pass before
the postings, and the placing of every posting with room are notes/assumptions/9.md, 37.md (DEDUCED) and 26.md (DESIGN CHOICE);
Obligations.WalkerPlacesAndFollowsTheChain says what they do. -/
def Obligations.AdoptEntersTheLowestFreeSlot : Prop :=
  ∀ (s : State) (off : Half) (d : Desc) (a b : End) (kind : ConnKind) (k : SlotId), s.fetchedDesc = some (off, d) →
    off ∉ s.inFlight → d.kind = 2 → (s.chan d.handle).state = .free → d.ends = some (a, b, kind) →
    1 ≤ d.count → d.count ≤ 16 → d.first + d.count ≤ 320 → (s.site a.site).state = .enabled →
    (s.site b.site).state = .enabled → d.presetRaw ≤ 200 →
    let level := max (s.params b.site).lmin (min (s.params b.site).lmax d.target)
    let c : Channel := { state := .adjusting, kind, src := a, dst := b, first := d.first, count := d.count,
                         target := level, clamped := decide (level ≠ d.target), desc := some off,
                         pending := some (.slot k), motion := some (.att d.presetRaw) }
    (∀ x ∈ c.footprint, (s.entry x).owner = none) → s.slot k = none → (∀ j, j < k → s.slot j ≠ none) →
    ∃ u, s.decides .adopt u (postings s.tick off .taken c.clamped 0 d.handle false) ∧
      u.chan d.handle = c ∧ (∀ h, h ≠ d.handle → u.chan h = s.chan h) ∧
      (∀ x, u.entry x = if x ∈ c.footprint then { s.entry x with owner := some d.handle } else s.entry x) ∧
      let l := s.link b.site
      let kept := l.queue.filter fun r => match r with
        | .level h _ => decide (h ≠ d.handle)
        | .ramp _ => true
      let loses (o : Outstanding) : Outstanding :=
        if o.bind = .channel d.handle ∧ o.msg.cls = .level then { o with bind := .detached } else o
      (∀ m, m ≠ b.site → u.link m = s.link m) ∧
      u.waitList = s.waitList ∧ u.committed = s.committed ∧ u.passDue = s.passDue ∧ off ∈ u.inFlight ∧
      ∃ drive, u.slot k = some { kind := .adopt, handle := d.handle, desc := some off, dest := b.site, swing := 0,
                                 held := s.heldBetween a.site b.site, drive } ∧
        (s.heldBetween a.site b.site = true → drive = .stopped ∧ (∀ j, j ≠ k → u.slot j = s.slot j) ∧
          u.link b.site = { l with queue := kept, out := l.out.map loses }) ∧
        (s.heldBetween a.site b.site = false → (drive = .queued ∨ drive = .sent) ∧
          (∀ o, l.out = some o → drive = .queued ∧ (∀ j, j ≠ k → u.slot j = s.slot j) ∧
            u.link b.site = { l with queue := kept ++ [.ramp k], out := some (loses o) }) ∧
          (l.out = none → kept = [] → l.shutters = [] → drive = .sent ∧ (∀ j, j ≠ k → u.slot j = s.slot j) ∧
            u.link b.site =
              { seq := l.seq + 1, shutters := [], queue := [],
                out := some { bind := .slot k, timer := 8,
                              msg := { module := b.site, seq := l.seq, first := d.first, count := d.count,
                                       input := c.input, port := c.outPort, setting := .att d.presetRaw,
                                       cls := .ramp } } }))

/-- A RETARGET of an ACTIVE channel at rest writes the clamped target and offers an ADJUST: complete at once and DONE when the
target attenuation is the applied setting already, else TAKEN, else WAITING, else WAIT_FULL with the old target kept
(R8, R73, R88, R92). That a freeze alone makes it not admissible is notes/assumptions/45.md (DESIGN CHOICE). Completion and decision as one command, the pass before
the postings, and the placing of every posting with room are notes/assumptions/9.md, 37.md (DEDUCED) and 26.md (DESIGN CHOICE);
Obligations.WalkerPlacesAndFollowsTheChain says what they do. -/
def Obligations.RetargetOffersAnAdjust : Prop :=
  ∀ (s : State) (off : Half) (d : Desc), s.fetchedDesc = some (off, d) → off ∉ s.inFlight → d.kind = 3 →
    (s.chan d.handle).state = .active → (s.chan d.handle).pending = none → (d.presetRaw ≤ 200 ∨ d.presetRaw = 255) →
    let old := s.chan d.handle
    let n := old.dstSite
    let level := max (s.params n).lmin (min (s.params n).lmax d.target)
    let c := { old with target := level, clamped := decide (level ≠ d.target), desc := some off }
    let preset := if d.presetRaw ≤ 200 then some d.presetRaw else none
    let e : WaitEntry := { kind := .adjust, handle := d.handle, desc := some off, dest := n, preset }
    let r := s.enterDeciding.setChan d.handle c
    let g := s.target c preset
    (r.admissible s.waitList e = true → c.applied = .att g.att →
      ∃ u, s.decides .retarget u (postings s.tick off .done c.clamped 0 d.handle true ++
          [.record { kind := .done, site := some n, handle := some (BitVec.ofNat 8 d.handle.val), code := 3,
                     tick := s.tick, tag := some d.tag, desc := some off }]) ∧
        u.chan d.handle = { c with underRange := g.underRange, overRange := g.overRange, desc := none } ∧
        (∀ h, h ≠ d.handle → u.chan h = s.chan h) ∧ u.waitList = s.raiseSkips n s.waitList ∧ u.slots = s.slots ∧
        u.committed = s.committed ∧ u.links = s.links ∧ (∀ x, u.entry x = s.entry x) ∧ u.inFlight = s.inFlight) ∧
    (r.admissible s.waitList e = true → c.applied ≠ .att g.att → s.decides .retarget
      (State.enterFlight { r.admitEntry e with waitList := (r.admitEntry e).raiseSkips n s.waitList } off)
      (postings s.tick off .taken c.clamped 0 d.handle false)) ∧
    (r.admissible s.waitList e = false → s.waitList.length < 64 →
      ∃ u, s.decides .retarget u (postings s.tick off .waiting c.clamped 0 d.handle false) ∧
        u.waitList = s.waitList ++ [e] ∧ u.chan d.handle = { c with pending := some .waiting } ∧
        (∀ h, h ≠ d.handle → u.chan h = s.chan h) ∧ (∀ x, u.entry x = s.entry x) ∧ u.slots = s.slots ∧
        u.committed = s.committed ∧ u.links = s.links ∧ u.passDue = true ∧ off ∈ u.inFlight) ∧
    (r.admissible s.waitList e = false → 64 ≤ s.waitList.length → s.refuses .retarget off d 9)

/-- A RELEASE of a DARK channel removes what waits for it, cancels a waiting RISE's descriptor, returns the channel to FREE and
passes or releases its entries, DONE at once; its LEVEL work is withdrawn and its shutter work unbound (R117, R118). A RELEASE of an ACTIVE channel without a waiting FALL removes a waiting ADJUST and
offers a FALL (R15, R17, R22, R23, R74, R82, R88). The removal of an acting barrier makes a pass due, as does a claim that passes (R22,
R83). That a freeze alone makes the FALL not admissible is notes/assumptions/45.md (DESIGN CHOICE). Completion and decision as one command, the pass before
the postings, and the placing of every posting with room are notes/assumptions/9.md, 37.md (DEDUCED) and 26.md (DESIGN CHOICE);
Obligations.WalkerPlacesAndFollowsTheChain says what they do. -/
def Obligations.ReleaseFreesOrOffersAFall : Prop :=
  ∀ (s : State) (off : Half) (d : Desc), s.fetchedDesc = some (off, d) → off ∉ s.inFlight → d.kind = 4 →
    let h := d.handle
    let c := s.chan h
    let waiting (e : Option WaitEntry) := (c.pending = none ∧ e = none) ∨
      (c.pending = some .waiting ∧ e ≠ none ∧ s.entryOf h = e)
    let list (e : Option WaitEntry) := if e = none then s.waitList else s.waitList.filter fun x => decide (x.handle ≠ h)
    let acting (e : Option WaitEntry) := ∃ x, e = some x ∧ x.barrier = true ∧ s.isHeld h = false
    let before (e : Option WaitEntry) := cancelled s.tick (e.bind (·.desc)) c.clamped c h
    (∀ e, c.state = .dark → waiting e → (∀ x, e = some x → x.kind ≠ .fall) →
      ∃ u, s.decides .release u (before e ++ postings s.tick off .done false 0 h true ++
          [.record { kind := .done, site := some c.dstSite, handle := some (BitVec.ofNat 8 h.val), code := 3,
                     tick := s.tick, tag := some d.tag, desc := some off }]) ∧
        u.chan h = {} ∧ (∀ g, g ≠ h → u.chan g = s.chan g) ∧ u.waitList = list e ∧ u.slots = s.slots ∧
        u.committed = s.committed ∧ u.inFlight = s.inFlight ∧
        (u.passDue = true ↔ s.passDue = true ∨ acting e ∨
          ∃ y ∈ c.footprint, (s.entry y).owner = some h ∧ (s.entry y).claimant ≠ none) ∧
        (∀ n, u.link n = if n ≠ c.dstSite then s.link n else
          { s.link n with
            queue := (s.link n).queue.filter fun q => match q with
              | .level g _ => decide (g ≠ h)
              | .ramp _ => true,
            shutters := (s.link n).shutters.map fun f => if f.handle = h then { f with bound := false } else f,
            out := (s.link n).out.map fun o =>
              if o.bind = .channel h ∧ (o.msg.cls = .level ∨ o.msg.cls = .shutter) then { o with bind := .detached } else o }) ∧
        ∀ x, u.entry x =
          if x ∉ c.footprint then s.entry x
          else if (s.entry x).owner = some h ∧ (s.entry x).claimant ≠ some h
            then { owner := (s.entry x).claimant, claimant := none }
          else if (s.entry x).claimant = some h then { s.entry x with claimant := none }
          else s.entry x) ∧
    ∀ e, c.state = .active → waiting e → (∀ x, e = some x → x.kind ≠ .fall) →
      let r := (s.enterDeciding.dropTransition h).setChan h { c with pending := none, motion := none, desc := some off }
      let f : WaitEntry := { kind := .fall, handle := h, desc := some off, dest := c.dstSite }
      r.waitList = list e ∧ r.slots = s.slots ∧ r.links = s.links ∧ (r.passDue = true ↔ s.passDue = true ∨ acting e) ∧ (∀ g, g ≠ h → r.chan g = s.chan g) ∧ (∀ x, r.entry x = s.entry x) ∧
      (r.admissible (list e) f = true → s.decides .release
        (State.enterFlight { r.admitEntry f with waitList := (r.admitEntry f).raiseSkips c.dstSite (list e) } off)
        (before e ++ postings s.tick off .taken false 0 h false)) ∧
      (r.admissible (list e) f = false → (list e).length < 64 →
        ∃ u, s.decides .release u (before e ++ postings s.tick off .waiting false 0 h false) ∧
          u.waitList = list e ++ [f] ∧
          u.chan h = { c with pending := some .waiting, motion := none, desc := some off } ∧
          (∀ g, g ≠ h → u.chan g = s.chan g) ∧ (∀ x, u.entry x = s.entry x) ∧ u.slots = s.slots ∧ u.links = s.links ∧
          u.committed = s.committed ∧ u.passDue = true ∧
          off ∈ u.inFlight) ∧
      (r.admissible (list e) f = false → 64 ≤ (list e).length → s.refuses .release off d 9)

/-- A RELEASE of a RISING or ADJUSTING channel cancels the descriptor in its slot and makes the slot a FALL from the present
applied setting: the old swing is released and the FALL's committed whatever the budget, and the slot goes on by its drive state: a
SENT one gets the takeover mark, a QUEUED or STOPPED one stays, and a PACING one places the FALL's first request, which a busy module
queues at the tail and an idle one is sent, by Table 6-2 toward BLOCKED, with the next sequence number and 8 ticks; no other link
changes; a pass follows on this account exactly when swing was released, the old swing at a line degree being above 0 (R74, R90, R95,
R96, R110). That an idle module has nothing waiting is State.served, an invariant. Completion and decision as one command, the pass before
the postings, and the placing of every posting with room are notes/assumptions/9.md, 37.md (DEDUCED) and 26.md (DESIGN CHOICE);
Obligations.WalkerPlacesAndFollowsTheChain says what they do. -/
def Obligations.ReleaseTakesTheSlotOver : Prop :=
  ∀ (s : State) (off : Half) (d : Desc) (k : SlotId) (x : Slot), s.fetchedDesc = some (off, d) → off ∉ s.inFlight →
    d.kind = 4 → ((s.chan d.handle).state = .rising ∨ (s.chan d.handle).state = .adjusting) →
    (s.chan d.handle).pending = some (.slot k) → s.slot k = some x → x.kind ≠ .fall →
    let h := d.handle
    let c := s.chan h
    let w := s.swing .fall c none
    ∃ u, s.decides .release u (cancelled s.tick x.desc c.clamped c h ++ postings s.tick off .taken false 0 h false) ∧
      u.chan h = { c with state := .falling, motion := some .blocked, desc := some off } ∧
      (∀ g, g ≠ h → u.chan g = s.chan g) ∧ (∀ y, u.entry y = s.entry y) ∧ u.waitList = s.waitList ∧ off ∈ u.inFlight ∧
      u.passDue = (s.passDue || decide (0 < x.swing ∧ x.dest.val < 8)) ∧
      (∀ q, u.swingOf q = if x.dest = degreeSite q then s.swingOf q - x.swing + w else s.swingOf q) ∧
      ∃ y, u.slot k = some y ∧
        y = { x with kind := .fall, desc := some off, restoreSite := none, swing := w, drive := y.drive,
                     takeover := y.takeover } ∧
        (x.drive = .sent → y.drive = .sent ∧ y.takeover = true) ∧
        (x.drive = .queued ∨ x.drive = .stopped → y.drive = x.drive ∧ y.takeover = x.takeover) ∧
        ((∃ n, x.drive = .pacing n) → let m := x.dest
          let l := s.link m
          y.takeover = false ∧ (∀ n, n ≠ m → u.link n = s.link n) ∧
          (l.out ≠ none → y.drive = .queued ∧ u.link m = { l with queue := l.queue ++ [.ramp k] }) ∧
          (l.out = none → l.queue = [] → l.shutters = [] → y.drive = .sent ∧
            (x.handle = h → u.link m = l.sending k (s.rampMessage x .fall .blocked) []))) ∧
        ((∀ n, x.drive ≠ .pacing n) → u.links = s.links ∧ ∀ j, j ≠ k → u.slot j = s.slot j)

/-! ### Admission -/

/-- An admitted transition enters the lowest free slot with its held flag clear: target, range flags and swing fixed, the swing
committed to its line degree, its channel's record changed, its RAMP request placed, and sent at once if the module is idle with
nothing waiting. The channel's queued LEVEL request is withdrawn and its outstanding LEVEL message detached; the shutter set stands (R117;
that the message's answer then changes no applied setting is notes/assumptions/44.md). No entry of a map, no other record and no other degree's swing changes (R79, R91, R94, R102, R117). The target is
P_in − IL − L_t ranged into 0..200 with its flags while P_in is valid, else the preset, else 200 (R31); the predicted level is
P_in − IL − A_target, else L_t (R32); and the swing of each kind is that of Table 2-3, 0 toward a group (R33, R35). -/
def Obligations.AdmissionEntersTheLowestFreeSlot : Prop :=
  (∀ (s : State) (c : Channel) (preset : Option Nat),
    let g := s.target c preset
    let il := (s.params c.dstSite).il
    (∀ p, s.pIn c = some p →
      let wanted : Int := p - il - c.target
      (g.att : Int) = max 0 (min 200 wanted) ∧ g.underRange = decide (wanted < 0) ∧ g.overRange = decide (200 < wanted) ∧
      s.predicted c preset = p - il - g.att) ∧
    (s.pIn c = none → g.underRange = false ∧ g.overRange = false ∧ (∀ a, preset = some a → g.att = a) ∧
      (preset = none → g.att = 200) ∧ s.predicted c preset = c.target) ∧
    (c.applied = .blocked → s.modelled c = 0) ∧
    (8 ≤ c.dstSite.val → ∀ kind, s.swing kind c preset = 0) ∧
    (c.dstSite.val < 8 → s.swing .rise c preset = lin (s.predicted c preset) ∧
      s.swing .restore c preset = lin (s.predicted c preset) ∧
      (s.swing .adjust c preset : Int) = |(lin (s.predicted c preset) : Int) - s.modelled c| ∧
      s.swing .fall c preset = s.modelled c ∧ s.swing .adopt c preset = 0)) ∧
  ∀ (s : State) (e : WaitEntry) (k : SlotId), s.slot k = none → (∀ j, j < k → s.slot j ≠ none) →
    let c := s.chan e.handle
    let g := s.target c e.preset
    let u := s.admitEntry e
    let kept := (s.link e.dest).queue.filter fun r => !r.isLevelOf e.handle
    let motion := if e.kind = .fall then Setting.blocked else .att g.att
    u.outer = s.outer ∧ u.journal = s.journal ∧ u.waitList = s.waitList ∧ u.taps = s.taps ∧ u.conds = s.conds ∧
    u.sites = s.sites ∧ u.passDue = s.passDue ∧ (∀ x, u.entry x = s.entry x) ∧
    (∀ h, h ≠ e.handle → u.chan h = s.chan h) ∧
    u.chan e.handle =
      { c with state := e.kind.slotState, pending := some (.slot k), motion := some motion,
               underRange := if e.kind = .fall then c.underRange else g.underRange,
               overRange := if e.kind = .fall then c.overRange else g.overRange,
               shutteredBy := if e.kind = .restore then none else c.shutteredBy } ∧
    (∀ q, u.swingOf q = s.swingOf q + if e.dest = degreeSite q then s.swing e.kind c e.preset else 0) ∧
    (∀ m, m ≠ e.dest → u.link m = s.link m) ∧
    ∃ drive, u.slot k = some { kind := e.kind, handle := e.handle, desc := e.desc, dest := e.dest,
                               restoreSite := e.restoreSite, swing := s.swing e.kind c e.preset, held := false, drive } ∧
      (drive = .queued ∨ drive = .sent) ∧
      (∀ o, (s.link e.dest).out = some o → drive = .queued ∧ (∀ j, j ≠ k → u.slot j = s.slot j) ∧
        u.link e.dest = { s.link e.dest with
          queue := kept ++ [.ramp k],
          out := some (if o.bind = .channel e.handle ∧ o.msg.cls = .level then { o with bind := .detached } else o) }) ∧
      ((s.link e.dest).out = none → kept = [] → (s.link e.dest).shutters = [] → drive = .sent ∧
        u.link e.dest =
          { seq := (s.link e.dest).seq + 1, shutters := [], queue := [],
            out := some { bind := .slot k, timer := 8,
                          msg := { module := e.dest, seq := (s.link e.dest).seq, first := c.first, count := c.count,
                                   input := c.input, port := c.outPort, cls := .ramp,
                                   setting := nextAttenuation e.kind motion c.applied (s.params e.dest).step } } } ∧
        ∀ j, j ≠ k → u.slot j = s.slot j)

/-- An admission pass tests the entries oldest first and admits what is admissible: entries that stay keep their order, a held
entry stays as it is, a channel that does not wait keeps its record, and a pass that finds nothing admissible changes nothing (R86, R87,
R89, R91, R92). The oldest admissible entry is admitted, wherever it stands, and leaves the list; each older entry for its destination
that is not held gains one skip, up to 8, and is a barrier from 8 on; the pass then goes on with the newer entries on that state (R87,
R89). An ADJUST whose target is the applied setting completes there, DONE, without a slot (R92). No map entry, condition or parameter
changes. An entry is admissible exactly when its channel owns its footprint and claims none of it, a slot is free, both sites are
ENABLED and no hold or freeze of R142 applies, its swing is within budget, and no older acting barrier waits for its site (R84, R86), where
that a freeze alone makes it not admissible is notes/assumptions/45.md (DESIGN CHOICE); a
swing is within budget when the committed swing is 0 or does not with it pass floor(q × T_D / 256), T_D being the sum of the modelled
levels of the lit channels toward the degree (R34, R36, R37). -/
def Obligations.PassAdmitsOldestFirst : Prop :=
  (∀ s : State,
    let holds (n : SiteId) (c : Cond) := ((s.cond n).flag c).live = true ∧ (s.params n).action c = .hold
    (∀ h, s.isHeld h = true ↔
      holds (s.chan h).srcSite .inLos ∨ holds (s.chan h).srcSite .inHigh ∨ holds (s.chan h).dstSite .modFault ∨
      holds (s.chan h).dstSite .monStale ∨ (s.site (s.chan h).srcSite).frozen = true ∨
      (s.site (s.chan h).dstSite).frozen = true) ∧
    ∀ (older : List WaitEntry) (e : WaitEntry),
      let c := s.chan e.handle
      let total := ((List.finRange 256).map fun h => match (s.chan h).state with
        | .rising | .active | .adjusting | .falling => if (s.chan h).dstSite = e.dest then s.modelled (s.chan h) else 0
        | .free | .dark => 0).sum
      s.admissible older e = true ↔
        (∀ x ∈ c.footprint, (s.entry x).owner = some e.handle ∧ (s.entry x).claimant ≠ some e.handle) ∧
        (∃ k, s.slot k = none) ∧ (s.site c.srcSite).state = .enabled ∧ (s.site c.dstSite).state = .enabled ∧
        s.isHeld e.handle = false ∧
        (∀ d, degreeSite d = e.dest → s.swingOf d = 0 ∨
          s.swingOf d + s.swing e.kind c e.preset ≤ (s.params e.dest).budget * total / 256) ∧
        ∀ b ∈ older, b.dest = e.dest → b.barrier = true → s.isHeld b.handle = true) ∧
  ∀ s : State,
    let u := s.pass
    (u.waitList.map (·.handle)).Sublist (s.waitList.map (·.handle)) ∧
    (∀ e ∈ s.waitList, s.isHeld e.handle = true → e ∈ u.waitList) ∧
    (∀ h, (∀ e ∈ s.waitList, e.handle ≠ h) → u.chan h = s.chan h) ∧
    (∀ h, (u.chan h).applied = (s.chan h).applied) ∧ (∀ x, u.entry x = s.entry x) ∧ u.conds = s.conds ∧
    u.sites = s.sites ∧ u.taps = s.taps ∧ u.outer = s.outer ∧
    (∀ e rest, s.waitList = e :: rest → (∀ x ∈ rest, x.handle ≠ e.handle) → s.admissible [] e = true →
      ∀ x ∈ u.waitList, x.handle ≠ e.handle) ∧
    ((∀ older e rest, s.waitList = older ++ e :: rest → s.admissible older e = false) → u = s) ∧
    ∀ older e rest, s.waitList = older ++ e :: rest →
      (∀ a x b, older = a ++ x :: b → s.admissible a x = false) → s.admissible older e = true →
      let c := s.chan e.handle
      let g := s.target c e.preset
      let passed := older.map fun x => if x.dest = e.dest ∧ s.isHeld x.handle = false
        then { x with skip := min 8 (x.skip + 1), barrier := x.barrier || decide (7 ≤ x.skip) } else x
      ∃ v : State, u = v.passFrom passed rest ∧
        ((∀ a x b, rest = a ++ x :: b → v.admissible (passed ++ a) x = false) →
          u = { v with waitList := passed ++ rest }) ∧
        ((∀ x ∈ older, x.handle ≠ e.handle) → (∀ x ∈ rest, x.handle ≠ e.handle) →
          ∀ x ∈ u.waitList, x.handle ≠ e.handle) ∧
        ((e.kind ≠ .adjust ∨ c.applied ≠ .att g.att) → v = s.admitEntry e) ∧
        (e.kind = .adjust → c.applied = .att g.att →
          v.chan e.handle = { c with underRange := g.underRange, overRange := g.overRange, pending := none, desc := none } ∧
          (∀ h, h ≠ e.handle → v.chan h = s.chan h) ∧ v.slots = s.slots ∧ v.links = s.links ∧ v.committed = s.committed ∧
          (∀ d, e.desc = some d → recordCount s.journal.handOver < 256 →
            v.journal.handOver = s.journal.handOver ++ (postings s.tick d .done c.clamped 0 e.handle true ++
              [.record { kind := .done, site := some c.dstSite, handle := some (BitVec.ofNat 8 e.handle.val), code := 3,
                         tick := s.tick, desc := some d }])))

/-! ### The walker's placing and the hand-over list -/

/-- WALKER_POSTING_PLACE: the walker places its items in order while there is room. When the last is placed the end tests are
applied in the order of Table 4-6: the chain goes on with the next offset, or the CHAIN_END record is placed, the sticky set, the
halt flag cleared, and the next head walked or the walker IDLE (R66, R68, R69, R70). That one command places every item for which
there is room is notes/assumptions/26.md (DESIGN CHOICE); that a CHAIN_END record which waits keeps the tick of its end tests, and that
the sticky is set when it is placed, is notes/assumptions/20.md (DEDUCED). What every decision has in common (State.decides): at the
burst's completion the grant ends, a lock that waited for it taking force, and the walker is DECIDING with one descriptor more examined
(R67, R178); when the decision is made, the event's swaps and pass come first, and then the items are placed as this command places them
(R68, R89). That completion and decision are one command is notes/assumptions/9.md, that the pass comes first notes/assumptions/37.md
(DEDUCED). Up to the completion the Journal Writer alone had anything to place: it
has then placed, in order, what there is room for (R175); that it places there at the latest, and before at HANDOVER_PLACE, is
notes/assumptions/47.md (DESIGN CHOICE). A word of the walker replaces the queued one of its address, joins the tail of a queue of fewer
than 32 entries, whatever the Journal Writer holds, and else waits; a record that needs one entry likewise joins or waits, and one that
needs a GAP before it waits for two (R173, R183). -/
def Obligations.WalkerPlacesAndFollowsTheChain : Prop :=
  (∀ (s : State) (a : Half) (w : Word) (final : Bool),
    ((∃ p ∈ s.queue, p.addr = a) → s.placeItem (.word a w final) =
      some { s with queue := s.queue.map fun p => if p.addr = a then .word a w final else p }) ∧
    ((∀ p ∈ s.queue, p.addr ≠ a) →
      (s.queue.length < 32 → s.placeItem (.word a w final) = some { s with queue := s.queue ++ [.word a w final] }) ∧
      (32 ≤ s.queue.length → s.placeItem (.word a w final) = none))) ∧
  (∀ (s : State) (r : Record),
    let fresh (n : Half) := ∀ p ∈ s.queue, p.addr.toNat ≠ 0x8000 + 16 * (n.toNat % 256)
    let pair := s.journal.lost ≠ 0 ∧ s.journal.fill < 255
    (256 ≤ s.journal.fill → s.placeItem (.record r) ≠ none) ∧
    (s.journal.fill < 256 → fresh s.journal.produced →
      (¬pair → (s.placeItem (.record r) = none ↔ 32 ≤ s.queue.length)) ∧
      (pair → fresh (s.journal.produced + 1) → (s.placeItem (.record r) = none ↔ 31 ≤ s.queue.length)))) ∧
  (∀ s : State, s.inReset = false →
    (exec .handoverPlace s = .next s → s.writerPlaces = s) ∧
    ∀ t, exec .handoverPlace s = .next t → s.writerPlaces = t.writerPlaces) ∧
  (∀ s : State,
    let p := s.writerPlaces
    s.enterDeciding =
      { p with port := { s.port with holder := .none, lock := if s.port.lock = .awaiting then .inForce else s.port.lock },
               walker := { s.walker with state := .deciding, examined := s.walker.examined + 1 } } ∧
    p.engine = s.engine ∧ p.port = s.port ∧ p.walker = s.walker ∧ p.inFlight = s.inFlight ∧ p.mem = s.mem ∧
    (∃ placed, s.journal.handOver = placed ++ p.journal.handOver)) ∧
  (∀ (s u : State) (items : List Item), u.inReset = false → u.walker.state = .deciding → items ≠ [] →
    exec .walkerPostingPlace { s.finish u with walker := { u.walker with toPlace := items } } = .next (s.settle (u, items))) ∧
  ∀ s : State, s.inReset = false → s.walker.state = .deciding →
    let w := s.walker
    let ended (t : State) (r : Record) (next : State) : Prop :=
      (t.placeItem (.record r) = none → next = { t with walker := { w with ending := true, toPlace := [.record r] } }) ∧
      ∀ v, t.placeItem (.record r) = some v → next.attn = { t.attn with chainEnd := true } ∧ next.queue = v.queue ∧
        next.journal = v.journal ∧ next.engine = t.engine ∧
        (w.heads = [] → next.walker = { w with state := .idle, current := none, halt := false, fetched := none,
                                               toPlace := [], ending := false } ∧ next.port = t.port) ∧
        ∀ o rest, w.heads = o :: rest →
          next.walker = { state := .fetching, current := some o, examined := 0, halt := false, heads := rest,
                          fetched := none, toPlace := [], ending := false } ∧
          next.port = { t.port with requests := t.port.requests ++ [.walker] }
    (∀ i rest, w.toPlace = i :: rest → s.placeItem i = none → exec .walkerPostingPlace s = .next s) ∧
    (∀ i j rest t, w.toPlace = i :: j :: rest → s.placeItem i = some t → exec .walkerPostingPlace s =
      exec .walkerPostingPlace { t with walker := { w with toPlace := j :: rest } }) ∧
    (∀ r, w.toPlace = [.record r] → w.ending = true →
      ∃ next, exec .walkerPostingPlace s = .next next ∧ ended s r next) ∧
    ∀ i t f, w.toPlace = [i] → w.ending = false → s.placeItem i = some t → w.fetched = some f →
      let d := decodeDesc f
      let goesOn := d.next.toNat % 32 = 0 ∧ 0x4000 ≤ d.next.toNat ∧ d.next.toNat ≤ 0x7FE0
      let last := d.last = true ∨ d.next = 0xFFFF#16
      (w.halt = false → ¬last → goesOn → w.examined < 256 → exec .walkerPostingPlace s = .next
        { t with walker := { w with state := .fetching, current := some d.next, fetched := none, toPlace := [] },
                 port := { t.port with requests := t.port.requests ++ [.walker] } }) ∧
      ∀ (code : Byte), (w.halt = true ∧ code = 4) ∨ (w.halt = false ∧ last ∧ code = 1) ∨
          (w.halt = false ∧ ¬last ∧ ¬goesOn ∧ code = 2) ∨
          (w.halt = false ∧ ¬last ∧ goesOn ∧ 256 ≤ w.examined ∧ code = 3) →
        ∃ next, exec .walkerPostingPlace s = .next next ∧ ended t
          { kind := .chainEnd, code, tick := s.tick, desc := w.current, detail := BitVec.ofNat 16 w.examined,
            tag := if code = 2 then some (d.next.setWidth 32) else none } next

/-- HANDOVER_PLACE: the head of the hand-over list is placed. A word replaces the queued one of its address, else joins the tail of a
queue with room. A record is placed by the first row of Table 11-1 that fits, dropped and counted when the ring is full, and preceded by
a GAP when records were lost. Where an entry is needed and there is no room nothing changes (R172, R173, R175, R183, R184). While the
walker has something left to place, an item that needs an entry waits, room or not, as R175 serves the walker first; a word
that merges and a record that a full ring drops need none and go on at once (R173, R175, R183). A word of a descriptor of which the walker
itself still has a word to place waits for it, so that it follows the decision's postings (R64, R68, R77; notes/assumptions/27.md, DEDUCED).
The words of a record are laid out by Table 12-7, with each
presence bit set where its field is present, and the status word by Table 12-3, with the codes of Table 12-12 (R193, R195, R197). -/
def Obligations.HandOverPlacesByTheTable : Prop :=
  (∀ r : Record,
    let code := match r.kind with
      | .done => 1 | .cancelled => 2 | .refused => 3 | .shuttered => 4 | .restored => 5 | .condRaised => 6
      | .condCleared => 7 | .chainEnd => 8 | .mark => 9 | .lockBroken => 10 | .site => 11 | .gap => 12
    carries r.words.1
      [(0, 4, code), (4, 1, r.site.isSome.toNat), (5, 1, r.handle.isSome.toNat), (6, 1, r.tag.isSome.toNat),
       (7, 1, r.desc.isSome.toNat), (8, 8, r.site.elim 0 (·.val)), (16, 8, r.handle.elim 0 (·.toNat)), (24, 8, r.code.toNat)] ∧
    r.words.2.1 = r.tick ∧ r.words.2.2.1 = r.tag.getD 0 ∧
    carries r.words.2.2.2 [(0, 16, r.desc.elim 0 (·.toNat)), (16, 16, r.detail.toNat)]) ∧
  (∀ (o : Outc) (clamped : Bool) (reason : Byte) (h : Handle),
    let code := match o with
      | .taken => 1 | .waiting => 2 | .done => 3 | .cancelled => 4 | .shuttered => 5 | .refused => 6
    carries (statusWord o clamped reason h)
      [(0, 8, code), (8, 1, clamped.toNat), (16, 8, reason.toNat), (24, 8, h.val)]) ∧
  ∀ (s : State) (i : Item) (rest : List Item), s.inReset = false → s.journal.handOver = i :: rest →
    let j := s.journal
    let ring (n : Half) := 0x8000 + 16 * (n.toNat % 256)
    let entry (n : Half) (r : Record) : Posting :=
      .record (BitVec.ofNat 16 (ring n)) r.words.1 r.words.2.1 r.words.2.2.1 r.words.2.2.2
    let sat (c : Half) := if c.toNat = 65535 then c else c + 1
    let gap (n : Half) : Record := { kind := .gap, tick := s.tick, detail := n }
    let fresh (n : Half) := ∀ p ∈ s.queue, p.addr.toNat ≠ ring n
    let waits := exec .handoverPlace s = .next s
    let walkerWaits := s.walker.toPlace ≠ []
    let held (a : Half) := ∃ b w f, .word b w f ∈ s.walker.toPlace ∧ descOf b = descOf a
    (s.placeItem i = none → waits) ∧
    (s.walker.toPlace = [] → ∀ t, s.placeItem i = some t → exec .handoverPlace s = .next
      { t with journal := { t.journal with handOver := rest } }) ∧
    (∀ a w f, i = .word a w f →
      ((∃ p ∈ s.queue, p.addr = a) → ¬held a → exec .handoverPlace s = .next
        { s with queue := s.queue.map fun p => if p.addr = a then .word a w f else p,
                 journal := { j with handOver := rest } }) ∧
      (held a → waits) ∧
      ((∀ p ∈ s.queue, p.addr ≠ a) →
        (¬walkerWaits → s.queue.length < 32 → exec .handoverPlace s = .next
          { s with queue := s.queue ++ [.word a w f], journal := { j with handOver := rest } }) ∧
        (walkerWaits ∨ 32 ≤ s.queue.length → waits))) ∧
    ∀ r, i = .record r →
      (256 ≤ j.fill → exec .handoverPlace s = .next
        { s with journal := { j with lost := sat j.lost, handOver := rest } }) ∧
      (j.fill < 256 → fresh j.produced →
        (walkerWaits ∨ 32 ≤ s.queue.length → waits) ∧
        (¬walkerWaits → j.lost = 0 → s.queue.length < 32 → exec .handoverPlace s = .next
          { s with queue := s.queue ++ [entry j.produced r],
                   journal := { j with produced := j.produced + 1, handOver := rest } }) ∧
        (¬walkerWaits → j.lost ≠ 0 → j.fill = 255 → s.queue.length < 32 → exec .handoverPlace s = .next
          { s with queue := s.queue ++ [entry j.produced (gap (sat j.lost))],
                   journal := { j with produced := j.produced + 1, lost := 0, handOver := rest } }) ∧
        (¬walkerWaits → j.lost ≠ 0 → j.fill < 255 → fresh (j.produced + 1) → s.queue.length < 31 →
          exec .handoverPlace s = .next
            { s with queue := s.queue ++ [entry j.produced (gap j.lost), entry (j.produced + 1) r],
                     journal := { j with produced := j.produced + 2, lost := 0, handOver := rest } }) ∧
        (j.lost ≠ 0 → j.fill < 255 → fresh (j.produced + 1) → 31 ≤ s.queue.length → waits))

/-! ### Sites -/

/-- SETUP_FETCH_COMPLETE: the grant ends and the site leaves the fetch queue. A LOADING site becomes ENABLED with the loaded
values, its two stale timers started and an ENABLED record handed over, and its ingress conditions are judged. An ENABLED site's
reload is discarded and fetched again under the refetch mark, else buffered, and swapped in at once exactly when the site is
quiet. A burst whose purpose a DISABLE abandoned delivers nothing to a DISABLED site; a site that is LOADING again joins the fetch
queue for a fetch of its own (notes/assumptions/21.md). A burst is then requested for the head of the queue, if it holds a site and
none is requested (R155 to R158, R51, R151). Then the event ends: each SWAP_PENDING site with a buffered copy that lost a slot in the
event and is quiet is swapped, in ascending order, with its RELOADED record, no slot or link being touched; a pass is due after a swap;
and the pass is made exactly when one is due (R89, R90, R159, R160). -/
def Obligations.SetupFetchDeliversByTheSitesState : Prop :=
  (∀ w : State,
    (w.setup.queue ≠ [] → w.setup.burst = none → Burst.setup ∉ w.port.requests →
      w.requestSetup = { w with port := { w.port with requests := w.port.requests ++ [.setup] } }) ∧
    (w.setup.queue = [] ∨ w.setup.burst ≠ none ∨ Burst.setup ∈ w.port.requests → w.requestSetup = w)) ∧
  (∀ before v : State,
    let freed (n : SiteId) := ∃ k x, before.slot k = some x ∧ v.slot k = none ∧
      ((before.chan x.handle).srcSite = n ∨ (before.chan x.handle).dstSite = n)
    let quiet (n : SiteId) := ∀ k x, v.slot k = some x → (v.chan x.handle).srcSite ≠ n ∧ (v.chan x.handle).dstSite ≠ n
    let swaps (n : SiteId) := (v.site n).reload = .swapPending ∧ (v.site n).buffered ≠ none ∧ freed n ∧ quiet n
    let reloaded (n : SiteId) : Item := .record
      { kind := .site, site := some n, code := 2, tick := v.tick,
        detail := if (v.site n).setupClamped = true then 1 else 0 }
    ∃ w : State, before.finish v = (if w.passDue = true then State.pass { w with passDue := false } else w) ∧
      w.outer = v.outer ∧ w.engine = { v.engine with sites := w.sites, passDue := w.passDue } ∧
      (w.passDue = true ↔ v.passDue = true ∨ ∃ n, swaps n) ∧
      (∀ n p, swaps n → (v.site n).buffered = some p →
        w.site n = { v.site n with active := p, buffered := none, reload := .idle }) ∧
      (∀ n, ¬swaps n → w.site n = v.site n) ∧
      ∃ ns : List SiteId, ns.Pairwise (· < ·) ∧ (∀ n, n ∈ ns ↔ swaps n) ∧
        (recordCount v.journal.handOver + ns.length ≤ 256 →
          w.journal = { v.journal with handOver := v.journal.handOver ++ ns.map reloaded })) ∧
  ∀ (s : State) (b : SetupBurst), s.inReset = false → s.port.holder = .setupBurst → s.setup.burst = some b →
    let n := b.site
    let x := s.site n
    let p := (loadSetup b.words).1
    let mask := (loadSetup b.words).2
    let record (code : Byte) : Item :=
      .record { kind := .site, site := some n, code, tick := s.tick, detail := if mask = 0 then 0 else 1 }
    let room := recordCount s.journal.handOver < 256
    let freePort := { s.port with holder := .none, lock := if s.port.lock = .awaiting then .inForce else s.port.lock }
    let requests (v : State) := v.outer = { s.outer with
      setup := v.setup,
      port := { freePort with requests := if v.setup.queue ≠ [] ∧ Burst.setup ∉ s.port.requests
        then s.port.requests ++ [.setup] else s.port.requests } }
    let common (v : State) := v.setup.burst = none ∧ v.port.holder = .none ∧ v.chans = s.chans ∧ v.slots = s.slots ∧
      v.waitList = s.waitList ∧ v.links = s.links ∧ v.conds = s.conds ∧ v.committed = s.committed ∧
      (∀ m, m ≠ n → v.site m = s.site m) ∧ (∀ y, v.entry y = s.entry y) ∧ v.mem = s.mem ∧ v.queue = s.queue
    (b.discard = false → x.state = .loading → ∃ v : State,
      exec .setupFetchComplete s = .next (s.finish ((v.judgeIngress n).requestSetup)) ∧ common v ∧
      v.outer = { s.outer with setup := v.setup, port := freePort } ∧
      v.setup.queue = s.setup.queue.erase n ∧ v.passDue = s.passDue ∧
      v.site n = { x with active := p, setupClamped := decide (mask ≠ 0), clampMask := mask, state := .enabled } ∧
      (∀ t, v.tap t = if tapSite t = n then { s.tap t with timer := some p.staleLimit } else s.tap t) ∧
      (room → v.journal.handOver = s.journal.handOver ++ [record 1])) ∧
    (b.discard = false → x.state = .enabled → x.refetch = true → ∃ v : State,
      exec .setupFetchComplete s = .next (s.finish v) ∧ common v ∧ requests v ∧ v.taps = s.taps ∧ v.journal = s.journal ∧
      v.passDue = s.passDue ∧
      v.site n = { x with setupClamped := decide (mask ≠ 0), clampMask := mask, refetch := false } ∧
      (s.setup.queue.Nodup → v.setup.queue = s.setup.queue.erase n ++ [n])) ∧
    (b.discard = false → x.state = .enabled → x.refetch = false → ∃ v : State,
      exec .setupFetchComplete s = .next (s.finish v) ∧ common v ∧ requests v ∧ v.taps = s.taps ∧
      v.setup.queue = s.setup.queue.erase n ∧
      (s.quiet n = true →
        v.site n = { x with active := p, buffered := none, reload := .idle, setupClamped := decide (mask ≠ 0),
                            clampMask := mask } ∧ v.passDue = true ∧
        (room → v.journal.handOver = s.journal.handOver ++ [record 2])) ∧
      (s.quiet n = false →
        v.site n = { x with buffered := some p, reload := .swapPending, setupClamped := decide (mask ≠ 0),
                            clampMask := mask } ∧ v.passDue = s.passDue ∧ v.journal = s.journal)) ∧
    (b.discard = true → x.state ≠ .enabled → ∃ v : State, exec .setupFetchComplete s = .next (s.finish v) ∧ common v ∧
      requests v ∧ v.site n = x ∧ v.taps = s.taps ∧ v.journal = s.journal ∧ v.passDue = s.passDue ∧
      (x.state = .disabled → v.setup.queue = s.setup.queue.erase n) ∧
      (x.state = .loading → s.setup.queue.Nodup → v.setup.queue = s.setup.queue.erase n ++ [n]))

/-! ### The scan link and the taps -/

/-- SCAN_BYTE and BYTE_GAP_EXPIRY: a hunting receiver takes 0x7E as a start and ignores any other byte; in a frame bytes are
taken until the 646th, at which the frame is judged by Table 3-2: a bad end byte, check or tap id is counted and discarded, the
tap's last sequence repeated is discarded, and any other frame is good. A gap abandons the frame in progress and is counted
(R38 to R43, R45). A good frame replaces the tap's values as a whole and, at an ENABLED site, clears the stale flag, restarts the
timer and is offered (R46, R47). The offers are those of Table 3-4 in its order: MON_STALE is judged when the tap was stale; for an IN
or ADD tap then IN_LOS and IN_HIGH by the tap total level, and a pass is due when the tap is the source tap of a waiting entry; for
an OUT or DROP tap the Level Loop (R47). The check is the CRC of R41: from 0xFFFF, each byte into the upper eight bits, then eight shifts
with 0x1021 on a 1 shifted out, 0x29B1 over the digits 1 to 9. That BYTE_GAP_EXPIRY says that the
200 µs have passed, which are not counted, is notes/assumptions/4.md (DESIGN CHOICE). That the event's swaps and pass come after the
offers, the Level Loop's among them, is notes/assumptions/24.md (DEDUCED). -/
def Obligations.ScanBytesMakeFrames : Prop :=
  (crc16 [] = 0xFFFF#16 ∧
    (∀ (l : List Byte) (b : Byte), crc16 (l ++ [b]) =
      (List.range 8).foldl (fun (r : Half) _ => if r.getLsbD 15 then (r <<< 1) ^^^ 0x1021#16 else r <<< 1)
        (crc16 l ^^^ (b ++ 0#8 : Half))) ∧
    crc16 [0x31, 0x32, 0x33, 0x34, 0x35, 0x36, 0x37, 0x38, 0x39] = 0x29B1#16) ∧
  (∀ (v : State) (t : TapId) (wasStale : Bool),
    let n := tapSite t
    let a := if wasStale = true then v.judgeMonStale n else v
    let isSource := t.val < 8 ∨ t.val = 16 ∨ t.val = 17
    (isSource →
      let level := tapLevel (v.tap t)
      let w := (a.judgeInLos n level).judgeInHigh n level
      let feeds := ∃ e ∈ w.waitList, (w.chan e.handle).srcTap = t
      v.offerFrame t wasStale = { w with passDue := w.passDue || decide feeds }) ∧
    (¬isSource → v.offerFrame t wasStale = a.levelLoop n)) ∧
  ∀ (s : State) (b : Byte), s.inReset = false →
    let x := s.scan
    let f := x.buffer ++ [b]
    let sat (c : Half) := if c.toNat = 65535 then c else c + 1
    let hunting := { x with inFrame := false, buffer := [] }
    let byte (i : Nat) := f.getD i 0
    let value (i : Nat) : Half := byte (4 + 2 * i) ++ byte (3 + 2 * i)
    let bad := byte 645 ≠ 0x7E#8 ∨ crc16 ((f.drop 1).take 642) ≠ (byte 644 ++ byte 643 : Half) ∨ 20 ≤ (byte 1).toNat
    (x.inFrame = false → b ≠ 0x7E#8 → exec (.scanByte b) s = .next s) ∧
    (x.inFrame = false → b = 0x7E#8 → exec (.scanByte b) s =
      .next { s with scan := { x with inFrame := true, buffer := [b] } }) ∧
    (x.inFrame = true → f.length ≠ 646 → exec (.scanByte b) s = .next { s with scan := { x with buffer := f } }) ∧
    (x.inFrame = true → f.length = 646 → bad → exec (.scanByte b) s =
      .next { s with scan := { hunting with checkErrors := sat x.checkErrors } }) ∧
    (x.inFrame = true → exec .byteGapExpiry s = .next { s with scan := { hunting with gapCount := sat x.gapCount } }) ∧
    ∀ t : TapId, x.inFrame = true → f.length = 646 → ¬bad → (byte 1).toNat = t.val →
      ((s.tap t).lastSeq = some (byte 2) → exec (.scanByte b) s = .next { s with scan := hunting }) ∧
      ((s.tap t).lastSeq ≠ some (byte 2) → ∃ v : State,
        ((s.site (tapSite t)).state ≠ .enabled → exec (.scanByte b) s = .next v) ∧
        ((s.site (tapSite t)).state = .enabled → ∃ start, State.outer start = v.outer ∧ start.engine = s.engine ∧
          exec (.scanByte b) s = .next (State.finish start (v.offerFrame t (s.tap t).stale))) ∧
        v.outer = { s.outer with scan := hunting } ∧ v.journal = s.journal ∧
        v.engine = { s.engine with taps := v.taps } ∧ (∀ q, q ≠ t → v.tap q = s.tap q) ∧
        (∀ i : Fin 320, (v.tap t).slices.get i = value i.val) ∧ (v.tap t).received = true ∧
        (v.tap t).lastSeq = some (byte 2) ∧
        (v.tap t).stale = (if (s.site (tapSite t)).state = .enabled then false else (s.tap t).stale) ∧
        (v.tap t).timer = (if (s.site (tapSite t)).state = .enabled then some (s.params (tapSite t)).staleLimit
                           else (s.tap t).timer))

/-- STALE_TIMER_EXPIRY: the tap is stale, its timer stops, and MON_STALE of its site rises if it was clear: live and sticky set and
a COND_RAISED record handed over. With an action other than HOLD no slot is touched, the held flags standing as the holds are; with
HOLD the slots toward the site are held, each stopped by its drive state and its queued request withdrawn (State.reheld; R48, R109,
R138, R140, R142, R143). -/
def Obligations.StaleExpiryRaisesMonStale : Prop :=
  ∀ (s : State) (t : TapId), s.inReset = false → (s.tap t).timer = some 0 →
    let n := tapSite t
    ∃ v, exec (.staleTimerExpiry t) s = .next (s.finish v) ∧
      v.tap t = { s.tap t with stale := true, timer := none } ∧ (∀ q, q ≠ t → v.tap q = s.tap q) ∧ v.outer = s.outer ∧
      v.chans = s.chans ∧ v.waitList = s.waitList ∧ v.committed = s.committed ∧ v.sites = s.sites ∧
      (∀ x, v.entry x = s.entry x) ∧ (∀ m, m ≠ n → v.cond m = s.cond m) ∧ v.passDue = s.passDue ∧
      ((s.cond n).monStale.live = true → v.cond n = s.cond n ∧ v.slots = s.slots ∧ v.links = s.links ∧
        v.journal = s.journal) ∧
      ((s.cond n).monStale.live = false →
        v.cond n = { s.cond n with monStale := { live := true, sticky := true } } ∧
        (recordCount s.journal.handOver < 256 → v.journal.handOver = s.journal.handOver ++
          [.record { kind := .condRaised, site := some n, code := 3, tick := s.tick }]) ∧
        ((s.params n).monStaleAct = .hold →
          ∀ k x, s.slot k = some x → (s.chan x.handle).dstSite = n → ∃ y, v.slot k = some y ∧ y.held = true) ∧
        ((s.params n).monStaleAct ≠ .hold → s.heldOk → v.slots = s.slots ∧ v.links = s.links) ∧
        (s.served → s.reheld v fun x =>
          if (s.chan x.handle).srcSite = n ∨ (s.chan x.handle).dstSite = n then v.isHeld x.handle else x.held))

/-! ### Ramps and the Switch Link -/

/-- An OK that matches the outstanding RAMP message of a slot sets the applied setting and clears UNCONFIRMED. Short of the motion
target the slot leaves SENT: STOPPED when held, else at once QUEUED under the takeover mark, else PACING. At the motion target the
transition completes: the slot is free, its swing released, the channel ACTIVE at rest, or FREE after a FALL, and its DONE handed
over, and the deferred restores are re-run. No link changes but in the answered message, bound to nothing until the event ends,
and at a completed FALL's module, where the channel's LEVEL request is withdrawn and its shutter entries are unbound (R17). Then come
MOD_FAULT and the event's end (R105 to R107, R110, R115, R121). The order of
these last effects is notes/assumptions/17.md (DEDUCED); Obligations.AnswersTakeTheirClassRule says what the end of an answer sends. -/
def Obligations.RampOkStepsOrCompletes : Prop :=
  ∀ (s : State) (m : SiteId) (o : Outstanding) (k : SlotId) (x : Slot), s.inReset = false →
    (s.link m).out = some o → o.bind = .slot k → s.slot k = some x → x.dest = m →
    let c := s.chan x.handle
    let moved := { c with applied := o.msg.setting, unconfirmed := false }
    let ack := Instr.ackReceived m (BitVec.ofNat 8 m.val) o.msg.seq 1
    -- the links with the answered message bound to nothing, until the event ends, and a queue of its module
    let ended (q : List Request) := s.setLink m { s.link m with queue := q, out := some { o with bind := .detached } }
    (c.motion ≠ some o.msg.setting → ∃ v : State,
      exec ack s = .next (s.closeAnswer (v.faultAnswer m true) m) ∧ v.outer = s.outer ∧ v.journal = s.journal ∧
      v.engine = { s.engine with chans := v.chans, slots := v.slots, links := v.links } ∧
      v.chan x.handle = moved ∧ (∀ h, h ≠ x.handle → v.chan h = s.chan h) ∧ (∀ j, j ≠ k → v.slot j = s.slot j) ∧
      (x.held = true → v.slot k = some { x with drive := .stopped, takeover := false } ∧
        v.links = (ended (s.link m).queue).links) ∧
      (x.held = false → x.takeover = true → v.slot k = some { x with drive := .queued, takeover := false } ∧
        v.links = (ended ((s.link m).queue ++ [.ramp k])).links) ∧
      (x.held = false → x.takeover = false → v.slot k = some { x with drive := .pacing (s.params m).pacing } ∧
        v.links = (ended (s.link m).queue).links)) ∧
    (c.motion = some o.msg.setting → c.pending = some (.slot k) → x.drive = .sent → ∃ v : State,
      exec ack s = .next (s.closeAnswer (v.rerunDeferred.faultAnswer m true) m) ∧ v.outer = s.outer ∧
      v.slot k = none ∧ (∀ j, j ≠ k → v.slot j = s.slot j) ∧ (∀ h, h ≠ x.handle → v.chan h = s.chan h) ∧
      (∀ q, v.swingOf q = if m = degreeSite q then s.swingOf q - x.swing else s.swingOf q) ∧ v.waitList = s.waitList ∧
      v.conds = s.conds ∧ v.sites = s.sites ∧ v.taps = s.taps ∧ v.passDue = true ∧
      (x.kind = .fall → c.dstSite = m → ∀ n, v.link n = if n ≠ m then s.link n else
        { s.link m with
          queue := (s.link m).queue.filter fun r => match r with
            | .level h _ => decide (h ≠ x.handle)
            | .ramp _ => true,
          shutters := (s.link m).shutters.map fun e => if e.handle = x.handle then { e with bound := false } else e,
          out := some { o with bind := .detached } }) ∧
      (x.kind ≠ .fall → v.links = (ended (s.link m).queue).links ∧ (∀ y, v.entry y = s.entry y) ∧ v.chan x.handle =
        { moved with state := .active, motion := none, pending := none, desc := none }) ∧
      (x.kind = .fall → v.chan x.handle = {} ∧ ∀ y, v.entry y =
        if y ∉ c.footprint then s.entry y
        else if (s.entry y).owner = some x.handle ∧ (s.entry y).claimant ≠ some x.handle
          then { owner := (s.entry y).claimant, claimant := none }
        else if (s.entry y).claimant = some x.handle then { s.entry y with claimant := none }
        else s.entry y) ∧
      (recordCount s.journal.handOver < 256 →
        (∀ d, x.desc = some d → v.journal.handOver = s.journal.handOver ++
          (postings s.tick d .done (x.kind ≠ .fall ∧ c.clamped) 0 x.handle true ++
            [.record { kind := .done, site := some c.dstSite, handle := some (BitVec.ofNat 8 x.handle.val), code := 3,
                       tick := s.tick, desc := some d }])) ∧
        (x.desc = none → x.kind = .restore → v.journal.handOver = s.journal.handOver ++
          [.record { kind := .restored, site := x.restoreSite, handle := some (BitVec.ofNat 8 x.handle.val), code := 3,
                     tick := s.tick }])))

/-- The other answers. An OK of a LEVEL message still bound sets the applied setting and clears UNCONFIRMED; an OK of a bound
SHUTTER message clears UNCONFIRMED; a detached message touches no channel. A REJECT or a timeout leaves every applied setting. After a
failed RAMP message the slot is STOPPED when held, else at once QUEUED with a new request under the takeover mark, else PACING at the
site's interval; a failed bound SHUTTER sets UNCONFIRMED; a failed LEVEL does nothing (R105, R108, R110, R111, R115, R116, R119, R120).
Up to there no link changes but in that message, which is bound to nothing until the event ends, and in that request. Then the failure
raises a clear MOD_FAULT of an ENABLED site: live, sticky, COND_RAISED, and with action HOLD the slots toward the site held, each
stopped by its drive state and its request withdrawn (State.reheld; R109, R121, R139, R140); and then the event ends. Last, the answered message is no longer outstanding, and the module is sent its next:
of its shutter entries the one of lowest handle, first placed, else the oldest request of its queue, a RAMP by Table 6-2, with its
fields, the next sequence number and 8 ticks (R112 to R114, R116, R118, R120). The order of these last effects is notes/assumptions/17.md
(DEDUCED). An acknowledgement that matches nothing is discarded. -/
def Obligations.AnswersTakeTheirClassRule : Prop :=
  ∀ (s : State) (m : SiteId), s.inReset = false →
    -- the links with the answered message bound to nothing, until the event ends, and a queue of its module
    let ended (o : Outstanding) (q : List Request) :=
      (s.setLink m { s.link m with queue := q, out := some { o with bind := .detached } }).links
    let ends (o : Outstanding) (ok : Bool) (v : State) :=
      v.outer = s.outer ∧ v.journal = s.journal ∧
      exec (.ackReceived m (BitVec.ofNat 8 m.val) o.msg.seq (if ok then 1 else 2)) s =
        .next (s.closeAnswer (v.faultAnswer m ok) m) ∧
      (ok = false → o.timer = 0 → exec (.ackTimeout m) s = .next (s.closeAnswer (v.faultAnswer m false) m))
    (∀ o (h : Handle), (s.link m).out = some o → o.bind = .channel h → o.msg.cls ≠ .ramp →
      (∃ v : State, ends o true v ∧ v.engine = { s.engine with chans := v.chans, links := ended o (s.link m).queue } ∧
        (∀ g, g ≠ h → v.chan g = s.chan g) ∧
        (o.msg.cls = .level → v.chan h = { s.chan h with applied := o.msg.setting, unconfirmed := false }) ∧
        (o.msg.cls = .shutter → v.chan h = { s.chan h with unconfirmed := false })) ∧
      ∃ v : State, ends o false v ∧ v.engine = { s.engine with chans := v.chans, links := ended o (s.link m).queue } ∧
        (∀ g, g ≠ h → v.chan g = s.chan g) ∧
        (o.msg.cls = .level → v.chan h = s.chan h) ∧
        (o.msg.cls = .shutter → v.chan h = { s.chan h with unconfirmed := true })) ∧
    (∀ o, (s.link m).out = some o → o.bind = .detached → ∀ ok : Bool,
      ∃ v : State, ends o ok v ∧ v.engine = { s.engine with links := ended o (s.link m).queue }) ∧
    (∀ o k x, (s.link m).out = some o → o.bind = .slot k → s.slot k = some x → x.dest = m →
      ∃ v : State, ends o false v ∧ v.engine = { s.engine with slots := v.slots, links := v.links } ∧
        (∀ j, j ≠ k → v.slot j = s.slot j) ∧
        (x.held = true → v.slot k = some { x with drive := .stopped, takeover := false } ∧
          v.links = ended o (s.link m).queue) ∧
        (x.held = false → x.takeover = true → v.slot k = some { x with drive := .queued, takeover := false } ∧
          v.links = ended o ((s.link m).queue ++ [.ramp k])) ∧
        (x.held = false → x.takeover = false → v.slot k = some { x with drive := .pacing (s.params m).pacing } ∧
          v.links = ended o (s.link m).queue)) ∧
    (∀ o, (s.link m).out = some o →
      let failed (t : State) := (∀ h, (t.chan h).applied = (s.chan h).applied) ∧
        ((s.site m).state = .enabled → (t.cond m).modFault.live = true ∧
          ((s.cond m).modFault.live = false → (t.cond m).modFault.sticky = true)) ∧
        ((s.site m).state ≠ .enabled → t.cond m = s.cond m) ∧
        ∀ h, o.bind = .channel h → o.msg.cls = .shutter → (t.chan h).unconfirmed = true
      (∃ t, exec (.ackReceived m (BitVec.ofNat 8 m.val) o.msg.seq 2) s = .next t ∧ failed t) ∧
      (o.timer = 0 → ∃ t, exec (.ackTimeout m) s = .next t ∧ failed t)) ∧
    (let t := s.faultAnswer m false
     let rises := (s.site m).state = .enabled ∧ (s.cond m).modFault.live = false
     (¬rises → t = s) ∧
     (rises → t.outer = s.outer ∧ t.chans = s.chans ∧ t.waitList = s.waitList ∧ t.committed = s.committed ∧
       t.sites = s.sites ∧ t.taps = s.taps ∧ t.passDue = s.passDue ∧ (∀ y, t.entry y = s.entry y) ∧
       t.cond m = { s.cond m with modFault := { live := true, sticky := true } } ∧
       (∀ n, n ≠ m → t.cond n = s.cond n) ∧
       (recordCount s.journal.handOver < 256 → t.journal.handOver = s.journal.handOver ++
         [.record { kind := .condRaised, site := some m, code := 2, tick := s.tick }]) ∧
       ((s.params m).modFaultAct = .hold → ∀ k x, s.slot k = some x → (s.chan x.handle).dstSite = m →
         ∃ y, t.slot k = some y ∧ y.held = true ∧ (x.held = false → ∀ n, y.drive ≠ .pacing n)) ∧
       ((s.params m).modFaultAct ≠ .hold → s.heldOk → t.slots = s.slots ∧ t.links = s.links) ∧
       (s.served → s.reheld t fun x =>
         if (s.chan x.handle).srcSite = m ∨ (s.chan x.handle).dstSite = m then t.isHeld x.handle else x.held))) ∧
    (∀ v : State,
      let f := s.finish v
      let l := f.link m
      let t := s.closeAnswer v m
      let sent (first count : Nat) (input : InputSel) (port : Option (Fin 12)) (setting : Setting)
          (cls : MsgClass) (bind : Binding) (queue : List Request) (shutters : List ShutterEntry) (g : State) : State :=
        g.setLink m
          { seq := l.seq + 1, queue, shutters,
            out := some { msg := { module := m, seq := l.seq, first, count, input, port, setting, cls }, bind, timer := 8 } }
      (l.shutters = [] → l.queue = [] → t = f.setLink m { l with out := none }) ∧
      (∀ before e after, l.shutters = before ++ e :: after → (∀ x ∈ before, e.handle < x.handle) →
        (∀ x ∈ after, e.handle ≤ x.handle) →
        t = sent e.first e.count e.input e.port .blocked .shutter
          (if e.bound = true then .channel e.handle else .detached) l.queue (before ++ after) f) ∧
      (∀ k x rest, l.shutters = [] → l.queue = .ramp k :: rest → f.slot k = some x →
        let c := f.chan x.handle
        t = sent c.first c.count c.input c.outPort
          (nextAttenuation x.kind (c.motion.getD .blocked) c.applied (f.params x.dest).step) .ramp (.slot k) rest []
          (f.setSlot k (some { x with drive := .sent }))) ∧
      ∀ h a rest, l.shutters = [] → l.queue = .level h a :: rest →
        let c := f.chan h
        t = sent c.first c.count c.input c.outPort (.att a) .level (.channel h) rest [] f) ∧
    ∀ module seq outcome : Byte,
      (module.toNat ≠ m.val ∨ (∀ o, (s.link m).out = some o → o.msg.seq ≠ seq) ∨ (outcome ≠ 1 ∧ outcome ≠ 2)) →
        exec (.ackReceived m module seq outcome) s = .next s

/-- PACING_EXPIRY: the slot's next RAMP request is placed at the tail of its module's queue. A busy module leaves it QUEUED; an idle
one with nothing waiting is sent it at once, with the attenuation of Table 6-2, the module's present sequence number, which then
rises by 1, and an ack timer of 8 ticks (R103, R105, R112, R113, R114, R116). The bytes of a setting message, of any class, are those of
Table 12-9 (R112, R196); that bits 7..5 of the input select are sent as 0 is notes/assumptions/43.md (DESIGN CHOICE). The sites, the
input select and the output port of a channel are those of Table 1-2 (R2, R5, R112). -/
def Obligations.PacingExpirySendsTheNextStep : Prop :=
  (∀ c : Channel,
    (∀ i, c.src = .degree i → c.srcSite.val = i.val ∧ c.input = .degree i) ∧
    (∀ g p, c.src = .addPort g p → c.srcSite.val = 8 + g.val ∧ c.input = .group g) ∧
    (∀ j, c.dst = .degree j → c.dstSite.val = j.val ∧ c.outPort = none) ∧
    ∀ g p, c.dst = .dropPort g p → c.dstSite.val = 8 + g.val ∧ c.outPort = some p) ∧
  (∀ m : SettingMsg, m.setting.inRange → m.first < 65536 → m.count < 256 →
    m.bytes.map (·.toNat) =
      [m.module.val, m.seq.toNat, m.first % 256, m.first / 256, m.count,
       match m.input with
         | .degree i => i.val
         | .group g => 16 + g.val,
       match m.port with
         | some p => p.val
         | none => 255,
       match m.setting with
         | .att a => a
         | .blocked => 254,
       match m.cls with
         | .shutter => 1
         | .ramp => 2
         | .level => 3]) ∧
  ∀ (s : State) (k : SlotId) (x : Slot), s.inReset = false → s.slot k = some x → x.drive = .pacing 0 →
    let l := s.link x.dest
    let c := s.chan x.handle
    (l.out ≠ none → exec (.pacingExpiry k) s = .next
      ((s.setLink x.dest { l with queue := l.queue ++ [.ramp k] }).setSlot k
        (some { x with drive := .queued, takeover := false }))) ∧
    (l.out = none → l.queue = [] → l.shutters = [] → ∃ t a, exec (.pacingExpiry k) s = .next t ∧
      t = (s.setLink x.dest
          { l with seq := l.seq + 1,
                   out := some { bind := .slot k, timer := 8,
                                 msg := { module := x.dest, seq := l.seq, first := c.first, count := c.count,
                                          input := c.input, port := c.outPort, setting := a, cls := .ramp } } }).setSlot k
        (some { x with drive := .sent, takeover := false }) ∧
      ∀ target, c.motion = some target →
        let step := (s.params x.dest).step
        (x.kind = .adopt → a = target) ∧
        (x.kind ≠ .adopt →
          (target = .blocked → c.applied = .blocked → a = .blocked) ∧
          (∀ n, target = .blocked → c.applied = .att n → a = if 200 ≤ n then .blocked else .att (min (n + step) 200)) ∧
          (∀ g, target = .att g → c.applied = .blocked → a = .att 200) ∧
          ∀ g n, target = .att g → c.applied = .att n →
            a = if g < n then .att (max (n - step) g) else if n < g then .att (min (n + step) g) else .att g))

/-- The number of messages of a ramp, each confirmed, with no other message between: a RISE or RESTORE to A takes
1 + ceil((200 − A) / S) messages, and a FALL from a takes ceil((200 − a) / S) + 1, the last of them being its motion target and
none before it (R104). -/
def Obligations.RampsTakeTheirNumberOfMessages : Prop :=
  ∀ step : Nat, 1 ≤ step →
    (∀ (kind : TransKind) (target : Nat), kind = .rise ∨ kind = .restore → target ≤ 200 →
      let after (n : Nat) := (fun a => nextAttenuation kind (.att target) a step)^[n] .blocked
      after (1 + (200 - target + step - 1) / step) = .att target ∧
      ∀ n, n < 1 + (200 - target + step - 1) / step → after n ≠ .att target) ∧
    ∀ start : Nat, start ≤ 200 →
      let after (n : Nat) := (fun a => nextAttenuation .fall .blocked a step)^[n] (.att start)
      after ((200 - start + step - 1) / step + 1) = .blocked ∧
      ∀ n, n < (200 - start + step - 1) / step + 1 → after n ≠ .blocked

/-! ### Conditions -/

/-- HOLD_OFF_EXPIRY: a RESTORE is appended for every channel the site shuttered that has no transition, in handle order, as far as
the Wait List has room; the site is restore-deferred exactly when one did not fit (R82, R149). The re-run of the deferred restores, when a
slot completes, makes the same appends at each site that has the mark, in ascending order, and leaves every other site (R150). -/
def Obligations.HoldOffExpiryAppendsRestores : Prop :=
  -- from `s` to `v` the expiry of site `n` appends its RESTOREs, and nothing else changes
  let appends (s v : State) (n : SiteId) : Prop :=
    let wanted := allHandles.filter fun h => decide ((s.chan h).shutteredBy = some n ∧ (s.chan h).pending = none)
    let fit := wanted.take (64 - s.waitList.length)
    v.waitList = s.waitList ++ fit.map (fun h =>
      { kind := .restore, handle := h, desc := none, dest := (s.chan h).dstSite, restoreSite := some n }) ∧
    v.cond n = { s.cond n with holdOff := (v.cond n).holdOff, restoreDeferred := decide (fit.length < wanted.length) } ∧
    (∀ m, m ≠ n → v.cond m = s.cond m) ∧
    (∀ h, v.chan h = if h ∈ fit then { s.chan h with pending := some .waiting } else s.chan h) ∧
    v.passDue = (s.passDue || decide (fit ≠ [])) ∧ v.outer = s.outer ∧ v.journal = s.journal ∧
    v.engine = { s.engine with chans := v.chans, waitList := v.waitList, conds := v.conds, passDue := v.passDue }
  (∀ (s : State) (n : SiteId), s.inReset = false → (s.cond n).holdOff = some 0 →
    ∃ v, exec (.holdOffExpiry n) s = .next (s.finish v) ∧ appends s v n ∧ (v.cond n).holdOff = none) ∧
  ∀ s : State, ∃ v : Nat → State, v 0 = s ∧ s.rerunDeferred = v 10 ∧ ∀ n : SiteId,
    let a := v n.val
    let b := v (n.val + 1)
    ((a.cond n).restoreDeferred = false → b = a) ∧
    ((a.cond n).restoreDeferred = true → appends a b n ∧ (b.cond n).holdOff = (a.cond n).holdOff)

/-- The conditions. A level below the LOS threshold raises a clear IN_LOS: live, sticky, stamps, the hold-off abandoned, COND_RAISED with
the level judged. With action SHUTTER every channel whose source is the site is acted on by Table 8-3, one at a time in handle order after
that record, and no other channel's record changes; with another action none does. A level above the threshold + 10 clears it: COND_CLEARED,
then the hold-off starts, one of 0 appending its RESTOREs at once. A level in the hysteresis band, or one that confirms the condition as
it stands, changes nothing. IN_HIGH, MON_STALE and the clearing of MOD_FAULT likewise; a fall makes a pass due exactly when no cause of
the hold is left. With each rise and fall the held flags of the site's slots become what the holds then give, a slot being stopped, its
request withdrawn, or its request placed, as R109 says (State.reheld), in an order by handle that is notes/assumptions/18.md (DESIGN
CHOICE). (R16, R109, R118, R135, R136, R138 to R140, R143 to R149.) The
Table 8-3 clause gives, for one channel: its record, transition, entries, descriptor's postings, record and shutter entry. That a
RESTORE which waits stays is notes/assumptions/39.md and that a full set's COND_RAISED precedes the channel's record is
notes/assumptions/40.md (DESIGN CHOICE); that an ended FALL's entry is placed before the return to FREE is notes/assumptions/19.md. -/
def Obligations.LossOfLightActsByItsAction : Prop :=
  (∀ (s : State) (n : SiteId) (level : Level),
    let r := s.cond n
    let p := s.params n
    let u := s.judgeInLos n level
    let low := level = .noLight ∨ ∃ v, level = .dt v ∧ v < p.los
    let high := ∃ v, level = .dt v ∧ p.los + 10 < v
    let judged : Half := match level with
      | .noLight => 0x8000
      | .dt v => BitVec.ofInt 16 v
    let room := recordCount s.journal.handOver < 256
    let item (kind : RecKind) (code : Byte) (detail : Half) : Item :=
      .record { kind, site := some n, code, tick := s.tick, detail }
    let ingressAt (h : Handle) := (s.chan h).srcSite = n
    let egressAt (h : Handle) := (s.chan h).dstSite = n
    let records (t : State) (i : Item) := room → t.journal.handOver = s.journal.handOver ++ [i]
    -- what a rise and a fall have in common: what they leave alone, and the slots, for a condition with the action `a`
    let kept (t : State) (a : Action) := t.outer = s.outer ∧ t.sites = s.sites ∧ t.taps = s.taps ∧ t.chans = s.chans ∧
      t.waitList = s.waitList ∧ t.committed = s.committed ∧ (∀ x, t.entry x = s.entry x) ∧
      (∀ m, m ≠ n → t.cond m = s.cond m) ∧ (a ≠ .hold → s.heldOk → t.slots = s.slots ∧ t.links = s.links) ∧
      (s.inReset = false → s.served → s.reheld t fun x =>
        if (s.chan x.handle).srcSite = n ∨ (s.chan x.handle).dstSite = n then t.isHeld x.handle else x.held) ∧
      ∀ k x, s.slot k = some x → ingressAt x.handle ∨ egressAt x.handle →
        ∃ y, t.slot k = some y ∧ y.handle = x.handle ∧ y.held = t.isHeld x.handle
    let raised (t : State) (here : Handle → Prop) (a : Action) := kept t a ∧ t.passDue = s.passDue ∧
      (a = .hold → ∀ k x, s.slot k = some x → here x.handle → ∃ y, t.slot k = some y ∧ y.held = true)
    let cleared (t : State) (a other : Action) (otherLive : Bool) := kept t a ∧
      (t.passDue = true ↔ s.passDue = true ∨ a = .hold ∧ ¬(otherLive = true ∧ other = .hold))
    (r.inLos.live = false → ¬low → u = s) ∧ (r.inLos.live = true → ¬high → u = s) ∧
    (r.inLos.live = false → low →
      (u.cond n).inLos = { live := true, sticky := true } ∧ (u.cond n).lastLos = some s.tick ∧
      (u.cond n).firstLos = (if r.inLos.sticky then r.firstLos else some s.tick) ∧ (u.cond n).holdOff = none ∧
      (u.cond n).restoreDeferred = false ∧ u.outer = s.outer ∧ u.sites = s.sites ∧ u.taps = s.taps ∧
      (p.inLosAct ≠ .shutter → u.chans = s.chans ∧ u.waitList = s.waitList ∧ u.committed = s.committed ∧
        (∀ x, u.entry x = s.entry x) ∧ raised u ingressAt p.inLosAct ∧ records u (item .condRaised 0 judged) ∧
        u.cond n = { r with inLos := (u.cond n).inLos, firstLos := (u.cond n).firstLos, lastLos := some s.tick,
                            holdOff := none, restoreDeferred := false }) ∧
      (p.inLosAct = .shutter → (∃ b : State, u = allHandles.foldl (State.shutterOne n) b ∧ raised b ingressAt .shutter ∧
          records b (item .condRaised 0 judged) ∧ b.cond n =
            { r with inLos := { live := true, sticky := true }, lastLos := some s.tick, holdOff := none,
                     firstLos := if r.inLos.sticky then r.firstLos else some s.tick, restoreDeferred := false }) ∧ ∀ h,
        let c := s.chan h
        let reached := c.state ≠ .free ∧ c.srcSite = n
        let waitsFall := c.state = .active ∧ s.waits h .fall = true
        (¬reached → u.chan h = c) ∧
        (reached → c.state = .dark → s.waits h .rise = false → u.chan h = c) ∧
        (reached → c.state = .dark → s.waits h .rise = true →
          u.chan h = { c with shutteredBy := some n, pending := none, motion := none, desc := none }) ∧
        (reached → (c.state = .rising ∨ c.state = .adjusting ∨ c.state = .active) → ¬waitsFall →
          ∃ unconfirmed, u.chan h =
            { c with state := .dark, shutteredBy := some n, applied := .blocked, pending := none, motion := none,
                     desc := none, unconfirmed }) ∧
        (reached → (c.state = .falling ∨ waitsFall) → u.chan h = {}))) ∧
    (r.inLos.live = true → high →
      let after := { r with inLos := { r.inLos with live := false } }
      (p.holdOff ≠ 0 → cleared u p.inLosAct p.inHighAct r.inHigh.live ∧ records u (item .condCleared 0 judged) ∧
        u.cond n = { after with holdOff := some p.holdOff }) ∧
      (p.holdOff = 0 →
        let wanted := allHandles.filter fun h => decide ((s.chan h).shutteredBy = some n ∧ (s.chan h).pending = none)
        let fit := wanted.take (64 - s.waitList.length)
        ∃ v : State, cleared v p.inLosAct p.inHighAct r.inHigh.live ∧ records v (item .condCleared 0 judged) ∧
          u.cond n = { after with holdOff := none, restoreDeferred := decide (fit.length < wanted.length) } ∧
          u.waitList = s.waitList ++ fit.map (fun h =>
            { kind := .restore, handle := h, desc := none, dest := (s.chan h).dstSite, restoreSite := some n }) ∧
          (∀ h, u.chan h = if h ∈ fit then { s.chan h with pending := some .waiting } else s.chan h) ∧
          u.passDue = (v.passDue || decide (fit ≠ [])) ∧ u.outer = s.outer ∧ u.journal = v.journal ∧
          u.engine = { v.engine with chans := u.chans, waitList := u.waitList, conds := u.conds, passDue := u.passDue } ∧
          ∀ m, m ≠ n → u.cond m = s.cond m)) ∧
    (let w := s.judgeInHigh n level
     let above := ∃ v, level = .dt v ∧ p.high < v
     let below := level = .noLight ∨ ∃ v, level = .dt v ∧ v < p.high - 10
     (r.inHigh.live = false → ¬above → w = s) ∧ (r.inHigh.live = true → ¬below → w = s) ∧
     (r.inHigh.live = false → above → raised w ingressAt p.inHighAct ∧ records w (item .condRaised 1 judged) ∧
       w.cond n = { r with inHigh := { live := true, sticky := true } }) ∧
     (r.inHigh.live = true → below → cleared w p.inHighAct p.inLosAct r.inLos.live ∧
       records w (item .condCleared 1 judged) ∧ w.cond n = { r with inHigh := { r.inHigh with live := false } })) ∧
    (let w := s.faultAnswer n true
     let falls := (s.site n).state = .enabled ∧ r.modFault.live = true
     (¬falls → w = s) ∧
     (falls → cleared w p.modFaultAct p.monStaleAct r.monStale.live ∧ records w (item .condCleared 2 0) ∧
       w.cond n = { r with modFault := { r.modFault with live := false } })) ∧
    (let w := s.judgeMonStale n
     let stale := ∃ t, tapSite t = n ∧ (s.tap t).stale = true
     (r.monStale.live = false → ¬stale → w = s) ∧ (r.monStale.live = true → stale → w = s) ∧
     (r.monStale.live = false → stale → raised w egressAt p.monStaleAct ∧ records w (item .condRaised 3 0) ∧
       w.cond n = { r with monStale := { live := true, sticky := true } }) ∧
     (r.monStale.live = true → ¬stale → cleared w p.monStaleAct p.modFaultAct r.modFault.live ∧
       records w (item .condCleared 3 0) ∧ w.cond n = { r with monStale := { r.monStale with live := false } }))) ∧
  ∀ (s : State) (n : SiteId) (h : Handle),
    let c := s.chan h
    let m := c.dstSite
    let l := s.link m
    let u := State.shutterOne n s h
    let reached := c.state ≠ .free ∧ c.srcSite = n
    let waitsRise := c.state = .dark ∧ s.waits h .rise = true
    let waitsFall := c.state = .active ∧ s.waits h .fall = true
    let freed := c.state = .falling ∨ waitsFall
    let lit := (c.state = .rising ∨ c.state = .adjusting ∨ c.state = .active) ∧ ¬freed
    let tellsWhere (d : Option Half) : Record :=
      { kind := .shuttered, site := some n, handle := some (BitVec.ofNat 8 h.val), code := 5, tick := s.tick, desc := d }
    let merges := l.shutters.any fun f => f.bound && decide (f.handle = h ∧ f.first = c.first ∧ f.count = c.count)
    let placed (bound : Bool) : ShutterEntry :=
      { handle := h, first := c.first, count := c.count, input := c.input, port := c.outPort, bound }
    let noRoom := merges = false ∧ 256 ≤ l.shutters.length
    let faults := (lit ∨ freed) ∧ noRoom ∧ (s.site m).state = .enabled ∧ (s.cond m).modFault.live = false
    let fault : List Item := if faults then [.record { kind := .condRaised, site := some m, code := 2, tick := s.tick }] else []
    let slotOf (k : SlotId) (x : Slot) := c.pending = some (.slot k) ∧ s.slot k = some x
    let detached (o : Outstanding) : Bool := match o.bind with
      | .slot k => decide (c.pending = some (.slot k)) && (s.slot k).any fun x => decide (x.drive = .sent)
      | .channel g => decide (g = h ∧ (o.msg.cls = .level ∨ freed ∧ o.msg.cls = .shutter))
      | .detached => false
    (¬reached → u = s) ∧ (c.state = .dark → ¬waitsRise → u = s) ∧
    (reached → (waitsRise ∨ lit ∨ freed) →
      -- the record, the transition, the maps
      (waitsRise → u.chan h = { c with shutteredBy := some n, pending := none, motion := none, desc := none }) ∧
      (lit → u.chan h = { c with state := .dark, shutteredBy := some n, applied := .blocked, pending := none, motion := none,
                                 desc := none, unconfirmed := decide noRoom || c.unconfirmed }) ∧
      (freed → u.chan h = {}) ∧ (∀ g, g ≠ h → u.chan g = s.chan g) ∧ u.outer = s.outer ∧ u.sites = s.sites ∧
      u.taps = s.taps ∧ (¬faults → u.conds = s.conds) ∧
      u.waitList = (if c.pending = some .waiting then s.waitList.filter fun e => decide (e.handle ≠ h) else s.waitList) ∧
      (∀ k x, slotOf k x → u.slot k = none ∧ u.passDue = true ∧
        ∀ q, u.swingOf q = if x.dest = degreeSite q then s.swingOf q - x.swing else s.swingOf q) ∧
      ((∀ k x, ¬slotOf k x) → u.committed = s.committed) ∧
      (¬faults → ∀ j, (∀ x, ¬slotOf j x) → u.slot j = s.slot j) ∧
      (u.passDue = true ↔ s.passDue = true ∨ (∃ k x, slotOf k x) ∨
        (c.pending = some .waiting ∧ ∃ e, s.entryOf h = some e ∧ e.barrier = true ∧ s.isHeld h = false) ∨
        freed ∧ ∃ y ∈ c.footprint, (s.entry y).owner = some h ∧ (s.entry y).claimant ≠ none) ∧
      (∀ y, u.entry y =
        if y ∉ c.footprint ∨ ¬freed then s.entry y
        else if (s.entry y).owner = some h ∧ (s.entry y).claimant ≠ some h
          then { owner := (s.entry y).claimant, claimant := none }
        else if (s.entry y).claimant = some h then { s.entry y with claimant := none }
        else s.entry y) ∧
      -- the descriptor and the record
      (recordCount s.journal.handOver < 255 →
        (waitsRise ∨ lit → ∀ d, c.desc = some d → u.journal.handOver = s.journal.handOver ++ fault ++
          (postings s.tick d .shuttered c.clamped 0 h true ++ [.record (tellsWhere (some d))])) ∧
        (waitsRise ∨ lit → c.desc = none → u.journal.handOver = s.journal.handOver ++ fault ++
          [.record (tellsWhere none)]) ∧
        (freed → ∀ d, c.desc = some d → u.journal.handOver = s.journal.handOver ++ fault ++
          (postings s.tick d .done false 0 h true ++
            [.record { kind := .done, site := some m, handle := some (BitVec.ofNat 8 h.val), code := 3, tick := s.tick,
                       desc := some d }])) ∧
        (freed → c.desc = none → u.journal.handOver = s.journal.handOver ++ fault)) ∧
      -- the shutter entry
      (faults → (u.cond m).modFault = { live := true, sticky := true }) ∧
      (waitsRise → (u.link m).shutters = l.shutters) ∧
      (lit → (merges = true ∨ noRoom ∧ l.out ≠ none) → (u.link m).shutters = l.shutters) ∧
      (lit → merges = false → ¬noRoom → l.out ≠ none → (u.link m).shutters = l.shutters ++ [placed true]) ∧
      (freed → (merges = true ∨ noRoom ∧ l.out ≠ none) → (u.link m).shutters = l.shutters.map fun f =>
        if f.handle = h then { f with bound := false } else f) ∧
      (freed → merges = false → ¬noRoom → l.out ≠ none → (u.link m).shutters =
        (l.shutters ++ [placed false]).map fun f => if f.handle = h then { f with bound := false } else f) ∧
      ((lit ∨ freed) → l.out = none → l.shutters = [] → (u.link m).shutters = [] ∧ (u.link m).seq = l.seq + 1 ∧
        (u.link m).out = some { timer := 8, bind := if lit then .channel h else .detached,
                                msg := { module := m, seq := l.seq, first := c.first, count := c.count, input := c.input,
                                         port := c.outPort, setting := .blocked, cls := .shutter } }) ∧
      ((∀ k x, slotOf k x → x.dest = m) → ∀ o, l.out = some o → (u.link m).out = some
        (if detached o then { o with bind := .detached } else o)) ∧
      ((∀ k x, slotOf k x → x.dest = m) → ¬faults → (u.link m).queue = l.queue.filter fun q => match q with
        | .level g _ => decide (g ≠ h)
        | .ramp k => (s.slot k).all fun x => decide ¬(slotOf k x ∧ x.drive = .queued)))

/-! ### Arithmetic and the Level Loop -/

/-- lin clamps its level into −500..+200 and answers 10^((t + 600) / 100) rounded to the nearest whole nanowatt, which is never
midway: r is the answer exactly when (2r − 1)^100 < 2^100 × 10^(t + 600) < (2r + 1)^100. It never falls as t rises, and it rises
strictly above −440 within the range. Slice values, predicted levels and modelled levels pass through lin alone, so levels that lin
maps to one power are treated alike (R25). -/
def Obligations.LinRoundsToTheNearest : Prop :=
  (∀ t : Int, lin t = lin (max (-500) (min 200 t))) ∧
  (∀ t : Int, -500 ≤ t → t ≤ 200 →
    (2 * lin t - 1) ^ 100 < 2 ^ 100 * 10 ^ (t + 600).toNat ∧ 2 ^ 100 * 10 ^ (t + 600).toNat < (2 * lin t + 1) ^ 100) ∧
  (∀ t u : Int, t ≤ u → lin t ≤ lin u) ∧ (∀ t : Int, -440 < t → t < 200 → lin t < lin (t + 1)) ∧
  lin (-500) = 10 ∧ lin (-499) = 10 ∧ lin (-498) = 10 ∧ lin (-497) = 11 ∧ lin (-300) = 1000 ∧ lin (-150) = 31623 ∧
  lin (-120) = 63096 ∧ lin (-100) = 100000 ∧ lin (-40) = 398107 ∧ lin (-39) = 407380 ∧ lin 0 = 1000000 ∧
  lin 200 = 100000000 ∧
  (∀ raw : Half, slicePower raw = if raw.toInt < -500 then 0 else lin raw.toInt) ∧
  (∀ raw raw' : Half, -500 ≤ raw.toInt → -500 ≤ raw'.toInt → lin raw.toInt = lin raw'.toInt →
    slicePower raw = slicePower raw') ∧
  (∀ (s : State) (c : Channel) (a : Nat), c.applied = .att a → s.modelled c = lin (match s.pIn c with
    | some p => p - (s.params c.dstSite).il - a
    | none => c.target)) ∧
  ∀ (s : State) (c : Channel) (preset : Option Nat), (SiteId.degree? c.dstSite).isSome = true →
    s.swing .rise c preset = lin (s.predicted c preset)

/-- log is NOLIGHT below 10 nW, +200 from 100 000 000 nW, and between them the largest level of −500..+200 whose lin is not above
the power. log(lin(t)) is t or higher, and exactly t wherever lin rises strictly at t. In comparisons NOLIGHT ranks below every
level (R26). Every measurement is log of a sum: of a channel, at its source or destination tap, over the slices first to
first + count − 1, NOLIGHT at a tap not received; of a tap total, over its 320 slices; a stale tap is still read from its values
(R27 to R29). P_in of a channel is valid exactly when its source tap is received and not stale and measures a level there (R30); the taps are those of Table 1-2. -/
def Obligations.LogRoundsDown : Prop :=
  (∀ (t : Tap) (first count : Nat), (t.received = false → measure t first count = .noLight ∧ tapLevel t = .noLight) ∧
    (t.received = true →
      measure t first count = log ((List.finRange 320).map fun i =>
        if first ≤ i.val ∧ i.val < first + count then slicePower (t.slices.get i) else 0).sum ∧
      tapLevel t = log ((List.finRange 320).map fun i => slicePower (t.slices.get i)).sum)) ∧
  (∀ c : Channel, (∀ i, c.src = .degree i → c.srcTap.val = i.val) ∧
    (∀ g p, c.src = .addPort g p → c.srcTap.val = 16 + g.val) ∧ (∀ i, c.dst = .degree i → c.dstTap.val = 8 + i.val) ∧
    ∀ g p, c.dst = .dropPort g p → c.dstTap.val = 18 + g.val) ∧
  (∀ (s : State) (c : Channel), s.measIn c = measure (s.tap c.srcTap) c.first c.count ∧
    s.measOut c = measure (s.tap c.dstTap) c.first c.count ∧
    ∀ p, s.pIn c = some p ↔
      (s.tap c.srcTap).received = true ∧ (s.tap c.srcTap).stale = false ∧ s.measIn c = .dt p) ∧
  (∀ x : Nat, x < 10 → log x = .noLight) ∧ (∀ x : Nat, 100000000 ≤ x → log x = .dt 200) ∧
  (∀ x : Nat, 10 ≤ x → x < 100000000 → ∃ t : Int, log x = .dt t ∧ -500 ≤ t ∧ t ≤ 200 ∧ lin t ≤ x ∧
    ∀ u : Int, t < u → u ≤ 200 → x < lin u) ∧
  (∀ t : Int, -500 ≤ t → t ≤ 200 → ∃ u : Int, log (lin t) = .dt u ∧ t ≤ u) ∧
  (∀ t : Int, -500 ≤ t → t ≤ 200 → (t = 200 ∨ lin t < lin (t + 1)) → log (lin t) = .dt t) ∧
  log 10 = .dt (-498) ∧ (∀ t : Int, Level.noLight.below t = true ∧ Level.noLight.above t = false) ∧
  ∀ v t : Int, ((Level.dt v).below t = true ↔ v < t) ∧ ((Level.dt v).above t = true ↔ t < v)

/-- The Level Loop's treatment of one channel of an acting frame. NOLIGHT sets the flag and no more. Otherwise the wanted
attenuation is the applied one within the deadband, and outside it moves toward the target by at least 1 and at most one step, by
err × gain / 16 truncated toward zero; it is ranged into 0..200 with its two flags; and a LEVEL request is placed when it differs
from the applied setting, else a queued one is withdrawn (R125 to R129, R133). The loop acts on a frame exactly when the site is
ENABLED and not frozen, has no live MOD_FAULT or MON_STALE with action HOLD, and no slot is in use toward it (R124); it takes the channels
in ascending handle order (R125). A LEVEL request replaces the channel's queued one in place, else joins the tail, or is sent at once by a
module that is idle with nothing waiting, while fewer than 16 LEVEL requests are queued, and else is dropped; a withdrawal takes the
channel's queued request alone and leaves an outstanding message as it is (R117, R129, R130). -/
def Obligations.LevelLoopCorrectsByTheError : Prop :=
  (∀ (s : State) (n : SiteId),
    let holds (c : Cond) := ((s.cond n).flag c).live = true ∧ (s.params n).action c = .hold
    let acts := (s.site n).state = .enabled ∧ (s.site n).frozen = false ∧ ¬holds .modFault ∧ ¬holds .monStale ∧
      ∀ k x, s.slot k = some x → x.dest ≠ n
    (acts → s.levelLoop n = (List.finRange 256).foldl (fun t h => State.correctOne n t h) s) ∧
    (¬acts → s.levelLoop n = s)) ∧
  (∀ (s : State) (m : SiteId) (h : Handle) (a : Nat),
    let l := s.link m
    let mine (r : Request) : Bool := match r with
      | .level g _ => decide (g = h)
      | .ramp _ => false
    let levels := (l.queue.filter fun r => match r with
      | .level _ _ => true
      | .ramp _ => false).length
    s.withdrawLevel m h = s.setLink m { l with queue := l.queue.filter fun r => !mine r } ∧
    ((∃ b, .level h b ∈ l.queue) → s.placeLevel m h a =
      s.setLink m { l with queue := l.queue.map fun r => if mine r then .level h a else r }) ∧
    ((∀ b, .level h b ∉ l.queue) →
      (16 ≤ levels → s.placeLevel m h a = s) ∧
      (levels < 16 → l.out ≠ none → s.placeLevel m h a = s.setLink m { l with queue := l.queue ++ [.level h a] }) ∧
      (l.out = none → l.queue = [] → l.shutters = [] → s.placeLevel m h a = s.setLink m
        { seq := l.seq + 1, queue := [], shutters := [],
          out := some { bind := .channel h, timer := 8,
                        msg := { module := m, seq := l.seq, first := (s.chan h).first, count := (s.chan h).count,
                                 input := (s.chan h).input, port := (s.chan h).outPort, setting := .att a,
                                 cls := .level } } }))) ∧
  ∀ (s : State) (n : SiteId) (h : Handle), (s.params n).inRange →
    let c := s.chan h
    let p := s.params n
    let u := State.correctOne n s h
    let taken := c.state = .active ∧ c.dstSite = n ∧ c.pending = none
    (¬taken → u = s) ∧
    (taken → s.measOut c = .noLight → u = s.setChan h { c with noLightOut := true }) ∧
    ∀ (v : Int) (a : Nat), taken → s.measOut c = .dt v → c.applied = .att a →
      let err := v - c.target
      ∃ wanted : Int,
        (err.natAbs ≤ p.deadband → wanted = a) ∧
        (p.deadband < err.natAbs → (0 < err → a + 1 ≤ wanted ∧ wanted ≤ a + p.step) ∧
          (err < 0 → wanted + 1 ≤ a ∧ (a : Int) - p.step ≤ wanted) ∧
          (wanted - a).natAbs = max 1 (min p.step ((err * p.gain).natAbs / 16))) ∧
        (let g := if wanted < 0 then 0 else if 200 < wanted then 200 else wanted.toNat
         let flagged := { c with noLightOut := false, underRange := decide (wanted < 0),
                                 overRange := decide (200 < wanted) }
         u.chan h = flagged ∧ (∀ k, k ≠ h → u.chan k = s.chan k) ∧ u.outer = s.outer ∧
         (g = a → u = (s.setChan h flagged).withdrawLevel n h) ∧
         (g ≠ a → u = (s.setChan h flagged).placeLevel n h g))
end

