-- ==== Sys2Proof/Laws/State.lean ====
section
/-!
SUPPORT. The small lemmas of the table writes of Machine/Ops.lean: what each write leaves alone, field by field, and what each
table reads after it.
-/

namespace Sys2Proof.Machine

open Sys2Proof

/-! ### setChan -/

@[simp] theorem State.setChan_inReset (s : State) (h : Handle) (c : Channel) : (s.setChan h c).inReset = s.inReset := rfl
@[simp] theorem State.setChan_tick (s : State) (h : Handle) (c : Channel) : (s.setChan h c).tick = s.tick := rfl
@[simp] theorem State.setChan_straps (s : State) (h : Handle) (c : Channel) : (s.setChan h c).straps = s.straps := rfl
@[simp] theorem State.setChan_lastRead (s : State) (h : Handle) (c : Channel) : (s.setChan h c).lastRead = s.lastRead := rfl
@[simp] theorem State.setChan_latches (s : State) (h : Handle) (c : Channel) : (s.setChan h c).latches = s.latches := rfl
@[simp] theorem State.setChan_inFlight (s : State) (h : Handle) (c : Channel) : (s.setChan h c).inFlight = s.inFlight := rfl
@[simp] theorem State.setChan_suppressed (s : State) (h : Handle) (c : Channel) : (s.setChan h c).suppressed = s.suppressed := rfl
@[simp] theorem State.setChan_cmd (s : State) (h : Handle) (c : Channel) : (s.setChan h c).cmd = s.cmd := rfl
@[simp] theorem State.setChan_port (s : State) (h : Handle) (c : Channel) : (s.setChan h c).port = s.port := rfl
@[simp] theorem State.setChan_queue (s : State) (h : Handle) (c : Channel) : (s.setChan h c).queue = s.queue := rfl
@[simp] theorem State.setChan_walker (s : State) (h : Handle) (c : Channel) : (s.setChan h c).walker = s.walker := rfl
@[simp] theorem State.setChan_maps (s : State) (h : Handle) (c : Channel) : (s.setChan h c).maps = s.maps := rfl
@[simp] theorem State.setChan_addCells (s : State) (h : Handle) (c : Channel) : (s.setChan h c).addCells = s.addCells := rfl
@[simp] theorem State.setChan_dropCells (s : State) (h : Handle) (c : Channel) : (s.setChan h c).dropCells = s.dropCells := rfl
@[simp] theorem State.setChan_waitList (s : State) (h : Handle) (c : Channel) : (s.setChan h c).waitList = s.waitList := rfl
@[simp] theorem State.setChan_slots (s : State) (h : Handle) (c : Channel) : (s.setChan h c).slots = s.slots := rfl
@[simp] theorem State.setChan_committed (s : State) (h : Handle) (c : Channel) : (s.setChan h c).committed = s.committed := rfl
@[simp] theorem State.setChan_passDue (s : State) (h : Handle) (c : Channel) : (s.setChan h c).passDue = s.passDue := rfl
@[simp] theorem State.setChan_links (s : State) (h : Handle) (c : Channel) : (s.setChan h c).links = s.links := rfl
@[simp] theorem State.setChan_scan (s : State) (h : Handle) (c : Channel) : (s.setChan h c).scan = s.scan := rfl
@[simp] theorem State.setChan_taps (s : State) (h : Handle) (c : Channel) : (s.setChan h c).taps = s.taps := rfl
@[simp] theorem State.setChan_conds (s : State) (h : Handle) (c : Channel) : (s.setChan h c).conds = s.conds := rfl
@[simp] theorem State.setChan_sites (s : State) (h : Handle) (c : Channel) : (s.setChan h c).sites = s.sites := rfl
@[simp] theorem State.setChan_setup (s : State) (h : Handle) (c : Channel) : (s.setChan h c).setup = s.setup := rfl
@[simp] theorem State.setChan_journal (s : State) (h : Handle) (c : Channel) : (s.setChan h c).journal = s.journal := rfl
@[simp] theorem State.setChan_attn (s : State) (h : Handle) (c : Channel) : (s.setChan h c).attn = s.attn := rfl
@[simp] theorem State.setChan_mem (s : State) (h : Handle) (c : Channel) : (s.setChan h c).mem = s.mem := rfl
@[simp] theorem State.setChan_freeIndex (s : State) (h : Handle) (c : Channel) : (s.setChan h c).freeIndex = s.freeIndex := rfl
@[simp] theorem State.setChan_pending (s : State) (h : Handle) (c : Channel) : (s.setChan h c).pending = s.pending := rfl
@[simp] theorem State.slot_setChan (s : State) (h : Handle) (c : Channel) (k' : SlotId) : (s.setChan h c).slot k' = s.slot k' := rfl
@[simp] theorem State.link_setChan (s : State) (h : Handle) (c : Channel) (m' : SiteId) : (s.setChan h c).link m' = s.link m' := rfl
@[simp] theorem State.tap_setChan (s : State) (h : Handle) (c : Channel) (t' : TapId) : (s.setChan h c).tap t' = s.tap t' := rfl
@[simp] theorem State.cond_setChan (s : State) (h : Handle) (c : Channel) (n' : SiteId) : (s.setChan h c).cond n' = s.cond n' := rfl
@[simp] theorem State.site_setChan (s : State) (h : Handle) (c : Channel) (n' : SiteId) : (s.setChan h c).site n' = s.site n' := rfl
@[simp] theorem State.swingOf_setChan (s : State) (h : Handle) (c : Channel) (d' : Fin 8) : (s.setChan h c).swingOf d' = s.swingOf d' := rfl
@[simp] theorem State.entry_setChan (s : State) (h : Handle) (c : Channel) (r' : EntryRef) : (s.setChan h c).entry r' = s.entry r' := by cases r' <;> rfl

/-! ### setSlot -/

@[simp] theorem State.setSlot_inReset (s : State) (k : SlotId) (x : Option Slot) : (s.setSlot k x).inReset = s.inReset := rfl
@[simp] theorem State.setSlot_tick (s : State) (k : SlotId) (x : Option Slot) : (s.setSlot k x).tick = s.tick := rfl
@[simp] theorem State.setSlot_straps (s : State) (k : SlotId) (x : Option Slot) : (s.setSlot k x).straps = s.straps := rfl
@[simp] theorem State.setSlot_lastRead (s : State) (k : SlotId) (x : Option Slot) : (s.setSlot k x).lastRead = s.lastRead := rfl
@[simp] theorem State.setSlot_latches (s : State) (k : SlotId) (x : Option Slot) : (s.setSlot k x).latches = s.latches := rfl
@[simp] theorem State.setSlot_inFlight (s : State) (k : SlotId) (x : Option Slot) : (s.setSlot k x).inFlight = s.inFlight := rfl
@[simp] theorem State.setSlot_suppressed (s : State) (k : SlotId) (x : Option Slot) : (s.setSlot k x).suppressed = s.suppressed := rfl
@[simp] theorem State.setSlot_cmd (s : State) (k : SlotId) (x : Option Slot) : (s.setSlot k x).cmd = s.cmd := rfl
@[simp] theorem State.setSlot_port (s : State) (k : SlotId) (x : Option Slot) : (s.setSlot k x).port = s.port := rfl
@[simp] theorem State.setSlot_queue (s : State) (k : SlotId) (x : Option Slot) : (s.setSlot k x).queue = s.queue := rfl
@[simp] theorem State.setSlot_walker (s : State) (k : SlotId) (x : Option Slot) : (s.setSlot k x).walker = s.walker := rfl
@[simp] theorem State.setSlot_chans (s : State) (k : SlotId) (x : Option Slot) : (s.setSlot k x).chans = s.chans := rfl
@[simp] theorem State.setSlot_maps (s : State) (k : SlotId) (x : Option Slot) : (s.setSlot k x).maps = s.maps := rfl
@[simp] theorem State.setSlot_addCells (s : State) (k : SlotId) (x : Option Slot) : (s.setSlot k x).addCells = s.addCells := rfl
@[simp] theorem State.setSlot_dropCells (s : State) (k : SlotId) (x : Option Slot) : (s.setSlot k x).dropCells = s.dropCells := rfl
@[simp] theorem State.setSlot_waitList (s : State) (k : SlotId) (x : Option Slot) : (s.setSlot k x).waitList = s.waitList := rfl
@[simp] theorem State.setSlot_committed (s : State) (k : SlotId) (x : Option Slot) : (s.setSlot k x).committed = s.committed := rfl
@[simp] theorem State.setSlot_passDue (s : State) (k : SlotId) (x : Option Slot) : (s.setSlot k x).passDue = s.passDue := rfl
@[simp] theorem State.setSlot_links (s : State) (k : SlotId) (x : Option Slot) : (s.setSlot k x).links = s.links := rfl
@[simp] theorem State.setSlot_scan (s : State) (k : SlotId) (x : Option Slot) : (s.setSlot k x).scan = s.scan := rfl
@[simp] theorem State.setSlot_taps (s : State) (k : SlotId) (x : Option Slot) : (s.setSlot k x).taps = s.taps := rfl
@[simp] theorem State.setSlot_conds (s : State) (k : SlotId) (x : Option Slot) : (s.setSlot k x).conds = s.conds := rfl
@[simp] theorem State.setSlot_sites (s : State) (k : SlotId) (x : Option Slot) : (s.setSlot k x).sites = s.sites := rfl
@[simp] theorem State.setSlot_setup (s : State) (k : SlotId) (x : Option Slot) : (s.setSlot k x).setup = s.setup := rfl
@[simp] theorem State.setSlot_journal (s : State) (k : SlotId) (x : Option Slot) : (s.setSlot k x).journal = s.journal := rfl
@[simp] theorem State.setSlot_attn (s : State) (k : SlotId) (x : Option Slot) : (s.setSlot k x).attn = s.attn := rfl
@[simp] theorem State.setSlot_mem (s : State) (k : SlotId) (x : Option Slot) : (s.setSlot k x).mem = s.mem := rfl
@[simp] theorem State.setSlot_freeIndex (s : State) (k : SlotId) (x : Option Slot) : (s.setSlot k x).freeIndex = s.freeIndex := rfl
@[simp] theorem State.setSlot_pending (s : State) (k : SlotId) (x : Option Slot) : (s.setSlot k x).pending = s.pending := rfl
@[simp] theorem State.chan_setSlot (s : State) (k : SlotId) (x : Option Slot) (h' : Handle) : (s.setSlot k x).chan h' = s.chan h' := rfl
@[simp] theorem State.link_setSlot (s : State) (k : SlotId) (x : Option Slot) (m' : SiteId) : (s.setSlot k x).link m' = s.link m' := rfl
@[simp] theorem State.tap_setSlot (s : State) (k : SlotId) (x : Option Slot) (t' : TapId) : (s.setSlot k x).tap t' = s.tap t' := rfl
@[simp] theorem State.cond_setSlot (s : State) (k : SlotId) (x : Option Slot) (n' : SiteId) : (s.setSlot k x).cond n' = s.cond n' := rfl
@[simp] theorem State.site_setSlot (s : State) (k : SlotId) (x : Option Slot) (n' : SiteId) : (s.setSlot k x).site n' = s.site n' := rfl
@[simp] theorem State.swingOf_setSlot (s : State) (k : SlotId) (x : Option Slot) (d' : Fin 8) : (s.setSlot k x).swingOf d' = s.swingOf d' := rfl
@[simp] theorem State.entry_setSlot (s : State) (k : SlotId) (x : Option Slot) (r' : EntryRef) : (s.setSlot k x).entry r' = s.entry r' := by cases r' <;> rfl

/-! ### setLink -/

@[simp] theorem State.setLink_inReset (s : State) (m : SiteId) (l : Link) : (s.setLink m l).inReset = s.inReset := rfl
@[simp] theorem State.setLink_tick (s : State) (m : SiteId) (l : Link) : (s.setLink m l).tick = s.tick := rfl
@[simp] theorem State.setLink_straps (s : State) (m : SiteId) (l : Link) : (s.setLink m l).straps = s.straps := rfl
@[simp] theorem State.setLink_lastRead (s : State) (m : SiteId) (l : Link) : (s.setLink m l).lastRead = s.lastRead := rfl
@[simp] theorem State.setLink_latches (s : State) (m : SiteId) (l : Link) : (s.setLink m l).latches = s.latches := rfl
@[simp] theorem State.setLink_inFlight (s : State) (m : SiteId) (l : Link) : (s.setLink m l).inFlight = s.inFlight := rfl
@[simp] theorem State.setLink_suppressed (s : State) (m : SiteId) (l : Link) : (s.setLink m l).suppressed = s.suppressed := rfl
@[simp] theorem State.setLink_cmd (s : State) (m : SiteId) (l : Link) : (s.setLink m l).cmd = s.cmd := rfl
@[simp] theorem State.setLink_port (s : State) (m : SiteId) (l : Link) : (s.setLink m l).port = s.port := rfl
@[simp] theorem State.setLink_queue (s : State) (m : SiteId) (l : Link) : (s.setLink m l).queue = s.queue := rfl
@[simp] theorem State.setLink_walker (s : State) (m : SiteId) (l : Link) : (s.setLink m l).walker = s.walker := rfl
@[simp] theorem State.setLink_chans (s : State) (m : SiteId) (l : Link) : (s.setLink m l).chans = s.chans := rfl
@[simp] theorem State.setLink_maps (s : State) (m : SiteId) (l : Link) : (s.setLink m l).maps = s.maps := rfl
@[simp] theorem State.setLink_addCells (s : State) (m : SiteId) (l : Link) : (s.setLink m l).addCells = s.addCells := rfl
@[simp] theorem State.setLink_dropCells (s : State) (m : SiteId) (l : Link) : (s.setLink m l).dropCells = s.dropCells := rfl
@[simp] theorem State.setLink_waitList (s : State) (m : SiteId) (l : Link) : (s.setLink m l).waitList = s.waitList := rfl
@[simp] theorem State.setLink_slots (s : State) (m : SiteId) (l : Link) : (s.setLink m l).slots = s.slots := rfl
@[simp] theorem State.setLink_committed (s : State) (m : SiteId) (l : Link) : (s.setLink m l).committed = s.committed := rfl
@[simp] theorem State.setLink_passDue (s : State) (m : SiteId) (l : Link) : (s.setLink m l).passDue = s.passDue := rfl
@[simp] theorem State.setLink_scan (s : State) (m : SiteId) (l : Link) : (s.setLink m l).scan = s.scan := rfl
@[simp] theorem State.setLink_taps (s : State) (m : SiteId) (l : Link) : (s.setLink m l).taps = s.taps := rfl
@[simp] theorem State.setLink_conds (s : State) (m : SiteId) (l : Link) : (s.setLink m l).conds = s.conds := rfl
@[simp] theorem State.setLink_sites (s : State) (m : SiteId) (l : Link) : (s.setLink m l).sites = s.sites := rfl
@[simp] theorem State.setLink_setup (s : State) (m : SiteId) (l : Link) : (s.setLink m l).setup = s.setup := rfl
@[simp] theorem State.setLink_journal (s : State) (m : SiteId) (l : Link) : (s.setLink m l).journal = s.journal := rfl
@[simp] theorem State.setLink_attn (s : State) (m : SiteId) (l : Link) : (s.setLink m l).attn = s.attn := rfl
@[simp] theorem State.setLink_mem (s : State) (m : SiteId) (l : Link) : (s.setLink m l).mem = s.mem := rfl
@[simp] theorem State.setLink_freeIndex (s : State) (m : SiteId) (l : Link) : (s.setLink m l).freeIndex = s.freeIndex := rfl
@[simp] theorem State.setLink_pending (s : State) (m : SiteId) (l : Link) : (s.setLink m l).pending = s.pending := rfl
@[simp] theorem State.chan_setLink (s : State) (m : SiteId) (l : Link) (h' : Handle) : (s.setLink m l).chan h' = s.chan h' := rfl
@[simp] theorem State.slot_setLink (s : State) (m : SiteId) (l : Link) (k' : SlotId) : (s.setLink m l).slot k' = s.slot k' := rfl
@[simp] theorem State.tap_setLink (s : State) (m : SiteId) (l : Link) (t' : TapId) : (s.setLink m l).tap t' = s.tap t' := rfl
@[simp] theorem State.cond_setLink (s : State) (m : SiteId) (l : Link) (n' : SiteId) : (s.setLink m l).cond n' = s.cond n' := rfl
@[simp] theorem State.site_setLink (s : State) (m : SiteId) (l : Link) (n' : SiteId) : (s.setLink m l).site n' = s.site n' := rfl
@[simp] theorem State.swingOf_setLink (s : State) (m : SiteId) (l : Link) (d' : Fin 8) : (s.setLink m l).swingOf d' = s.swingOf d' := rfl
@[simp] theorem State.entry_setLink (s : State) (m : SiteId) (l : Link) (r' : EntryRef) : (s.setLink m l).entry r' = s.entry r' := by cases r' <;> rfl

/-! ### setTap -/

@[simp] theorem State.setTap_inReset (s : State) (t : TapId) (x : Tap) : (s.setTap t x).inReset = s.inReset := rfl
@[simp] theorem State.setTap_tick (s : State) (t : TapId) (x : Tap) : (s.setTap t x).tick = s.tick := rfl
@[simp] theorem State.setTap_straps (s : State) (t : TapId) (x : Tap) : (s.setTap t x).straps = s.straps := rfl
@[simp] theorem State.setTap_lastRead (s : State) (t : TapId) (x : Tap) : (s.setTap t x).lastRead = s.lastRead := rfl
@[simp] theorem State.setTap_latches (s : State) (t : TapId) (x : Tap) : (s.setTap t x).latches = s.latches := rfl
@[simp] theorem State.setTap_inFlight (s : State) (t : TapId) (x : Tap) : (s.setTap t x).inFlight = s.inFlight := rfl
@[simp] theorem State.setTap_suppressed (s : State) (t : TapId) (x : Tap) : (s.setTap t x).suppressed = s.suppressed := rfl
@[simp] theorem State.setTap_cmd (s : State) (t : TapId) (x : Tap) : (s.setTap t x).cmd = s.cmd := rfl
@[simp] theorem State.setTap_port (s : State) (t : TapId) (x : Tap) : (s.setTap t x).port = s.port := rfl
@[simp] theorem State.setTap_queue (s : State) (t : TapId) (x : Tap) : (s.setTap t x).queue = s.queue := rfl
@[simp] theorem State.setTap_walker (s : State) (t : TapId) (x : Tap) : (s.setTap t x).walker = s.walker := rfl
@[simp] theorem State.setTap_chans (s : State) (t : TapId) (x : Tap) : (s.setTap t x).chans = s.chans := rfl
@[simp] theorem State.setTap_maps (s : State) (t : TapId) (x : Tap) : (s.setTap t x).maps = s.maps := rfl
@[simp] theorem State.setTap_addCells (s : State) (t : TapId) (x : Tap) : (s.setTap t x).addCells = s.addCells := rfl
@[simp] theorem State.setTap_dropCells (s : State) (t : TapId) (x : Tap) : (s.setTap t x).dropCells = s.dropCells := rfl
@[simp] theorem State.setTap_waitList (s : State) (t : TapId) (x : Tap) : (s.setTap t x).waitList = s.waitList := rfl
@[simp] theorem State.setTap_slots (s : State) (t : TapId) (x : Tap) : (s.setTap t x).slots = s.slots := rfl
@[simp] theorem State.setTap_committed (s : State) (t : TapId) (x : Tap) : (s.setTap t x).committed = s.committed := rfl
@[simp] theorem State.setTap_passDue (s : State) (t : TapId) (x : Tap) : (s.setTap t x).passDue = s.passDue := rfl
@[simp] theorem State.setTap_links (s : State) (t : TapId) (x : Tap) : (s.setTap t x).links = s.links := rfl
@[simp] theorem State.setTap_scan (s : State) (t : TapId) (x : Tap) : (s.setTap t x).scan = s.scan := rfl
@[simp] theorem State.setTap_conds (s : State) (t : TapId) (x : Tap) : (s.setTap t x).conds = s.conds := rfl
@[simp] theorem State.setTap_sites (s : State) (t : TapId) (x : Tap) : (s.setTap t x).sites = s.sites := rfl
@[simp] theorem State.setTap_setup (s : State) (t : TapId) (x : Tap) : (s.setTap t x).setup = s.setup := rfl
@[simp] theorem State.setTap_journal (s : State) (t : TapId) (x : Tap) : (s.setTap t x).journal = s.journal := rfl
@[simp] theorem State.setTap_attn (s : State) (t : TapId) (x : Tap) : (s.setTap t x).attn = s.attn := rfl
@[simp] theorem State.setTap_mem (s : State) (t : TapId) (x : Tap) : (s.setTap t x).mem = s.mem := rfl
@[simp] theorem State.setTap_freeIndex (s : State) (t : TapId) (x : Tap) : (s.setTap t x).freeIndex = s.freeIndex := rfl
@[simp] theorem State.setTap_pending (s : State) (t : TapId) (x : Tap) : (s.setTap t x).pending = s.pending := rfl
@[simp] theorem State.chan_setTap (s : State) (t : TapId) (x : Tap) (h' : Handle) : (s.setTap t x).chan h' = s.chan h' := rfl
@[simp] theorem State.slot_setTap (s : State) (t : TapId) (x : Tap) (k' : SlotId) : (s.setTap t x).slot k' = s.slot k' := rfl
@[simp] theorem State.link_setTap (s : State) (t : TapId) (x : Tap) (m' : SiteId) : (s.setTap t x).link m' = s.link m' := rfl
@[simp] theorem State.cond_setTap (s : State) (t : TapId) (x : Tap) (n' : SiteId) : (s.setTap t x).cond n' = s.cond n' := rfl
@[simp] theorem State.site_setTap (s : State) (t : TapId) (x : Tap) (n' : SiteId) : (s.setTap t x).site n' = s.site n' := rfl
@[simp] theorem State.swingOf_setTap (s : State) (t : TapId) (x : Tap) (d' : Fin 8) : (s.setTap t x).swingOf d' = s.swingOf d' := rfl
@[simp] theorem State.entry_setTap (s : State) (t : TapId) (x : Tap) (r' : EntryRef) : (s.setTap t x).entry r' = s.entry r' := by cases r' <;> rfl

/-! ### setCond -/

@[simp] theorem State.setCond_inReset (s : State) (n : SiteId) (c : CondRec) : (s.setCond n c).inReset = s.inReset := rfl
@[simp] theorem State.setCond_tick (s : State) (n : SiteId) (c : CondRec) : (s.setCond n c).tick = s.tick := rfl
@[simp] theorem State.setCond_straps (s : State) (n : SiteId) (c : CondRec) : (s.setCond n c).straps = s.straps := rfl
@[simp] theorem State.setCond_lastRead (s : State) (n : SiteId) (c : CondRec) : (s.setCond n c).lastRead = s.lastRead := rfl
@[simp] theorem State.setCond_latches (s : State) (n : SiteId) (c : CondRec) : (s.setCond n c).latches = s.latches := rfl
@[simp] theorem State.setCond_inFlight (s : State) (n : SiteId) (c : CondRec) : (s.setCond n c).inFlight = s.inFlight := rfl
@[simp] theorem State.setCond_suppressed (s : State) (n : SiteId) (c : CondRec) : (s.setCond n c).suppressed = s.suppressed := rfl
@[simp] theorem State.setCond_cmd (s : State) (n : SiteId) (c : CondRec) : (s.setCond n c).cmd = s.cmd := rfl
@[simp] theorem State.setCond_port (s : State) (n : SiteId) (c : CondRec) : (s.setCond n c).port = s.port := rfl
@[simp] theorem State.setCond_queue (s : State) (n : SiteId) (c : CondRec) : (s.setCond n c).queue = s.queue := rfl
@[simp] theorem State.setCond_walker (s : State) (n : SiteId) (c : CondRec) : (s.setCond n c).walker = s.walker := rfl
@[simp] theorem State.setCond_chans (s : State) (n : SiteId) (c : CondRec) : (s.setCond n c).chans = s.chans := rfl
@[simp] theorem State.setCond_maps (s : State) (n : SiteId) (c : CondRec) : (s.setCond n c).maps = s.maps := rfl
@[simp] theorem State.setCond_addCells (s : State) (n : SiteId) (c : CondRec) : (s.setCond n c).addCells = s.addCells := rfl
@[simp] theorem State.setCond_dropCells (s : State) (n : SiteId) (c : CondRec) : (s.setCond n c).dropCells = s.dropCells := rfl
@[simp] theorem State.setCond_waitList (s : State) (n : SiteId) (c : CondRec) : (s.setCond n c).waitList = s.waitList := rfl
@[simp] theorem State.setCond_slots (s : State) (n : SiteId) (c : CondRec) : (s.setCond n c).slots = s.slots := rfl
@[simp] theorem State.setCond_committed (s : State) (n : SiteId) (c : CondRec) : (s.setCond n c).committed = s.committed := rfl
@[simp] theorem State.setCond_passDue (s : State) (n : SiteId) (c : CondRec) : (s.setCond n c).passDue = s.passDue := rfl
@[simp] theorem State.setCond_links (s : State) (n : SiteId) (c : CondRec) : (s.setCond n c).links = s.links := rfl
@[simp] theorem State.setCond_scan (s : State) (n : SiteId) (c : CondRec) : (s.setCond n c).scan = s.scan := rfl
@[simp] theorem State.setCond_taps (s : State) (n : SiteId) (c : CondRec) : (s.setCond n c).taps = s.taps := rfl
@[simp] theorem State.setCond_sites (s : State) (n : SiteId) (c : CondRec) : (s.setCond n c).sites = s.sites := rfl
@[simp] theorem State.setCond_setup (s : State) (n : SiteId) (c : CondRec) : (s.setCond n c).setup = s.setup := rfl
@[simp] theorem State.setCond_journal (s : State) (n : SiteId) (c : CondRec) : (s.setCond n c).journal = s.journal := rfl
@[simp] theorem State.setCond_attn (s : State) (n : SiteId) (c : CondRec) : (s.setCond n c).attn = s.attn := rfl
@[simp] theorem State.setCond_mem (s : State) (n : SiteId) (c : CondRec) : (s.setCond n c).mem = s.mem := rfl
@[simp] theorem State.setCond_freeIndex (s : State) (n : SiteId) (c : CondRec) : (s.setCond n c).freeIndex = s.freeIndex := rfl
@[simp] theorem State.setCond_pending (s : State) (n : SiteId) (c : CondRec) : (s.setCond n c).pending = s.pending := rfl
@[simp] theorem State.chan_setCond (s : State) (n : SiteId) (c : CondRec) (h' : Handle) : (s.setCond n c).chan h' = s.chan h' := rfl
@[simp] theorem State.slot_setCond (s : State) (n : SiteId) (c : CondRec) (k' : SlotId) : (s.setCond n c).slot k' = s.slot k' := rfl
@[simp] theorem State.link_setCond (s : State) (n : SiteId) (c : CondRec) (m' : SiteId) : (s.setCond n c).link m' = s.link m' := rfl
@[simp] theorem State.tap_setCond (s : State) (n : SiteId) (c : CondRec) (t' : TapId) : (s.setCond n c).tap t' = s.tap t' := rfl
@[simp] theorem State.site_setCond (s : State) (n : SiteId) (c : CondRec) (n' : SiteId) : (s.setCond n c).site n' = s.site n' := rfl
@[simp] theorem State.swingOf_setCond (s : State) (n : SiteId) (c : CondRec) (d' : Fin 8) : (s.setCond n c).swingOf d' = s.swingOf d' := rfl
@[simp] theorem State.entry_setCond (s : State) (n : SiteId) (c : CondRec) (r' : EntryRef) : (s.setCond n c).entry r' = s.entry r' := by cases r' <;> rfl

/-! ### setSite -/

@[simp] theorem State.setSite_inReset (s : State) (n : SiteId) (x : Site) : (s.setSite n x).inReset = s.inReset := rfl
@[simp] theorem State.setSite_tick (s : State) (n : SiteId) (x : Site) : (s.setSite n x).tick = s.tick := rfl
@[simp] theorem State.setSite_straps (s : State) (n : SiteId) (x : Site) : (s.setSite n x).straps = s.straps := rfl
@[simp] theorem State.setSite_lastRead (s : State) (n : SiteId) (x : Site) : (s.setSite n x).lastRead = s.lastRead := rfl
@[simp] theorem State.setSite_latches (s : State) (n : SiteId) (x : Site) : (s.setSite n x).latches = s.latches := rfl
@[simp] theorem State.setSite_inFlight (s : State) (n : SiteId) (x : Site) : (s.setSite n x).inFlight = s.inFlight := rfl
@[simp] theorem State.setSite_suppressed (s : State) (n : SiteId) (x : Site) : (s.setSite n x).suppressed = s.suppressed := rfl
@[simp] theorem State.setSite_cmd (s : State) (n : SiteId) (x : Site) : (s.setSite n x).cmd = s.cmd := rfl
@[simp] theorem State.setSite_port (s : State) (n : SiteId) (x : Site) : (s.setSite n x).port = s.port := rfl
@[simp] theorem State.setSite_queue (s : State) (n : SiteId) (x : Site) : (s.setSite n x).queue = s.queue := rfl
@[simp] theorem State.setSite_walker (s : State) (n : SiteId) (x : Site) : (s.setSite n x).walker = s.walker := rfl
@[simp] theorem State.setSite_chans (s : State) (n : SiteId) (x : Site) : (s.setSite n x).chans = s.chans := rfl
@[simp] theorem State.setSite_maps (s : State) (n : SiteId) (x : Site) : (s.setSite n x).maps = s.maps := rfl
@[simp] theorem State.setSite_addCells (s : State) (n : SiteId) (x : Site) : (s.setSite n x).addCells = s.addCells := rfl
@[simp] theorem State.setSite_dropCells (s : State) (n : SiteId) (x : Site) : (s.setSite n x).dropCells = s.dropCells := rfl
@[simp] theorem State.setSite_waitList (s : State) (n : SiteId) (x : Site) : (s.setSite n x).waitList = s.waitList := rfl
@[simp] theorem State.setSite_slots (s : State) (n : SiteId) (x : Site) : (s.setSite n x).slots = s.slots := rfl
@[simp] theorem State.setSite_committed (s : State) (n : SiteId) (x : Site) : (s.setSite n x).committed = s.committed := rfl
@[simp] theorem State.setSite_passDue (s : State) (n : SiteId) (x : Site) : (s.setSite n x).passDue = s.passDue := rfl
@[simp] theorem State.setSite_links (s : State) (n : SiteId) (x : Site) : (s.setSite n x).links = s.links := rfl
@[simp] theorem State.setSite_scan (s : State) (n : SiteId) (x : Site) : (s.setSite n x).scan = s.scan := rfl
@[simp] theorem State.setSite_taps (s : State) (n : SiteId) (x : Site) : (s.setSite n x).taps = s.taps := rfl
@[simp] theorem State.setSite_conds (s : State) (n : SiteId) (x : Site) : (s.setSite n x).conds = s.conds := rfl
@[simp] theorem State.setSite_setup (s : State) (n : SiteId) (x : Site) : (s.setSite n x).setup = s.setup := rfl
@[simp] theorem State.setSite_journal (s : State) (n : SiteId) (x : Site) : (s.setSite n x).journal = s.journal := rfl
@[simp] theorem State.setSite_attn (s : State) (n : SiteId) (x : Site) : (s.setSite n x).attn = s.attn := rfl
@[simp] theorem State.setSite_mem (s : State) (n : SiteId) (x : Site) : (s.setSite n x).mem = s.mem := rfl
@[simp] theorem State.setSite_freeIndex (s : State) (n : SiteId) (x : Site) : (s.setSite n x).freeIndex = s.freeIndex := rfl
@[simp] theorem State.setSite_pending (s : State) (n : SiteId) (x : Site) : (s.setSite n x).pending = s.pending := rfl
@[simp] theorem State.chan_setSite (s : State) (n : SiteId) (x : Site) (h' : Handle) : (s.setSite n x).chan h' = s.chan h' := rfl
@[simp] theorem State.slot_setSite (s : State) (n : SiteId) (x : Site) (k' : SlotId) : (s.setSite n x).slot k' = s.slot k' := rfl
@[simp] theorem State.link_setSite (s : State) (n : SiteId) (x : Site) (m' : SiteId) : (s.setSite n x).link m' = s.link m' := rfl
@[simp] theorem State.tap_setSite (s : State) (n : SiteId) (x : Site) (t' : TapId) : (s.setSite n x).tap t' = s.tap t' := rfl
@[simp] theorem State.cond_setSite (s : State) (n : SiteId) (x : Site) (n' : SiteId) : (s.setSite n x).cond n' = s.cond n' := rfl
@[simp] theorem State.swingOf_setSite (s : State) (n : SiteId) (x : Site) (d' : Fin 8) : (s.setSite n x).swingOf d' = s.swingOf d' := rfl
@[simp] theorem State.entry_setSite (s : State) (n : SiteId) (x : Site) (r' : EntryRef) : (s.setSite n x).entry r' = s.entry r' := by cases r' <;> rfl

/-! ### setSwing -/

@[simp] theorem State.setSwing_inReset (s : State) (d : Fin 8) (w : Nat) : (s.setSwing d w).inReset = s.inReset := rfl
@[simp] theorem State.setSwing_tick (s : State) (d : Fin 8) (w : Nat) : (s.setSwing d w).tick = s.tick := rfl
@[simp] theorem State.setSwing_straps (s : State) (d : Fin 8) (w : Nat) : (s.setSwing d w).straps = s.straps := rfl
@[simp] theorem State.setSwing_lastRead (s : State) (d : Fin 8) (w : Nat) : (s.setSwing d w).lastRead = s.lastRead := rfl
@[simp] theorem State.setSwing_latches (s : State) (d : Fin 8) (w : Nat) : (s.setSwing d w).latches = s.latches := rfl
@[simp] theorem State.setSwing_inFlight (s : State) (d : Fin 8) (w : Nat) : (s.setSwing d w).inFlight = s.inFlight := rfl
@[simp] theorem State.setSwing_suppressed (s : State) (d : Fin 8) (w : Nat) : (s.setSwing d w).suppressed = s.suppressed := rfl
@[simp] theorem State.setSwing_cmd (s : State) (d : Fin 8) (w : Nat) : (s.setSwing d w).cmd = s.cmd := rfl
@[simp] theorem State.setSwing_port (s : State) (d : Fin 8) (w : Nat) : (s.setSwing d w).port = s.port := rfl
@[simp] theorem State.setSwing_queue (s : State) (d : Fin 8) (w : Nat) : (s.setSwing d w).queue = s.queue := rfl
@[simp] theorem State.setSwing_walker (s : State) (d : Fin 8) (w : Nat) : (s.setSwing d w).walker = s.walker := rfl
@[simp] theorem State.setSwing_chans (s : State) (d : Fin 8) (w : Nat) : (s.setSwing d w).chans = s.chans := rfl
@[simp] theorem State.setSwing_maps (s : State) (d : Fin 8) (w : Nat) : (s.setSwing d w).maps = s.maps := rfl
@[simp] theorem State.setSwing_addCells (s : State) (d : Fin 8) (w : Nat) : (s.setSwing d w).addCells = s.addCells := rfl
@[simp] theorem State.setSwing_dropCells (s : State) (d : Fin 8) (w : Nat) : (s.setSwing d w).dropCells = s.dropCells := rfl
@[simp] theorem State.setSwing_waitList (s : State) (d : Fin 8) (w : Nat) : (s.setSwing d w).waitList = s.waitList := rfl
@[simp] theorem State.setSwing_slots (s : State) (d : Fin 8) (w : Nat) : (s.setSwing d w).slots = s.slots := rfl
@[simp] theorem State.setSwing_passDue (s : State) (d : Fin 8) (w : Nat) : (s.setSwing d w).passDue = s.passDue := rfl
@[simp] theorem State.setSwing_links (s : State) (d : Fin 8) (w : Nat) : (s.setSwing d w).links = s.links := rfl
@[simp] theorem State.setSwing_scan (s : State) (d : Fin 8) (w : Nat) : (s.setSwing d w).scan = s.scan := rfl
@[simp] theorem State.setSwing_taps (s : State) (d : Fin 8) (w : Nat) : (s.setSwing d w).taps = s.taps := rfl
@[simp] theorem State.setSwing_conds (s : State) (d : Fin 8) (w : Nat) : (s.setSwing d w).conds = s.conds := rfl
@[simp] theorem State.setSwing_sites (s : State) (d : Fin 8) (w : Nat) : (s.setSwing d w).sites = s.sites := rfl
@[simp] theorem State.setSwing_setup (s : State) (d : Fin 8) (w : Nat) : (s.setSwing d w).setup = s.setup := rfl
@[simp] theorem State.setSwing_journal (s : State) (d : Fin 8) (w : Nat) : (s.setSwing d w).journal = s.journal := rfl
@[simp] theorem State.setSwing_attn (s : State) (d : Fin 8) (w : Nat) : (s.setSwing d w).attn = s.attn := rfl
@[simp] theorem State.setSwing_mem (s : State) (d : Fin 8) (w : Nat) : (s.setSwing d w).mem = s.mem := rfl
@[simp] theorem State.setSwing_freeIndex (s : State) (d : Fin 8) (w : Nat) : (s.setSwing d w).freeIndex = s.freeIndex := rfl
@[simp] theorem State.setSwing_pending (s : State) (d : Fin 8) (w : Nat) : (s.setSwing d w).pending = s.pending := rfl
@[simp] theorem State.chan_setSwing (s : State) (d : Fin 8) (w : Nat) (h' : Handle) : (s.setSwing d w).chan h' = s.chan h' := rfl
@[simp] theorem State.slot_setSwing (s : State) (d : Fin 8) (w : Nat) (k' : SlotId) : (s.setSwing d w).slot k' = s.slot k' := rfl
@[simp] theorem State.link_setSwing (s : State) (d : Fin 8) (w : Nat) (m' : SiteId) : (s.setSwing d w).link m' = s.link m' := rfl
@[simp] theorem State.tap_setSwing (s : State) (d : Fin 8) (w : Nat) (t' : TapId) : (s.setSwing d w).tap t' = s.tap t' := rfl
@[simp] theorem State.cond_setSwing (s : State) (d : Fin 8) (w : Nat) (n' : SiteId) : (s.setSwing d w).cond n' = s.cond n' := rfl
@[simp] theorem State.site_setSwing (s : State) (d : Fin 8) (w : Nat) (n' : SiteId) : (s.setSwing d w).site n' = s.site n' := rfl
@[simp] theorem State.entry_setSwing (s : State) (d : Fin 8) (w : Nat) (r' : EntryRef) : (s.setSwing d w).entry r' = s.entry r' := by cases r' <;> rfl

/-! ### setEntry -/

@[simp] theorem State.setEntry_inReset (s : State) (r : EntryRef) (e : Entry) : (s.setEntry r e).inReset = s.inReset := by cases r <;> rfl
@[simp] theorem State.setEntry_tick (s : State) (r : EntryRef) (e : Entry) : (s.setEntry r e).tick = s.tick := by cases r <;> rfl
@[simp] theorem State.setEntry_straps (s : State) (r : EntryRef) (e : Entry) : (s.setEntry r e).straps = s.straps := by cases r <;> rfl
@[simp] theorem State.setEntry_lastRead (s : State) (r : EntryRef) (e : Entry) : (s.setEntry r e).lastRead = s.lastRead := by cases r <;> rfl
@[simp] theorem State.setEntry_latches (s : State) (r : EntryRef) (e : Entry) : (s.setEntry r e).latches = s.latches := by cases r <;> rfl
@[simp] theorem State.setEntry_inFlight (s : State) (r : EntryRef) (e : Entry) : (s.setEntry r e).inFlight = s.inFlight := by cases r <;> rfl
@[simp] theorem State.setEntry_suppressed (s : State) (r : EntryRef) (e : Entry) : (s.setEntry r e).suppressed = s.suppressed := by cases r <;> rfl
@[simp] theorem State.setEntry_cmd (s : State) (r : EntryRef) (e : Entry) : (s.setEntry r e).cmd = s.cmd := by cases r <;> rfl
@[simp] theorem State.setEntry_port (s : State) (r : EntryRef) (e : Entry) : (s.setEntry r e).port = s.port := by cases r <;> rfl
@[simp] theorem State.setEntry_queue (s : State) (r : EntryRef) (e : Entry) : (s.setEntry r e).queue = s.queue := by cases r <;> rfl
@[simp] theorem State.setEntry_walker (s : State) (r : EntryRef) (e : Entry) : (s.setEntry r e).walker = s.walker := by cases r <;> rfl
@[simp] theorem State.setEntry_chans (s : State) (r : EntryRef) (e : Entry) : (s.setEntry r e).chans = s.chans := by cases r <;> rfl
@[simp] theorem State.setEntry_waitList (s : State) (r : EntryRef) (e : Entry) : (s.setEntry r e).waitList = s.waitList := by cases r <;> rfl
@[simp] theorem State.setEntry_slots (s : State) (r : EntryRef) (e : Entry) : (s.setEntry r e).slots = s.slots := by cases r <;> rfl
@[simp] theorem State.setEntry_committed (s : State) (r : EntryRef) (e : Entry) : (s.setEntry r e).committed = s.committed := by cases r <;> rfl
@[simp] theorem State.setEntry_passDue (s : State) (r : EntryRef) (e : Entry) : (s.setEntry r e).passDue = s.passDue := by cases r <;> rfl
@[simp] theorem State.setEntry_links (s : State) (r : EntryRef) (e : Entry) : (s.setEntry r e).links = s.links := by cases r <;> rfl
@[simp] theorem State.setEntry_scan (s : State) (r : EntryRef) (e : Entry) : (s.setEntry r e).scan = s.scan := by cases r <;> rfl
@[simp] theorem State.setEntry_taps (s : State) (r : EntryRef) (e : Entry) : (s.setEntry r e).taps = s.taps := by cases r <;> rfl
@[simp] theorem State.setEntry_conds (s : State) (r : EntryRef) (e : Entry) : (s.setEntry r e).conds = s.conds := by cases r <;> rfl
@[simp] theorem State.setEntry_sites (s : State) (r : EntryRef) (e : Entry) : (s.setEntry r e).sites = s.sites := by cases r <;> rfl
@[simp] theorem State.setEntry_setup (s : State) (r : EntryRef) (e : Entry) : (s.setEntry r e).setup = s.setup := by cases r <;> rfl
@[simp] theorem State.setEntry_journal (s : State) (r : EntryRef) (e : Entry) : (s.setEntry r e).journal = s.journal := by cases r <;> rfl
@[simp] theorem State.setEntry_attn (s : State) (r : EntryRef) (e : Entry) : (s.setEntry r e).attn = s.attn := by cases r <;> rfl
@[simp] theorem State.setEntry_mem (s : State) (r : EntryRef) (e : Entry) : (s.setEntry r e).mem = s.mem := by cases r <;> rfl
@[simp] theorem State.setEntry_freeIndex (s : State) (r : EntryRef) (e : Entry) : (s.setEntry r e).freeIndex = s.freeIndex := by cases r <;> rfl
@[simp] theorem State.setEntry_pending (s : State) (r : EntryRef) (e : Entry) : (s.setEntry r e).pending = s.pending := by cases r <;> rfl
@[simp] theorem State.chan_setEntry (s : State) (r : EntryRef) (e : Entry) (h' : Handle) : (s.setEntry r e).chan h' = s.chan h' := by cases r <;> rfl
@[simp] theorem State.slot_setEntry (s : State) (r : EntryRef) (e : Entry) (k' : SlotId) : (s.setEntry r e).slot k' = s.slot k' := by cases r <;> rfl
@[simp] theorem State.link_setEntry (s : State) (r : EntryRef) (e : Entry) (m' : SiteId) : (s.setEntry r e).link m' = s.link m' := by cases r <;> rfl
@[simp] theorem State.tap_setEntry (s : State) (r : EntryRef) (e : Entry) (t' : TapId) : (s.setEntry r e).tap t' = s.tap t' := by cases r <;> rfl
@[simp] theorem State.cond_setEntry (s : State) (r : EntryRef) (e : Entry) (n' : SiteId) : (s.setEntry r e).cond n' = s.cond n' := by cases r <;> rfl
@[simp] theorem State.site_setEntry (s : State) (r : EntryRef) (e : Entry) (n' : SiteId) : (s.setEntry r e).site n' = s.site n' := by cases r <;> rfl
@[simp] theorem State.swingOf_setEntry (s : State) (r : EntryRef) (e : Entry) (d' : Fin 8) : (s.setEntry r e).swingOf d' = s.swingOf d' := by cases r <;> rfl

/-! ### due -/

@[simp] theorem State.due_inReset (s : State) (b : Bool) : (s.due b).inReset = s.inReset := rfl
@[simp] theorem State.due_tick (s : State) (b : Bool) : (s.due b).tick = s.tick := rfl
@[simp] theorem State.due_straps (s : State) (b : Bool) : (s.due b).straps = s.straps := rfl
@[simp] theorem State.due_lastRead (s : State) (b : Bool) : (s.due b).lastRead = s.lastRead := rfl
@[simp] theorem State.due_latches (s : State) (b : Bool) : (s.due b).latches = s.latches := rfl
@[simp] theorem State.due_inFlight (s : State) (b : Bool) : (s.due b).inFlight = s.inFlight := rfl
@[simp] theorem State.due_suppressed (s : State) (b : Bool) : (s.due b).suppressed = s.suppressed := rfl
@[simp] theorem State.due_cmd (s : State) (b : Bool) : (s.due b).cmd = s.cmd := rfl
@[simp] theorem State.due_port (s : State) (b : Bool) : (s.due b).port = s.port := rfl
@[simp] theorem State.due_queue (s : State) (b : Bool) : (s.due b).queue = s.queue := rfl
@[simp] theorem State.due_walker (s : State) (b : Bool) : (s.due b).walker = s.walker := rfl
@[simp] theorem State.due_chans (s : State) (b : Bool) : (s.due b).chans = s.chans := rfl
@[simp] theorem State.due_maps (s : State) (b : Bool) : (s.due b).maps = s.maps := rfl
@[simp] theorem State.due_addCells (s : State) (b : Bool) : (s.due b).addCells = s.addCells := rfl
@[simp] theorem State.due_dropCells (s : State) (b : Bool) : (s.due b).dropCells = s.dropCells := rfl
@[simp] theorem State.due_waitList (s : State) (b : Bool) : (s.due b).waitList = s.waitList := rfl
@[simp] theorem State.due_slots (s : State) (b : Bool) : (s.due b).slots = s.slots := rfl
@[simp] theorem State.due_committed (s : State) (b : Bool) : (s.due b).committed = s.committed := rfl
@[simp] theorem State.due_links (s : State) (b : Bool) : (s.due b).links = s.links := rfl
@[simp] theorem State.due_scan (s : State) (b : Bool) : (s.due b).scan = s.scan := rfl
@[simp] theorem State.due_taps (s : State) (b : Bool) : (s.due b).taps = s.taps := rfl
@[simp] theorem State.due_conds (s : State) (b : Bool) : (s.due b).conds = s.conds := rfl
@[simp] theorem State.due_sites (s : State) (b : Bool) : (s.due b).sites = s.sites := rfl
@[simp] theorem State.due_setup (s : State) (b : Bool) : (s.due b).setup = s.setup := rfl
@[simp] theorem State.due_journal (s : State) (b : Bool) : (s.due b).journal = s.journal := rfl
@[simp] theorem State.due_attn (s : State) (b : Bool) : (s.due b).attn = s.attn := rfl
@[simp] theorem State.due_mem (s : State) (b : Bool) : (s.due b).mem = s.mem := rfl
@[simp] theorem State.due_freeIndex (s : State) (b : Bool) : (s.due b).freeIndex = s.freeIndex := rfl
@[simp] theorem State.due_pending (s : State) (b : Bool) : (s.due b).pending = s.pending := rfl
@[simp] theorem State.chan_due (s : State) (b : Bool) (h' : Handle) : (s.due b).chan h' = s.chan h' := rfl
@[simp] theorem State.slot_due (s : State) (b : Bool) (k' : SlotId) : (s.due b).slot k' = s.slot k' := rfl
@[simp] theorem State.link_due (s : State) (b : Bool) (m' : SiteId) : (s.due b).link m' = s.link m' := rfl
@[simp] theorem State.tap_due (s : State) (b : Bool) (t' : TapId) : (s.due b).tap t' = s.tap t' := rfl
@[simp] theorem State.cond_due (s : State) (b : Bool) (n' : SiteId) : (s.due b).cond n' = s.cond n' := rfl
@[simp] theorem State.site_due (s : State) (b : Bool) (n' : SiteId) : (s.due b).site n' = s.site n' := rfl
@[simp] theorem State.swingOf_due (s : State) (b : Bool) (d' : Fin 8) : (s.due b).swingOf d' = s.swingOf d' := rfl
@[simp] theorem State.entry_due (s : State) (b : Bool) (r' : EntryRef) : (s.due b).entry r' = s.entry r' := by cases r' <;> rfl

/-! ### A table reads what was written, and elsewhere what it read before -/

@[simp] theorem State.chan_setChan_self (s : State) (h : Handle) (c : Channel) : (s.setChan h c).chan h = c := by
  simp [State.chan, State.setChan, Vector.get_eq_getElem]
theorem State.chan_setChan_of_ne (s : State) (h : Handle) (c : Channel) {j : Handle} (hj : j ≠ h) : (s.setChan h c).chan j = s.chan j := by
  have hv : h.val ≠ j.val := fun h => hj (Fin.ext h.symm)
  simp [State.chan, State.setChan, Vector.get_eq_getElem, hv]
theorem State.chan_setChan (s : State) (h : Handle) (c : Channel) (j : Handle) : (s.setChan h c).chan j = if j = h then c else s.chan j := by
  split
  · rename_i hj; subst hj; simp
  · rename_i hj; exact State.chan_setChan_of_ne s h c hj
@[simp] theorem State.slot_setSlot_self (s : State) (k : SlotId) (x : Option Slot) : (s.setSlot k x).slot k = x := by
  simp [State.slot, State.setSlot, Vector.get_eq_getElem]
theorem State.slot_setSlot_of_ne (s : State) (k : SlotId) (x : Option Slot) {j : SlotId} (hj : j ≠ k) : (s.setSlot k x).slot j = s.slot j := by
  have hv : k.val ≠ j.val := fun h => hj (Fin.ext h.symm)
  simp [State.slot, State.setSlot, Vector.get_eq_getElem, hv]
theorem State.slot_setSlot (s : State) (k : SlotId) (x : Option Slot) (j : SlotId) : (s.setSlot k x).slot j = if j = k then x else s.slot j := by
  split
  · rename_i hj; subst hj; simp
  · rename_i hj; exact State.slot_setSlot_of_ne s k x hj
@[simp] theorem State.link_setLink_self (s : State) (m : SiteId) (l : Link) : (s.setLink m l).link m = l := by
  simp [State.link, State.setLink, Vector.get_eq_getElem]
theorem State.link_setLink_of_ne (s : State) (m : SiteId) (l : Link) {j : SiteId} (hj : j ≠ m) : (s.setLink m l).link j = s.link j := by
  have hv : m.val ≠ j.val := fun h => hj (Fin.ext h.symm)
  simp [State.link, State.setLink, Vector.get_eq_getElem, hv]
theorem State.link_setLink (s : State) (m : SiteId) (l : Link) (j : SiteId) : (s.setLink m l).link j = if j = m then l else s.link j := by
  split
  · rename_i hj; subst hj; simp
  · rename_i hj; exact State.link_setLink_of_ne s m l hj
@[simp] theorem State.tap_setTap_self (s : State) (t : TapId) (x : Tap) : (s.setTap t x).tap t = x := by
  simp [State.tap, State.setTap, Vector.get_eq_getElem]
theorem State.tap_setTap_of_ne (s : State) (t : TapId) (x : Tap) {j : TapId} (hj : j ≠ t) : (s.setTap t x).tap j = s.tap j := by
  have hv : t.val ≠ j.val := fun h => hj (Fin.ext h.symm)
  simp [State.tap, State.setTap, Vector.get_eq_getElem, hv]
theorem State.tap_setTap (s : State) (t : TapId) (x : Tap) (j : TapId) : (s.setTap t x).tap j = if j = t then x else s.tap j := by
  split
  · rename_i hj; subst hj; simp
  · rename_i hj; exact State.tap_setTap_of_ne s t x hj
@[simp] theorem State.cond_setCond_self (s : State) (n : SiteId) (c : CondRec) : (s.setCond n c).cond n = c := by
  simp [State.cond, State.setCond, Vector.get_eq_getElem]
theorem State.cond_setCond_of_ne (s : State) (n : SiteId) (c : CondRec) {j : SiteId} (hj : j ≠ n) : (s.setCond n c).cond j = s.cond j := by
  have hv : n.val ≠ j.val := fun h => hj (Fin.ext h.symm)
  simp [State.cond, State.setCond, Vector.get_eq_getElem, hv]
theorem State.cond_setCond (s : State) (n : SiteId) (c : CondRec) (j : SiteId) : (s.setCond n c).cond j = if j = n then c else s.cond j := by
  split
  · rename_i hj; subst hj; simp
  · rename_i hj; exact State.cond_setCond_of_ne s n c hj
@[simp] theorem State.site_setSite_self (s : State) (n : SiteId) (x : Site) : (s.setSite n x).site n = x := by
  simp [State.site, State.setSite, Vector.get_eq_getElem]
theorem State.site_setSite_of_ne (s : State) (n : SiteId) (x : Site) {j : SiteId} (hj : j ≠ n) : (s.setSite n x).site j = s.site j := by
  have hv : n.val ≠ j.val := fun h => hj (Fin.ext h.symm)
  simp [State.site, State.setSite, Vector.get_eq_getElem, hv]
theorem State.site_setSite (s : State) (n : SiteId) (x : Site) (j : SiteId) : (s.setSite n x).site j = if j = n then x else s.site j := by
  split
  · rename_i hj; subst hj; simp
  · rename_i hj; exact State.site_setSite_of_ne s n x hj
@[simp] theorem State.swingOf_setSwing_self (s : State) (d : Fin 8) (w : Nat) : (s.setSwing d w).swingOf d = w := by
  simp [State.swingOf, State.setSwing, Vector.get_eq_getElem]
theorem State.swingOf_setSwing_of_ne (s : State) (d : Fin 8) (w : Nat) {j : Fin 8} (hj : j ≠ d) : (s.setSwing d w).swingOf j = s.swingOf j := by
  have hv : d.val ≠ j.val := fun h => hj (Fin.ext h.symm)
  simp [State.swingOf, State.setSwing, Vector.get_eq_getElem, hv]
theorem State.swingOf_setSwing (s : State) (d : Fin 8) (w : Nat) (j : Fin 8) : (s.setSwing d w).swingOf j = if j = d then w else s.swingOf j := by
  split
  · rename_i hj; subst hj; simp
  · rename_i hj; exact State.swingOf_setSwing_of_ne s d w hj

@[simp] theorem State.due_false (s : State) : s.due false = s := by simp [State.due]
@[simp] theorem State.due_passDue (s : State) (b : Bool) : (s.due b).passDue = (s.passDue || b) := rfl

@[simp] theorem State.entry_setEntry_self (s : State) (r : EntryRef) (e : Entry) : (s.setEntry r e).entry r = e := by
  cases r <;> simp [State.entry, State.setEntry, Vector.get_eq_getElem]

theorem State.entry_setEntry_of_ne (s : State) (r : EntryRef) (e : Entry) {q : EntryRef} (hq : q ≠ r) :
    (s.setEntry r e).entry q = s.entry q := by
  cases r <;> cases q <;> simp only [State.entry, State.setEntry, Vector.get_eq_getElem, Vector.getElem_set]
  all_goals
    split
    · rename_i h
      simp only [h, Vector.getElem_set]
      split
      · rename_i h2
        exact absurd (by simp [Fin.ext_iff, h, h2]) hq
      · rfl
    · rfl

theorem State.entry_setEntry (s : State) (r : EntryRef) (e : Entry) (q : EntryRef) :
    (s.setEntry r e).entry q = if q = r then e else s.entry q := by
  split
  · rename_i h; subst h; simp
  · rename_i h; exact State.entry_setEntry_of_ne s r e h

end Sys2Proof.Machine
end

