-- ==== Sys2Proof/Laws/LinkFrame.lean ====
section
/-!
SUPPORT. What the operations of the Switch Link and the Ramp Unit can change: the slots and the links, and for the end of a slot the
committed swings and the pass due, and nothing else. One lemma an operation.
-/

namespace Sys2Proof.Machine

open Sys2Proof

/-- Two states differ at most in their slots and links. -/
def SameButLinks (s t : State) : Prop := t = { s with slots := t.slots, links := t.links }

/-- Two states differ at most in their slots, links, committed swings and the pass due. -/
def SameButMotion (s t : State) : Prop :=
  t = { s with slots := t.slots, links := t.links, committed := t.committed, passDue := t.passDue }

theorem SameButLinks.refl (s : State) : SameButLinks s s := rfl

theorem SameButLinks.trans {s t u : State} (h : SameButLinks s t) (g : SameButLinks t u) : SameButLinks s u := by
  unfold SameButLinks at *
  rw [g, h]

theorem SameButMotion.refl (s : State) : SameButMotion s s := rfl

theorem SameButMotion.trans {s t u : State} (h : SameButMotion s t) (g : SameButMotion t u) : SameButMotion s u := by
  unfold SameButMotion at *
  rw [g, h]

theorem SameButLinks.motion {s t : State} (h : SameButLinks s t) : SameButMotion s t := by
  unfold SameButLinks at h
  unfold SameButMotion
  rw [h]

theorem setLink_only (s : State) (m : SiteId) (l : Link) : SameButLinks s (s.setLink m l) := rfl
theorem setSlot_only (s : State) (k : SlotId) (x : Option Slot) : SameButLinks s (s.setSlot k x) := rfl
theorem setSwing_only (s : State) (d : Fin 8) (w : Nat) : SameButMotion s (s.setSwing d w) := rfl
theorem due_only (s : State) (b : Bool) : SameButMotion s (s.due b) := rfl

theorem transmit_only (s : State) (m : SiteId) (first count : Nat) (input : InputSel) (port : Option (Fin 12))
    (setting : Setting) (cls : MsgClass) (bind : Binding) :
    SameButLinks s (s.transmit m first count input port setting cls bind) := rfl

theorem sendNext_only (s : State) (m : SiteId) : SameButLinks s (s.sendNext m) := by
  unfold State.sendNext
  dsimp only
  split
  · exact rfl
  · split
    · exact rfl
    · split <;> exact rfl
    · exact rfl

theorem kick_only (s : State) (m : SiteId) : SameButLinks s (s.kick m) := by
  unfold State.kick
  split
  · exact rfl
  · exact sendNext_only s m

theorem placeRamp_only (s : State) (k : SlotId) : SameButLinks s (s.placeRamp k) := by
  unfold State.placeRamp
  split
  · exact rfl
  · exact ((setLink_only s _ _).trans (setSlot_only _ _ _)).trans (kick_only _ _)

theorem withdrawRamp_only (s : State) (m : SiteId) (k : SlotId) : SameButLinks s (s.withdrawRamp m k) := rfl
theorem detachRamp_only (s : State) (m : SiteId) (k : SlotId) : SameButLinks s (s.detachRamp m k) := rfl
theorem withdrawLevel_only (s : State) (m : SiteId) (h : Handle) : SameButLinks s (s.withdrawLevel m h) := rfl
theorem detachLevel_only (s : State) (m : SiteId) (h : Handle) : SameButLinks s (s.detachLevel m h) := rfl
theorem dropLevel_only (s : State) (m : SiteId) (h : Handle) : SameButLinks s (s.dropLevel m h) := rfl
theorem unbindShutters_only (s : State) (m : SiteId) (h : Handle) : SameButLinks s (s.unbindShutters m h) := rfl

theorem stopSlot_only (s : State) (k : SlotId) : SameButLinks s (s.stopSlot k) := by
  unfold State.stopSlot
  split
  · exact rfl
  · split <;> exact rfl

theorem restartSlot_only (s : State) (k : SlotId) : SameButLinks s (s.restartSlot k) := by
  unfold State.restartSlot
  split
  · exact rfl
  · split
    · exact placeRamp_only s k
    · exact rfl

theorem leaveSent_only (s : State) (k : SlotId) : SameButLinks s (s.leaveSent k) := by
  unfold State.leaveSent
  split
  · exact rfl
  · split
    · exact rfl
    · split
      · exact placeRamp_only s k
      · exact rfl

theorem placeLevel_only (s : State) (m : SiteId) (h : Handle) (a : Nat) : SameButLinks s (s.placeLevel m h a) := by
  unfold State.placeLevel
  dsimp only
  split
  · exact rfl
  · split
    · exact (setLink_only s _ _).trans (kick_only _ _)
    · exact rfl

theorem addShutter_only {s t : State} {m : SiteId} {e : ShutterEntry} (h : s.addShutter m e = some t) :
    SameButLinks s t := by
  unfold State.addShutter at h
  dsimp only at h
  split at h
  · cases h; exact rfl
  · split at h
    · cases h; exact (setLink_only s _ _).trans (kick_only _ _)
    · cases h

theorem releaseSwing_only (s : State) (n : SiteId) (w : Nat) : SameButMotion s (s.releaseSwing n w) := by
  unfold State.releaseSwing
  split <;> exact rfl

theorem commit_only (s : State) (n : SiteId) (w : Nat) : SameButMotion s (s.commit n w) := by
  unfold State.commit
  split <;> exact rfl

/-- The end of a slot without completion touches slots, links, swings and the pass due, and nothing else. -/
theorem endSlot_only (s : State) (k : SlotId) : SameButMotion s (s.endSlot k) := by
  unfold State.endSlot
  split
  · exact rfl
  · rename_i t _
    refine SameButMotion.trans (SameButMotion.trans (SameButMotion.trans ?_ (releaseSwing_only _ _ _))
      (setSlot_only _ _ _).motion) (due_only _ _)
    split <;> exact rfl

/-- The recomputation of one slot's held flag touches slots and links alone. -/
theorem reholdSlot_only (sites : List SiteId) (s : State) (k : SlotId) : SameButLinks s (State.reholdSlot sites s k) := by
  unfold State.reholdSlot
  split
  · exact rfl
  · split
    · dsimp only
      split
      · exact rfl
      · split
        · exact (setSlot_only s _ _).trans (stopSlot_only _ _)
        · exact (setSlot_only s _ _).trans (restartSlot_only _ _)
    · exact rfl

theorem foldl_only {α : Type} {f : State → α → State} (hf : ∀ s a, SameButLinks s (f s a)) (l : List α) (s : State) :
    SameButLinks s (l.foldl f s) := by
  induction l generalizing s with
  | nil => exact rfl
  | cons a l ih => exact (hf s a).trans (ih _)

/-- The recomputation of the held flags touches slots and links alone. -/
theorem rehold_only (s : State) (sites : List SiteId) : SameButLinks s (s.rehold sites) :=
  foldl_only (reholdSlot_only sites) _ s

end Sys2Proof.Machine
end

