-- ==== Sys2Proof/Laws/Placing.lean ====
section
/-!
SUPPORT. What placing in the Posting Queue can do: the joining of an entry, the writing of records and the placing of an item, each
in one lemma; and that the queue's and the hand-over list's bounds are kept.
-/

namespace Sys2Proof.Machine

open Sys2Proof

/-! ### Joining the queue (R172, R173) -/

/-- Everything a joining can do: replace the entry of its address in place, or join the tail of a queue with room. -/
theorem joinQueue_cases {q q' : List Posting} {p : Posting} (h : joinQueue q p = some q') :
    ((∃ e ∈ q, e.addr = p.addr) ∧ q' = q.map fun e => if e.addr = p.addr then p else e) ∨
    ((∀ e ∈ q, e.addr ≠ p.addr) ∧ q.length < 32 ∧ q' = q ++ [p]) := by
  unfold joinQueue at h
  split at h
  · rename_i hany
    left
    refine ⟨?_, by simpa using h.symm⟩
    simpa using hany
  · rename_i hany
    split at h
    · rename_i hlen
      right
      refine ⟨by simpa using hany, hlen, by simpa using h.symm⟩
    · cases h

/-- A joining waits exactly when no entry has the address and the queue is full. -/
theorem joinQueue_none {q : List Posting} {p : Posting} :
    joinQueue q p = none ↔ (∀ e ∈ q, e.addr ≠ p.addr) ∧ 32 ≤ q.length := by
  unfold joinQueue
  split
  · rename_i hany
    simp only [reduceCtorEq, false_iff, not_and]
    intro hall
    simp only [List.any_eq_true, decide_eq_true_eq] at hany
    obtain ⟨e, he, ha⟩ := hany
    exact absurd ha (hall e he)
  · rename_i hany
    simp only [Bool.not_eq_true, List.any_eq_false, decide_eq_true_eq] at hany
    split
    · rename_i hlen
      simp only [reduceCtorEq, false_iff, not_and]
      intro _
      omega
    · rename_i hlen
      simp only [true_iff]
      exact ⟨fun e he => hany e he, by omega⟩

/-- A joining keeps the addresses of the entries that stand, and adds its own at most once. -/
theorem joinQueue_addrs {q q' : List Posting} {p : Posting} (h : joinQueue q p = some q') :
    q'.map Posting.addr = q.map Posting.addr ∨
    (q'.map Posting.addr = q.map Posting.addr ++ [p.addr] ∧ p.addr ∉ q.map Posting.addr ∧ q.length < 32) := by
  rcases joinQueue_cases h with ⟨_, rfl⟩ | ⟨hno, hlen, rfl⟩
  · left
    simp only [List.map_map]
    refine List.map_congr_left fun e _ => ?_
    simp only [Function.comp]
    split
    · rename_i he; exact he.symm
    · rfl
  · right
    refine ⟨by simp, ?_, hlen⟩
    intro hmem
    obtain ⟨e, he, ha⟩ := List.mem_map.mp hmem
    exact hno e he ha

/-- A joining keeps the queue at 32 entries or fewer, no two of one address (R172). -/
theorem joinQueue_keeps {q q' : List Posting} {p : Posting} (h : joinQueue q p = some q')
    (hq : q.length ≤ 32 ∧ (q.map Posting.addr).Nodup) : q'.length ≤ 32 ∧ (q'.map Posting.addr).Nodup := by
  rcases joinQueue_addrs h with ha | ⟨ha, hno, hlen⟩
  · have hl := congrArg List.length ha
    simp only [List.length_map] at hl
    exact ⟨by omega, ha ▸ hq.2⟩
  · have hl := congrArg List.length ha
    simp only [List.length_append, List.length_map, List.length_cons, List.length_nil] at hl
    refine ⟨by omega, ?_⟩
    rw [ha]
    exact hq.2.append (by simp) (by simpa using hno)

/-! ### Records and items (R183) -/

/-- Writing records touches the queue and the produced count, which rises by their number, and nothing else. -/
theorem writeRecords_only {s t : State} {l : List Record} (h : s.writeRecords l = some t) :
    t = { s with queue := t.queue, journal := { s.journal with produced := s.journal.produced + BitVec.ofNat 16 l.length } } := by
  induction l generalizing s with
  | nil =>
    simp only [State.writeRecords, Option.some.injEq] at h
    subst h
    simp
  | cons r l ih =>
    simp only [State.writeRecords] at h
    split at h
    · cases h
    · have := ih h
      rw [this]
      simp only [List.length_cons, State.mk.injEq, Journal.mk.injEq, true_and, and_true]
      rw [BitVec.add_assoc, BitVec.ofNat_add, BitVec.add_comm (BitVec.ofNat 16 l.length)]
      rfl

/-- Placing an item touches the queue, the produced count and the lost count, and nothing else. -/
theorem placeItem_only {s t : State} {i : Item} (h : s.placeItem i = some t) :
    t = { s with queue := t.queue,
                 journal := { s.journal with produced := t.journal.produced, lost := t.journal.lost } } := by
  unfold State.placeItem at h
  split at h
  · obtain ⟨q, _, rfl⟩ := Option.map_eq_some_iff.mp h
    rfl
  · unfold State.placeRecord at h
    split at h
    · cases h; rfl
    · split at h
      · rw [writeRecords_only h]
      · split at h
        · rw [writeRecords_only h]
        · rw [writeRecords_only h]

/-! ### The hand-over list (R184) -/

/-- Handing items over touches the hand-over list and the lost count, and nothing else. -/
theorem handOver_only (s : State) (items : List Item) :
    s.handOver items = { s with journal := { s.journal with handOver := (s.handOver items).journal.handOver,
                                                            lost := (s.handOver items).journal.lost } } := by
  unfold State.handOver
  induction items generalizing s with
  | nil => rfl
  | cons i items ih =>
    rw [List.foldl_cons, ih]
    unfold State.handOne
    split
    · rfl
    · split <;> rfl

/-- The hand-over list keeps at most 256 records (R184). -/
theorem handOver_count {s : State} {items : List Item} (h : recordCount s.journal.handOver ≤ 256) :
    recordCount (s.handOver items).journal.handOver ≤ 256 := by
  unfold State.handOver
  induction items generalizing s with
  | nil => exact h
  | cons i items ih =>
    rw [List.foldl_cons]
    refine ih ?_
    unfold State.handOne
    split
    · simpa [recordCount] using h
    · split
      · rename_i hlt
        simp only [recordCount, List.filter_append, List.length_append] at hlt ⊢
        simpa using hlt
      · exact h

/-! ### HANDOVER_PLACE (R175, R183, R184) -/

/-- Everything HANDOVER_PLACE can do: nothing, or the head is placed and leaves the list; while the walker waits, only an item that adds
no entry and is no word of a descriptor the walker holds. -/
theorem placeHandOver_cases (s : State) :
    s.placeHandOver = s ∨
    ∃ i rest t, s.journal.handOver = i :: rest ∧ s.placeItem i = some t ∧
      (s.walker.toPlace = [] ∨ t.queue.length ≤ s.queue.length ∧ s.walkerHolds i = false) ∧
      s.placeHandOver =
        { t with journal := { t.journal with handOver := rest } } := by
  unfold State.placeHandOver
  split
  · exact .inl rfl
  · rename_i i rest hl
    split
    · exact .inl rfl
    · rename_i t ht
      split
      · exact .inl rfl
      · rename_i hn
        simp only [not_and_or, not_or, not_lt, Bool.not_eq_true] at hn
        exact .inr ⟨i, rest, t, hl, ht, hn.imp_left not_not.1, rfl⟩

/-- HANDOVER_PLACE touches the queue and the journal's counts and list, and nothing else. -/
theorem placeHandOver_only (s : State) :
    s.placeHandOver = { s with queue := s.placeHandOver.queue,
                               journal := { s.placeHandOver.journal with consumer := s.journal.consumer } } := by
  rcases placeHandOver_cases s with h | ⟨i, rest, t, -, ht, -, h⟩
  · rw [h]
  · rw [h, placeItem_only ht]

/-- A head that waits makes HANDOVER_PLACE wait; else the list is shorter by its head. -/
theorem placeHandOver_list (s : State) :
    s.placeHandOver = s ∨ ∃ i, s.journal.handOver = i :: s.placeHandOver.journal.handOver := by
  rcases placeHandOver_cases s with h | ⟨i, rest, t, hl, -, -, h⟩
  · exact .inl h
  · exact .inr ⟨i, by rw [hl, h]⟩

/-! ### The Journal Writer's placing and the walker's (R175) -/

/-- What holds and survives each HANDOVER_PLACE holds after the Journal Writer has placed what it can. -/
theorem writerPlaces_induct {P : State → Prop} (hstep : ∀ t, P t → P t.placeHandOver) {s : State} (h : P s) : P s.writerPlaces := by
  unfold State.writerPlaces
  generalize s.journal.handOver = l
  induction l generalizing s with
  | nil => exact h
  | cons _ l ih => exact ih (hstep s h)

/-- A writer that waits stays as it is. -/
theorem writerPlaces_of_waits {s : State} (h : s.placeHandOver = s) : s.writerPlaces = s :=
  writerPlaces_induct (P := (· = s)) (fun _ ht => by rw [ht, h]) rfl

/-- The writer's placing begins with the head. -/
theorem writerPlaces_placeHandOver (s : State) : s.writerPlaces = s.placeHandOver.writerPlaces := by
  rcases placeHandOver_list s with h | ⟨i, h⟩
  · rw [h]
  · unfold State.writerPlaces
    rw [h, List.foldl_cons]

/-- A placing waits only where an entry is needed and fewer than two are free, and a word only at a full queue (R173, R183). -/
theorem placeItem_none {s : State} {i : Item} (h : s.placeItem i = none) :
    31 ≤ s.queue.length ∧ (∀ a w f, i = .word a w f → 32 ≤ s.queue.length) := by
  unfold State.placeItem at h
  split at h
  · have := (joinQueue_none.mp (Option.map_eq_none_iff.mp h)).2
    exact ⟨by omega, fun _ _ _ _ => this⟩
  · refine ⟨?_, fun _ _ _ he => by cases he⟩
    have one {s : State} {r : Record} (h : s.writeRecords [r] = none) : 32 ≤ s.queue.length := by
      simp only [State.writeRecords] at h
      split at h
      · rename_i hj
        exact (joinQueue_none.mp hj).2
      · cases h
    unfold State.placeRecord at h
    split at h
    · cases h
    · split at h
      · have := one h
        omega
      · split at h
        · have := one h
          simp only at this
          omega
        · unfold State.writeRecords at h
          split at h
          · rename_i hj
            have := (joinQueue_none.mp hj).2
            simp only at this
            omega
          · rename_i q hj
            have hq := one h
            rcases joinQueue_cases hj with ⟨_, rfl⟩ | ⟨_, _, rfl⟩
            · simp only [List.length_map] at hq
              omega
            · simp only [List.length_append, List.length_cons, List.length_nil] at hq
              omega

end Sys2Proof.Machine
end

