-- ==== Sys2Proof/Laws/ChannelFrame.lean ====
section
/-!
SUPPORT. What the operations over channel records do to the records: one lemma an operation, for every handle. The admission of a
transition, the removal of a transition, the return to FREE, the shutter placing, the append of an entry.
-/

namespace Sys2Proof.Machine

open Sys2Proof

theorem SameButLinks.chan {s t : State} (h : SameButLinks s t) (g : Handle) : t.chan g = s.chan g := by
  rw [h]; rfl

theorem SameButLinks.entry {s t : State} (h : SameButLinks s t) (r : EntryRef) : t.entry r = s.entry r := by
  rw [h]; cases r <;> rfl

theorem SameButMotion.chan {s t : State} (h : SameButMotion s t) (g : Handle) : t.chan g = s.chan g := by
  rw [h]; rfl

theorem SameButMotion.entry {s t : State} (h : SameButMotion s t) (r : EntryRef) : t.entry r = s.entry r := by
  rw [h]; cases r <;> rfl

@[simp] theorem chan_setEntry (s : State) (r : EntryRef) (e : Entry) (g : Handle) :
    (s.setEntry r e).chan g = s.chan g := by
  cases r <;> rfl

@[simp] theorem chan_handOver (s : State) (items : List Item) (g : Handle) :
    (s.handOver items).chan g = s.chan g := by
  rw [handOver_only]; rfl

@[simp] theorem chan_removeEntry (s : State) (h g : Handle) : (s.removeEntry h).chan g = s.chan g := by
  unfold State.removeEntry
  split <;> rfl

/-- The removal of a transition clears the record's reference, motion target and descriptor pointer, and no other record
changes. -/
theorem chan_dropTransition (s : State) (h g : Handle) :
    (s.dropTransition h).chan g =
      if g = h then { s.chan h with pending := none, motion := none, desc := none } else s.chan g := by
  have key : ∀ t : State, (∀ x, t.chan x = s.chan x) →
      (t.setChan h { t.chan h with pending := none, motion := none, desc := none }).chan g =
        if g = h then { s.chan h with pending := none, motion := none, desc := none } else s.chan g := by
    intro t ht
    rw [State.chan_setChan, ht, ht]
  unfold State.dropTransition
  refine key _ fun x => ?_
  split
  · rfl
  · exact chan_removeEntry s h x
  · exact (endSlot_only s _).chan x

theorem chan_foldl {α : Type} {f : State → α → State} (hf : ∀ s a g, (f s a).chan g = s.chan g) (l : List α) (s : State)
    (g : Handle) : (l.foldl f s).chan g = s.chan g := by
  induction l generalizing s with
  | nil => rfl
  | cons a l ih => rw [List.foldl_cons, ih, hf]

theorem chan_handOverEntry (h : Handle) (doomed : List Handle) (s : State) (r : EntryRef) (g : Handle) :
    (State.handOverEntry h doomed s r).chan g = s.chan g := by
  unfold State.handOverEntry
  dsimp only
  split
  · split
    · exact chan_setEntry _ _ _ g
    · exact chan_setEntry _ _ _ g
  · rfl

theorem chan_dropClaim (h : Handle) (s : State) (r : EntryRef) (g : Handle) :
    (State.dropClaim h s r).chan g = s.chan g := by
  unfold State.dropClaim
  dsimp only
  split
  · exact chan_setEntry _ _ _ g
  · rfl

/-- The return to FREE rewrites the channel's record and no other (R7, R17). -/
theorem chan_toFree (s : State) (h g : Handle) (doomed : List Handle) :
    (s.toFree h doomed).chan g = if g = h then {} else s.chan g := by
  unfold State.toFree
  dsimp only
  rw [State.chan_setChan]
  split
  · rfl
  · rename_i hg
    rw [(unbindShutters_only _ _ _).chan, (dropLevel_only _ _ _).chan, chan_foldl (chan_dropClaim h),
      chan_foldl (chan_handOverEntry h doomed), chan_dropTransition, if_neg hg]

theorem chan_riseBase (s : State) (n : SiteId) (c : Cond) (level : Level) (g : Handle) :
    (s.riseBase n c level).chan g = s.chan g := by
  unfold State.riseBase
  dsimp only
  rw [(rehold_only _ _).chan, chan_handOver]
  rfl

theorem chan_raiseModFault (s : State) (n : SiteId) (g : Handle) : (s.raiseModFault n).chan g = s.chan g := by
  unfold State.raiseModFault
  split
  · exact chan_riseBase s _ _ _ g
  · rfl

/-- The placing of a shutter entry can change the channel's record alone, to BLOCKED, and to UNCONFIRMED when there is no room
(R9, R118). -/
theorem chan_placeShutter (s : State) (h g : Handle) (bound : Bool) :
    (s.placeShutter h bound).chan g = s.chan g ∨
      (g = h ∧ ((s.placeShutter h bound).chan g = { s.chan h with applied := .blocked } ∨
        (s.placeShutter h bound).chan g = { s.chan h with applied := .blocked, unconfirmed := true })) := by
  unfold State.placeShutter
  dsimp only
  split
  · rename_i t ht
    have hc := (addShutter_only ht).chan
    split
    · rw [State.chan_setChan, hc, hc]
      split
      · rename_i hg; exact .inr ⟨hg, .inl rfl⟩
      · exact .inl rfl
    · exact .inl (hc g)
  · rw [chan_raiseModFault, State.chan_setChan]
    split
    · rename_i hg; exact .inr ⟨hg, .inr rfl⟩
    · exact .inl rfl

/-- The append of an entry makes it the channel's pending transition and changes no other record (R82). -/
theorem chan_append (s : State) (e : WaitEntry) (g : Handle) :
    (s.append e).chan g = if g = e.handle then { s.chan e.handle with pending := some .waiting } else s.chan g := by
  show (State.setChan _ _ _).chan g = _
  rw [State.chan_setChan]
  rfl

/-- Admission changes no record but the channel's (R91). -/
theorem chan_admit_of_ne (s : State) (e : WaitEntry) {g : Handle} (hg : g ≠ e.handle) :
    (s.admitEntry e).chan g = s.chan g := by
  unfold State.admitEntry
  split
  · rfl
  · dsimp only
    rw [(placeRamp_only _ _).chan, (dropLevel_only _ _ _).chan, State.chan_setChan, if_neg hg]
    exact (commit_only s _ _).chan g

/-- Reservation changes no channel record (R20). -/
theorem chan_reserve (s : State) (h : Handle) (fp : List EntryRef) (g : Handle) : (s.reserve h fp).chan g = s.chan g := by
  unfold State.reserve
  refine chan_foldl (fun s r g => ?_) fp s g
  unfold State.reserveOne
  dsimp only
  split
  · exact chan_setEntry _ _ _ g
  · exact chan_setEntry _ _ _ g
  · rfl

/-! ### The order in which held flags are recomputed (R79, R143) -/

/-- Every slot is recomputed once. -/
theorem slotsByHandle_perm (s : State) : s.slotsByHandle.Perm allSlots := List.perm_insertionSort _ _

/-- The slots stand in ascending order of their channels' handles. -/
theorem slotsByHandle_ascending (s : State) : s.slotsByHandle.Pairwise fun j k => s.slotHandle j ≤ s.slotHandle k := by
  have : Std.Total fun j k : SlotId => s.slotHandle j ≤ s.slotHandle k := ⟨fun _ _ => Nat.le_total _ _⟩
  have : IsTrans SlotId fun j k => s.slotHandle j ≤ s.slotHandle k := ⟨fun _ _ _ => Nat.le_trans⟩
  exact List.pairwise_insertionSort _ _

end Sys2Proof.Machine
end

