-- ==== Sys2Proof/Laws/EngineFrame.lean ====
section
/-!
SUPPORT. The frame of the transition engine: the operations on channels, maps, the Wait List, slots, links, conditions and the
hand-over list leave the rest of the part alone. One lemma an operation, stated on `State.outer`, the part outside the engine.
-/

namespace Sys2Proof.Machine

open Sys2Proof

/-- States with the same outer part agree on each of its fields. -/
theorem State.outer_eq_iff (s t : State) :
    s.outer = t.outer ↔
      (s.inReset = t.inReset ∧ s.tick = t.tick ∧ s.straps = t.straps ∧ s.lastRead = t.lastRead ∧
        s.latches = t.latches ∧ s.inFlight = t.inFlight ∧ s.suppressed = t.suppressed ∧ s.cmd = t.cmd ∧
        s.port = t.port ∧ s.queue = t.queue ∧ s.walker = t.walker ∧ s.scan = t.scan ∧ s.setup = t.setup ∧
        s.attn = t.attn ∧ s.mem = t.mem ∧ s.freeIndex = t.freeIndex ∧ s.pending = t.pending ∧
        s.journal.produced = t.journal.produced ∧ s.journal.consumer = t.journal.consumer) := by
  simp [State.outer]

/-- A fold of a step that keeps `p` keeps `p`. -/
theorem foldl_keeps {σ β γ : Type} (f : σ → β → σ) (p : σ → γ) (h : ∀ s b, p (f s b) = p s) (l : List β) (s : σ) :
    p (l.foldl f s) = p s := by
  induction l generalizing s with
  | nil => rfl
  | cons b l ih => rw [List.foldl_cons, ih, h]

/-! ### Table writes -/

@[simp] theorem State.outer_setChan (s : State) (h : Handle) (c : Channel) : (s.setChan h c).outer = s.outer := rfl
@[simp] theorem State.outer_setSlot (s : State) (k : SlotId) (x : Option Slot) : (s.setSlot k x).outer = s.outer := rfl
@[simp] theorem State.outer_setLink (s : State) (m : SiteId) (l : Link) : (s.setLink m l).outer = s.outer := rfl
@[simp] theorem State.outer_setTap (s : State) (t : TapId) (x : Tap) : (s.setTap t x).outer = s.outer := rfl
@[simp] theorem State.outer_setCond (s : State) (n : SiteId) (c : CondRec) : (s.setCond n c).outer = s.outer := rfl
@[simp] theorem State.outer_setSite (s : State) (n : SiteId) (x : Site) : (s.setSite n x).outer = s.outer := rfl
@[simp] theorem State.outer_setSwing (s : State) (d : Fin 8) (w : Nat) : (s.setSwing d w).outer = s.outer := rfl
@[simp] theorem State.outer_setEntry (s : State) (r : EntryRef) (e : Entry) : (s.setEntry r e).outer = s.outer := by
  cases r <;> rfl
@[simp] theorem State.outer_due (s : State) (b : Bool) : (s.due b).outer = s.outer := rfl
@[simp] theorem State.outer_waitList (s : State) (l : List WaitEntry) : { s with waitList := l }.outer = s.outer := rfl
@[simp] theorem State.outer_passDue (s : State) (b : Bool) : { s with passDue := b }.outer = s.outer := rfl

/-! ### Swings and hand-overs -/

@[simp] theorem State.outer_commit (s : State) (n : SiteId) (w : Nat) : (s.commit n w).outer = s.outer := by
  unfold State.commit; split <;> simp

@[simp] theorem State.outer_releaseSwing (s : State) (n : SiteId) (w : Nat) : (s.releaseSwing n w).outer = s.outer := by
  unfold State.releaseSwing; split <;> simp

@[simp] theorem State.outer_handOne (s : State) (i : Item) : (s.handOne i).outer = s.outer := by
  unfold State.handOne; split
  · rfl
  · split <;> rfl

@[simp] theorem State.outer_handOver (s : State) (l : List Item) : (s.handOver l).outer = s.outer :=
  foldl_keeps _ _ (fun s i => State.outer_handOne s i) l s

/-! ### The Switch Link and the Ramp Unit -/

@[simp] theorem State.outer_transmit (s : State) (m : SiteId) (a b : Nat) (i : InputSel) (p : Option (Fin 12)) (x : Setting)
    (c : MsgClass) (d : Binding) : (s.transmit m a b i p x c d).outer = s.outer := rfl

@[simp] theorem State.outer_sendNext (s : State) (m : SiteId) : (s.sendNext m).outer = s.outer := by
  unfold State.sendNext
  dsimp only
  split
  · simp
  · split
    · rfl
    · split <;> simp
    · simp

@[simp] theorem State.outer_kick (s : State) (m : SiteId) : (s.kick m).outer = s.outer := by
  unfold State.kick; split <;> simp

@[simp] theorem State.outer_placeRamp (s : State) (k : SlotId) : (s.placeRamp k).outer = s.outer := by
  unfold State.placeRamp; split <;> simp

@[simp] theorem State.outer_withdrawRamp (s : State) (m : SiteId) (k : SlotId) : (s.withdrawRamp m k).outer = s.outer := rfl
@[simp] theorem State.outer_detachRamp (s : State) (m : SiteId) (k : SlotId) : (s.detachRamp m k).outer = s.outer := rfl

@[simp] theorem State.outer_endSlot (s : State) (k : SlotId) : (s.endSlot k).outer = s.outer := by
  unfold State.endSlot
  split
  · rfl
  · dsimp only; split <;> simp

@[simp] theorem State.outer_stopSlot (s : State) (k : SlotId) : (s.stopSlot k).outer = s.outer := by
  unfold State.stopSlot
  split
  · rfl
  · split <;> simp

@[simp] theorem State.outer_restartSlot (s : State) (k : SlotId) : (s.restartSlot k).outer = s.outer := by
  unfold State.restartSlot
  split
  · rfl
  · split <;> simp

@[simp] theorem State.outer_leaveSent (s : State) (k : SlotId) : (s.leaveSent k).outer = s.outer := by
  unfold State.leaveSent
  split
  · rfl
  · split
    · simp
    · split <;> simp

@[simp] theorem State.outer_placeLevel (s : State) (m : SiteId) (h : Handle) (a : Nat) :
    (s.placeLevel m h a).outer = s.outer := by
  unfold State.placeLevel
  dsimp only
  split
  · simp
  · split <;> simp

@[simp] theorem State.outer_withdrawLevel (s : State) (m : SiteId) (h : Handle) : (s.withdrawLevel m h).outer = s.outer := rfl
@[simp] theorem State.outer_detachLevel (s : State) (m : SiteId) (h : Handle) : (s.detachLevel m h).outer = s.outer := rfl
@[simp] theorem State.outer_dropLevel (s : State) (m : SiteId) (h : Handle) : (s.dropLevel m h).outer = s.outer := rfl
@[simp] theorem State.outer_unbindShutters (s : State) (m : SiteId) (h : Handle) :
    (s.unbindShutters m h).outer = s.outer := rfl

theorem State.outer_addShutter {s t : State} {m : SiteId} {e : ShutterEntry} (h : s.addShutter m e = some t) :
    t.outer = s.outer := by
  unfold State.addShutter at h
  dsimp only at h
  split at h
  · cases h; rfl
  · split at h
    · cases h; simp
    · cases h

/-! ### Channels and maps -/

@[simp] theorem State.outer_reholdSlot (l : List SiteId) (s : State) (k : SlotId) : (s.reholdSlot l k).outer = s.outer := by
  unfold State.reholdSlot
  split
  · rfl
  · split
    · dsimp only
      split
      · rfl
      · split <;> simp
    · rfl

@[simp] theorem State.outer_rehold (s : State) (l : List SiteId) : (s.rehold l).outer = s.outer :=
  foldl_keeps _ _ (State.outer_reholdSlot l) _ s

@[simp] theorem State.outer_reserveOne (h : Handle) (s : State) (r : EntryRef) : (s.reserveOne h r).outer = s.outer := by
  unfold State.reserveOne; dsimp only; split <;> simp

@[simp] theorem State.outer_reserve (s : State) (h : Handle) (l : List EntryRef) : (s.reserve h l).outer = s.outer :=
  foldl_keeps _ _ (State.outer_reserveOne h) _ s

@[simp] theorem State.outer_handOverEntry (h : Handle) (l : List Handle) (s : State) (r : EntryRef) :
    (s.handOverEntry h l r).outer = s.outer := by
  unfold State.handOverEntry
  dsimp only
  split
  · split <;> simp
  · rfl

@[simp] theorem State.outer_dropClaim (h : Handle) (s : State) (r : EntryRef) : (s.dropClaim h r).outer = s.outer := by
  unfold State.dropClaim; dsimp only; split <;> simp

@[simp] theorem State.outer_removeEntry (s : State) (h : Handle) : (s.removeEntry h).outer = s.outer := by
  unfold State.removeEntry; split <;> simp

@[simp] theorem State.outer_dropTransition (s : State) (h : Handle) : (s.dropTransition h).outer = s.outer := by
  unfold State.dropTransition
  dsimp only
  split <;> simp

@[simp] theorem State.outer_toFree (s : State) (h : Handle) (l : List Handle) : (s.toFree h l).outer = s.outer := by
  unfold State.toFree
  simp only [State.outer_setChan, State.outer_unbindShutters, State.outer_dropLevel]
  rw [foldl_keeps _ _ (State.outer_dropClaim h), foldl_keeps _ _ (State.outer_handOverEntry h l), State.outer_dropTransition]

/-! ### Admission -/

@[simp] theorem State.outer_admit (s : State) (e : WaitEntry) : (s.admitEntry e).outer = s.outer := by
  unfold State.admitEntry; split <;> simp

@[simp] theorem State.outer_completeAdjust (s : State) (e : WaitEntry) : (s.completeAdjust e).outer = s.outer := rfl

@[simp] theorem State.outer_adjustDone (s : State) (e : WaitEntry) : (s.adjustDone e).outer = s.outer := by
  unfold State.adjustDone; split <;> simp

@[simp] theorem State.outer_admitWaiting (s : State) (e : WaitEntry) : (s.admitWaiting e).outer = s.outer := by
  unfold State.admitWaiting; split <;> simp

@[simp] theorem State.outer_passFrom (s : State) (older l : List WaitEntry) : (s.passFrom older l).outer = s.outer := by
  induction l generalizing s older with
  | nil => rfl
  | cons e l ih =>
    unfold State.passFrom
    split
    · dsimp only; rw [ih]; simp
    · exact ih s _

@[simp] theorem State.outer_pass (s : State) : s.pass.outer = s.outer := State.outer_passFrom s _ _

@[simp] theorem State.outer_runPass (s : State) : s.runPass.outer = s.outer := by
  unfold State.runPass; split <;> simp

@[simp] theorem State.outer_append (s : State) (e : WaitEntry) : (s.append e).outer = s.outer := rfl

@[simp] theorem State.outer_placeAdopt (s : State) (k : SlotId) (h : Handle) (d : Half) :
    (s.placeAdopt k h d).outer = s.outer := by
  unfold State.placeAdopt; dsimp only; split <;> simp

@[simp] theorem State.outer_takeOver (s : State) (k : SlotId) (h : Handle) (d : Half) : (s.takeOver k h d).outer = s.outer := by
  unfold State.takeOver
  split
  · rfl
  · dsimp only; split <;> simp

/-! ### Conditions -/

@[simp] theorem State.outer_riseBase (s : State) (n : SiteId) (c : Cond) (l : Level) : (s.riseBase n c l).outer = s.outer := by
  simp [State.riseBase]

@[simp] theorem State.outer_fallBase (s : State) (n : SiteId) (c : Cond) (l : Level) : (s.fallBase n c l).outer = s.outer := by
  simp [State.fallBase]

@[simp] theorem State.outer_raiseModFault (s : State) (n : SiteId) : (s.raiseModFault n).outer = s.outer := by
  unfold State.raiseModFault; split <;> simp

@[simp] theorem State.outer_clearModFault (s : State) (n : SiteId) : (s.clearModFault n).outer = s.outer := by
  unfold State.clearModFault; split <;> simp

@[simp] theorem State.outer_placeShutter (s : State) (h : Handle) (b : Bool) : (s.placeShutter h b).outer = s.outer := by
  unfold State.placeShutter
  dsimp only
  split
  · rename_i t ht
    split <;> simp [State.outer_addShutter ht]
  · simp

@[simp] theorem State.outer_darken (s : State) (n : SiteId) (h : Handle) (b : Bool) : (s.darken n h b).outer = s.outer := by
  unfold State.darken; dsimp only; split <;> simp

@[simp] theorem State.outer_endFall (s : State) (h : Handle) : (s.endFall h).outer = s.outer := by simp [State.endFall]

@[simp] theorem State.outer_shutterOne (n : SiteId) (s : State) (h : Handle) : (s.shutterOne n h).outer = s.outer := by
  unfold State.shutterOne
  dsimp only
  split
  · rfl
  · split
    · rfl
    · split <;> simp
    · simp
    · simp
    · split <;> simp
    · simp

@[simp] theorem State.outer_shutter (s : State) (n : SiteId) : (s.shutter n).outer = s.outer :=
  foldl_keeps _ _ (State.outer_shutterOne n) _ s

@[simp] theorem State.outer_restoreOne (n : SiteId) (s : State) (h : Handle) : (s.restoreOne n h).outer = s.outer := by
  unfold State.restoreOne
  dsimp only
  split
  · split <;> simp
  · rfl

@[simp] theorem State.outer_restoreAll (s : State) (n : SiteId) : (s.restoreAll n).outer = s.outer := by
  unfold State.restoreAll; rw [foldl_keeps _ _ (State.outer_restoreOne n)]; rfl

@[simp] theorem State.outer_expireHoldOff (s : State) (n : SiteId) : (s.expireHoldOff n).outer = s.outer := by
  simp [State.expireHoldOff]

@[simp] theorem State.outer_rerunDeferred (s : State) : s.rerunDeferred.outer = s.outer :=
  foldl_keeps _ _ (fun s n => by unfold State.rerunOne; split <;> simp) _ s

@[simp] theorem State.outer_startHoldOff (s : State) (n : SiteId) : (s.startHoldOff n).outer = s.outer := by
  unfold State.startHoldOff; dsimp only; split <;> simp

@[simp] theorem State.outer_judgeInLos (s : State) (n : SiteId) (l : Level) : (s.judgeInLos n l).outer = s.outer := by
  unfold State.judgeInLos
  dsimp only
  split
  · split <;> simp
  · split
    · split <;> simp
    · rfl

@[simp] theorem State.outer_judgeInHigh (s : State) (n : SiteId) (l : Level) : (s.judgeInHigh n l).outer = s.outer := by
  unfold State.judgeInHigh
  dsimp only
  split
  · split <;> simp
  · split <;> simp

@[simp] theorem State.outer_judgeIngress (s : State) (n : SiteId) : (s.judgeIngress n).outer = s.outer := by
  simp [State.judgeIngress]

@[simp] theorem State.outer_judgeMonStale (s : State) (n : SiteId) : (s.judgeMonStale n).outer = s.outer := by
  unfold State.judgeMonStale
  dsimp only
  split
  · split <;> simp
  · split <;> simp

/-! ### The Level Loop, swaps and the end of an event -/

@[simp] theorem State.outer_correctOne (n : SiteId) (s : State) (h : Handle) : (s.correctOne n h).outer = s.outer := by
  unfold State.correctOne
  dsimp only
  split
  · split
    · simp
    · simp
    · split <;> simp
  · rfl

@[simp] theorem State.outer_levelLoop (s : State) (n : SiteId) : (s.levelLoop n).outer = s.outer := by
  unfold State.levelLoop
  split
  · exact foldl_keeps _ _ (State.outer_correctOne n) _ s
  · rfl

@[simp] theorem State.outer_swap (s : State) (n : SiteId) : (s.swap n).outer = s.outer := by
  unfold State.swap; dsimp only; split <;> simp

@[simp] theorem State.outer_finish (b s : State) : (b.finish s).outer = s.outer := by
  unfold State.finish
  rw [State.outer_runPass]
  exact foldl_keeps _ _ (fun s n => by unfold State.swapIfQuiet; split <;> simp) _ s

@[simp] theorem State.outer_tearDown (s : State) (n : SiteId) : (s.tearDown n).outer = s.outer := by
  unfold State.tearDown
  dsimp only
  rw [foldl_keeps (State.freeDown _) State.outer (fun s h => by unfold State.freeDown; simp),
    foldl_keeps (State.shutterDown _) State.outer (fun s h => by unfold State.shutterDown; split <;> simp),
    foldl_keeps State.dropLevelOf State.outer (fun s h => by unfold State.dropLevelOf; simp),
    foldl_keeps State.cancelOne State.outer (fun s h => by unfold State.cancelOne; simp)]

end Sys2Proof.Machine
end

