-- ==== Sys2Proof/Laws/Fields.lean ====
section
/-!
SUPPORT. What a field of a view word, of a status word or of a record adds to the word: fields joined in ascending order add up, so
that a word built by `|||` is the sum of its fields at their bits.
-/

namespace Sys2Proof.Machine

open Sys2Proof

/-- A field that fits its width is its value at its bit. -/
theorem field_toNat {n lo w : Nat} (hn : n < 2 ^ w) (hw : lo + w ≤ 32) : (field n lo).toNat = n * 2 ^ lo := by
  have h : n * 2 ^ lo < 2 ^ 32 :=
    calc n * 2 ^ lo < 2 ^ w * 2 ^ lo := Nat.mul_lt_mul_of_pos_right hn (Nat.two_pow_pos _)
      _ = 2 ^ (w + lo) := (Nat.pow_add ..).symm
      _ ≤ 2 ^ 32 := Nat.pow_le_pow_right (by decide) (by omega)
  have h' : n < 2 ^ 32 := lt_of_le_of_lt (Nat.le_mul_of_pos_right n (Nat.two_pow_pos lo)) h
  rw [field, BitVec.toNat_shiftLeft, BitVec.toNat_ofNat, Nat.mod_eq_of_lt h', Nat.shiftLeft_eq, Nat.mod_eq_of_lt h]

/-- A field joined to a word of lower bits adds its value at its bit, and the word then ends where the field does. -/
theorem or_field_toNat {x : Word} {n lo w : Nat} (hx : x.toNat < 2 ^ lo) (hn : n < 2 ^ w) (hw : lo + w ≤ 32) :
    (x ||| field n lo).toNat = x.toNat + n * 2 ^ lo ∧ (x ||| field n lo).toNat < 2 ^ (lo + w) := by
  have h : (x ||| field n lo).toNat = x.toNat + n * 2 ^ lo := by
    rw [BitVec.toNat_or, field_toNat hn hw, Nat.or_comm, Nat.mul_comm, ← Nat.two_pow_add_eq_or_of_lt hx, Nat.add_comm]
  refine ⟨h, h ▸ ?_⟩
  calc x.toNat + n * 2 ^ lo < 2 ^ lo + n * 2 ^ lo := by omega
    _ = (n + 1) * 2 ^ lo := by ring
    _ ≤ 2 ^ w * 2 ^ lo := Nat.mul_le_mul_right _ hn
    _ = 2 ^ (lo + w) := by rw [← Nat.pow_add, Nat.add_comm]

/-- A flag is a field of one bit. -/
theorem flagAt_eq (b : Bool) (lo : Nat) : flagAt b lo = field b.toNat lo := by
  cases b
  · show (0 : Word) = BitVec.ofNat 32 0 <<< lo
    simp
  · rfl

/-- A flag joined to a word of lower bits. -/
theorem or_flagAt_toNat {x : Word} {lo : Nat} (b : Bool) (hx : x.toNat < 2 ^ lo) (hw : lo < 32) :
    (x ||| flagAt b lo).toNat = x.toNat + b.toNat * 2 ^ lo ∧ (x ||| flagAt b lo).toNat < 2 ^ (lo + 1) := by
  rw [flagAt_eq]
  exact or_field_toNat hx (by cases b <;> decide) hw

end Sys2Proof.Machine
end

