-- ==== Sys2Proof/Laws/Holds.lean ====
section
/-!
SUPPORT. The relation that says what a change of held flags does to slots and links (State.reheld): which slots stop and restart, and
that nothing happens where no flag changes.
-/

namespace Sys2Proof.Machine
open Sys2Proof

/-- A slot whose held flag stays does not stop. -/
@[simp] theorem Slot.stops_held (x : Slot) : x.stops (·.held) = false := by simp [Slot.stops]

/-- A slot whose held flag stays does not restart. -/
@[simp] theorem Slot.restarts_held (x : Slot) : x.restarts (·.held) = false := by simp [Slot.restarts]

/-- A slot that stops was not held, one that restarts was: no slot does both. -/
theorem Slot.not_stops_and_restarts (now : Slot → Bool) (x : Slot) : ¬(x.stops now = true ∧ x.restarts now = true) := by
  cases h : x.held <;> simp [Slot.stops, Slot.restarts, h]

/-- The slots of a module that restart are the STOPPED ones there whose held flag clears. -/
theorem State.mem_restarting (s : State) (now : Slot → Bool) (m : SiteId) (k : SlotId) :
    k ∈ s.restarting now m ↔ ∃ x, s.slot k = some x ∧ x.dest = m ∧ x.restarts now = true := by
  cases h : s.slot k <;> simp [State.restarting, h, allSlots, allHandles]

/-- Where no held flag changes no slot restarts. -/
@[simp] theorem State.restarting_held (s : State) (m : SiteId) : s.restarting (·.held) m = [] := by
  rw [List.eq_nil_iff_forall_not_mem]
  intro k hk
  obtain ⟨x, -, -, hx⟩ := (s.mem_restarting _ m k).mp hk
  simp at hx

/-- Where no held flag changes no queue does. -/
@[simp] theorem State.queueAfter_held (s : State) (m : SiteId) : s.queueAfter (·.held) m = (s.link m).queue := by
  have h : ∀ r ∈ (s.link m).queue, (match r with
      | .ramp k => !(s.slot k).any fun x => x.stops (·.held) && decide (x.drive = .queued ∧ x.dest = m)
      | .level _ _ => true) = true := by
    intro r _
    cases r with
    | ramp k => cases s.slot k <;> simp
    | level _ _ => rfl
  simp only [State.queueAfter, State.restarting_held, List.map_nil, List.append_nil]
  exact List.filter_eq_self.mpr h

/-- A state is what a change of no held flag makes of it. -/
theorem State.reheld_refl (s : State) : s.reheld s (·.held) where
  free _ h := h
  stopped _ x _ h := by simp at h
  restarted _ x _ h := by simp at h
  others _ _ h _ _ := h
  busy m _ := by simp
  idle m _ := by simp

end Sys2Proof.Machine
end

