-- ==== Sys2Proof/Laws/Memory.lean ====
section
/-!
SUPPORT. The laws of the plan memory: a byte read after a write, the canonical form kept by every memory operation, and the
words a word write leaves.
-/

namespace Sys2Proof.Machine

open Sys2Proof

/-! ### The canonical form -/

theorem Memory.wf_cons (a : Nat) (v : Byte) (m : List Host.Cell) :
    Memory.wf ((a, v) :: m) = true ↔ v ≠ Memory.blank ∧ (∀ c ∈ m, a < c.1) ∧ Memory.wf m = true := by
  simp [Memory.wf, and_assoc]

theorem Memory.lt_of_mem_write {m : List Host.Cell} {b a : Nat} {v : Byte} (hb : ∀ c ∈ m, b < c.1) (h : b < a) :
    ∀ c ∈ Memory.write m a v, b < c.1 := by
  induction m with
  | nil =>
    intro c hc
    simp only [Memory.write] at hc
    split at hc
    · simp at hc
    · simp at hc; subst hc; exact h
  | cons p m ih =>
    obtain ⟨d, w⟩ := p
    have hd : b < d := hb (d, w) (by simp)
    have hm : ∀ c ∈ m, b < c.1 := fun c hc => hb c (by simp [hc])
    intro c hc
    simp only [Memory.write] at hc
    split at hc
    · split at hc
      · exact hb c hc
      · rcases List.mem_cons.mp hc with rfl | hc
        · exact h
        · exact hb c hc
    · split at hc
      · split at hc
        · exact hm c hc
        · rcases List.mem_cons.mp hc with rfl | hc
          · exact h
          · exact hm c hc
      · rcases List.mem_cons.mp hc with rfl | hc
        · exact hd
        · exact ih hm c hc

/-- A byte write keeps the canonical form. -/
theorem Memory.wf_write {m : List Host.Cell} (hm : Memory.wf m = true) (a : Nat) (v : Byte) :
    Memory.wf (Memory.write m a v) = true := by
  induction m with
  | nil =>
    simp only [Memory.write]
    split
    · rfl
    · rename_i hv; simpa [Memory.wf] using hv
  | cons p m ih =>
    obtain ⟨b, w⟩ := p
    obtain ⟨hw, hlt, hm'⟩ := (Memory.wf_cons b w m).mp hm
    simp only [Memory.write]
    split
    · rename_i hab
      split
      · exact hm
      · rename_i hv
        refine (Memory.wf_cons _ _ _).mpr ⟨hv, ?_, hm⟩
        intro c hc
        rcases List.mem_cons.mp hc with rfl | hc
        · exact hab
        · exact Nat.lt_trans hab (hlt c hc)
    · split
      · rename_i hab
        split
        · exact hm'
        · rename_i hv
          subst hab
          exact (Memory.wf_cons _ _ _).mpr ⟨hv, hlt, hm'⟩
      · rename_i h1 h2
        exact (Memory.wf_cons _ _ _).mpr ⟨hw, Memory.lt_of_mem_write hlt (by omega), ih hm'⟩

theorem Memory.wf_writeLanes {m : List Host.Cell} (hm : Memory.wf m = true) (a : Nat) (en : BitVec 4) (d : Word) :
    Memory.wf (Memory.writeLanes m a en d) = true := by
  have step : ∀ (i : Nat) (m : List Host.Cell), Memory.wf m = true →
      Memory.wf (if en.getLsbD i then Memory.write m (a + i) (lane d i) else m) = true := by
    intro i m hm
    split
    · exact Memory.wf_write hm _ _
    · exact hm
  exact step 3 _ (step 2 _ (step 1 _ (step 0 _ hm)))

theorem Memory.wf_writeWord {m : List Host.Cell} (hm : Memory.wf m = true) (a : Nat) (d : Word) :
    Memory.wf (Memory.writeWord m a d) = true := Memory.wf_writeLanes hm a _ d

/-! ### Reads after writes -/

theorem Memory.read_eq_blank {m : List Host.Cell} {a : Nat} (h : ∀ c ∈ m, a < c.1) : Memory.read m a = Memory.blank := by
  induction m with
  | nil => rfl
  | cons p m ih =>
    obtain ⟨b, w⟩ := p
    have hb : a < b := h (b, w) (by simp)
    simp only [Memory.read]
    rw [if_neg (by omega)]
    exact ih fun c hc => h c (by simp [hc])

/-- The byte written is the byte read. -/
theorem Memory.read_write_self {m : List Host.Cell} (hm : Memory.wf m = true) (a : Nat) (v : Byte) :
    Memory.read (Memory.write m a v) a = v := by
  induction m with
  | nil =>
    simp only [Memory.write]
    split
    · rename_i hv; simp [Memory.read, hv]
    · simp [Memory.read]
  | cons p m ih =>
    obtain ⟨b, w⟩ := p
    obtain ⟨_, hlt, hm'⟩ := (Memory.wf_cons b w m).mp hm
    simp only [Memory.write]
    split
    · rename_i hab
      split
      · rename_i hv
        rw [hv]
        refine Memory.read_eq_blank ?_
        intro c hc
        rcases List.mem_cons.mp hc with rfl | hc
        · exact hab
        · exact Nat.lt_trans hab (hlt c hc)
      · simp [Memory.read]
    · split
      · rename_i hab
        subst hab
        split
        · rename_i hv; rw [hv]; exact Memory.read_eq_blank hlt
        · simp [Memory.read]
      · rename_i h1 h2
        simp only [Memory.read, if_neg h2]
        exact ih hm'

/-- A byte write leaves every other address alone. -/
theorem Memory.read_write_of_ne (m : List Host.Cell) {a c : Nat} (h : c ≠ a) (v : Byte) :
    Memory.read (Memory.write m a v) c = Memory.read m c := by
  induction m with
  | nil =>
    simp only [Memory.write]
    split
    · rfl
    · simp [Memory.read, h]
  | cons p m ih =>
    obtain ⟨b, w⟩ := p
    simp only [Memory.write]
    split
    · split
      · rfl
      · simp [Memory.read, h]
    · split
      · rename_i hab
        subst hab
        split
        · simp [Memory.read, h]
        · simp [Memory.read, h]
      · simp [Memory.read, ih]

theorem Memory.read_write {m : List Host.Cell} (hm : Memory.wf m = true) (a : Nat) (v : Byte) (c : Nat) :
    Memory.read (Memory.write m a v) c = if c = a then v else Memory.read m c := by
  split
  · rename_i h; subst h; exact Memory.read_write_self hm _ _
  · rename_i h; exact Memory.read_write_of_ne m h v

/-- A lane write changes no byte but those of its word. -/
theorem Memory.read_writeLanes_outside (m : List Host.Cell) (a : Nat) (en : BitVec 4) (d : Word) {c : Nat}
    (h : c < a ∨ a + 3 < c) : Memory.read (Memory.writeLanes m a en d) c = Memory.read m c := by
  have step : ∀ (i : Nat) (m : List Host.Cell), i ≤ 3 →
      Memory.read (if en.getLsbD i then Memory.write m (a + i) (lane d i) else m) c = Memory.read m c := by
    intro i m hi
    split
    · exact Memory.read_write_of_ne m (by omega) _
    · rfl
  simp only [Memory.writeLanes]
  rw [step 3 _ (by omega), step 2 _ (by omega), step 1 _ (by omega), step 0 _ (by omega)]

/-- A lane write puts the lanes whose enables are asserted and keeps the others. -/
theorem Memory.read_writeLanes_inside {m : List Host.Cell} (hm : Memory.wf m = true) (a : Nat) (en : BitVec 4) (d : Word)
    {i : Nat} (hi : i < 4) :
    Memory.read (Memory.writeLanes m a en d) (a + i) = if en.getLsbD i then lane d i else Memory.read m (a + i) := by
  have wfstep : ∀ (j : Nat) (m : List Host.Cell), Memory.wf m = true →
      Memory.wf (if en.getLsbD j then Memory.write m (a + j) (lane d j) else m) = true := by
    intro j m hm
    split
    · exact Memory.wf_write hm _ _
    · exact hm
  have step : ∀ (j : Nat) (m : List Host.Cell), Memory.wf m = true →
      Memory.read (if en.getLsbD j then Memory.write m (a + j) (lane d j) else m) (a + i) =
        if j = i ∧ en.getLsbD j = true then lane d j else Memory.read m (a + i) := by
    intro j m hm
    split
    · rename_i he
      rw [Memory.read_write hm]
      by_cases hj : j = i
      · subst hj; simp [he]
      · rw [if_neg (by omega), if_neg (by simp [hj])]
    · rename_i he; simp [he]
  have w0 := wfstep 0 _ hm
  have w1 := wfstep 1 _ w0
  have w2 := wfstep 2 _ w1
  simp only [Memory.writeLanes]
  rw [step 3 _ w2, step 2 _ w1, step 1 _ w0, step 0 _ hm]
  interval_cases i <;> simp

/-- A word is made of its four lanes. -/
theorem ofLanes_lane (d : Word) : ofLanes (lane d 0) (lane d 1) (lane d 2) (lane d 3) = d := by
  refine BitVec.eq_of_getLsbD_eq fun j hj => ?_
  simp only [ofLanes, lane, BitVec.getLsbD_append, BitVec.getLsbD_setWidth, BitVec.getLsbD_ushiftRight]
  by_cases h0 : j < 8
  · simp [h0]
  · by_cases h1 : j < 16
    · have e : 8 + (j - 8) = j := by omega
      simp [h0, e, show j - 8 < 8 by omega]
    · by_cases h2 : j < 24
      · have e : 16 + (j - 8 - 8) = j := by omega
        simp [h0, e, show ¬ j - 8 < 8 by omega, show j - 8 - 8 < 8 by omega]
      · have e : 24 + (j - 8 - 8 - 8) = j := by omega
        simp [h0, e, show ¬ j - 8 < 8 by omega, show ¬ j - 8 - 8 < 8 by omega, show j - 8 - 8 - 8 < 8 by omega]

/-- The word read after a word write is the word written. -/
theorem Memory.readWord_writeWord {m : List Host.Cell} (hm : Memory.wf m = true) (a : Nat) (d : Word) :
    Memory.readWord (Memory.writeWord m a d) a = d := by
  have h (i : Nat) (hi : i < 4) := Memory.read_writeLanes_inside hm a 0xF#4 d hi
  have h0 := h 0 (by omega)
  have h1 := h 1 (by omega)
  have h2 := h 2 (by omega)
  have h3 := h 3 (by omega)
  simp only [Nat.add_zero] at h0
  simp only [Memory.readWord, Memory.writeWord, h0, h1, h2, h3]
  exact ofLanes_lane d

theorem Memory.readWord_congr {m m' : List Host.Cell} {a : Nat} (h : ∀ i < 4, Memory.read m (a + i) = Memory.read m' (a + i)) :
    Memory.readWord m a = Memory.readWord m' a := by
  have h0 := h 0 (by omega)
  simp only [Nat.add_zero] at h0
  simp [Memory.readWord, h0, h 1 (by omega), h 2 (by omega), h 3 (by omega)]

end Sys2Proof.Machine
end

