-- ==== Sys2Proof/Laws/PerInstr.lean ====
section
/-!
SUPPORT. The family of statements made per command: the control-cell word a command is a write of.
-/

namespace Sys2Proof.Laws

open Sys2Proof Sys2Proof.Machine

/-- The control cell a command writes, by its window offset, and the word it writes there (R60, R168, Tables 10-2 and 12-10);
none for a command that is no control-cell write. -/
def cellWord : Instr → Option (Nat × Word)
  | .go x => some (0x0000, commandWord 0x01 x)
  | .halt x => some (0x0000, commandWord 0x02 x)
  | .freeze x => some (0x0000, commandWord 0x03 x)
  | .thaw x => some (0x0000, commandWord 0x04 x)
  | .enable x => some (0x0000, commandWord 0x05 x)
  | .disable x => some (0x0000, commandWord 0x06 x)
  | .reload x => some (0x0000, commandWord 0x07 x)
  | .unknownCommand code x => some (0x0000, commandWord code x)
  | .consumerUpdate v => some (0x0004, v)
  | .thresholdWrite cell v => some (thresholdOffset cell, v)
  | .maskWrite cell v => some (maskOffset cell, v)
  | .probeWrite v => some (0x001C, v)
  | .resetAssert _ | .resetRelease _ | .tick | .stickyWordRead _ _ | .suppressedWrite _ _ _ | .controllerCycle _ _ _ _
  | .lockAssert | .lockDeassert | .lockBroken | .arbiterGrant | .setup | .adopt | .retarget | .release | .mark | .badKind
  | .inFlightRefusal | .setupFetchComplete | .postingDrain | .walkerPostingPlace | .handoverPlace | .scanByte _
  | .byteGapExpiry | .staleTimerExpiry _ | .ackReceived _ _ _ _ | .ackTimeout _ | .pacingExpiry _ | .holdOffExpiry _ => none

/-- A command that writes a control cell writes one of the eight word offsets 0x0000..0x001C (Table 10-2). -/
def CellWord.Statement (i : Instr) : Prop := ∀ o w, cellWord i = some (o, w) → o < 0x20 ∧ o % 4 = 0

theorem CellWord.resetAssert (begun : Nat) : CellWord.Statement (.resetAssert begun) := by
  intro o w e; cases e
theorem CellWord.resetRelease (straps : BitVec 2) : CellWord.Statement (.resetRelease straps) := by
  intro o w e; cases e
theorem CellWord.tick : CellWord.Statement .tick := by
  intro o w e; cases e
theorem CellWord.go (operand : BitVec 24) : CellWord.Statement (.go operand) := by
  intro o w e; cases e; decide
theorem CellWord.halt (operand : BitVec 24) : CellWord.Statement (.halt operand) := by
  intro o w e; cases e; decide
theorem CellWord.freeze (operand : BitVec 24) : CellWord.Statement (.freeze operand) := by
  intro o w e; cases e; decide
theorem CellWord.thaw (operand : BitVec 24) : CellWord.Statement (.thaw operand) := by
  intro o w e; cases e; decide
theorem CellWord.enable (operand : BitVec 24) : CellWord.Statement (.enable operand) := by
  intro o w e; cases e; decide
theorem CellWord.disable (operand : BitVec 24) : CellWord.Statement (.disable operand) := by
  intro o w e; cases e; decide
theorem CellWord.reload (operand : BitVec 24) : CellWord.Statement (.reload operand) := by
  intro o w e; cases e; decide
theorem CellWord.unknownCommand (code : Byte) (operand : BitVec 24) : CellWord.Statement (.unknownCommand code operand) := by
  intro o w e; cases e; decide
theorem CellWord.consumerUpdate (value : Word) : CellWord.Statement (.consumerUpdate value) := by
  intro o w e; cases e; decide
theorem CellWord.thresholdWrite (cell : ThresholdCell) (value : Word) : CellWord.Statement (.thresholdWrite cell value) := by
  intro o w e; cases cell <;> cases e <;> decide
theorem CellWord.maskWrite (cell : MaskCell) (value : Word) : CellWord.Statement (.maskWrite cell value) := by
  intro o w e; cases cell <;> cases e <;> decide
theorem CellWord.probeWrite (value : Word) : CellWord.Statement (.probeWrite value) := by
  intro o w e; cases e; decide
theorem CellWord.stickyWordRead (word : StickyWord) (enables : BitVec 4) : CellWord.Statement (.stickyWordRead word enables) := by
  intro o w e; cases e
theorem CellWord.suppressedWrite (offset : Half) (enables : BitVec 4) (data : Word) : CellWord.Statement (.suppressedWrite offset enables data) := by
  intro o w e; cases e
theorem CellWord.controllerCycle (dir : BusDir) (address : BitVec 22) (enables : BitVec 4) (data : Word) : CellWord.Statement (.controllerCycle dir address enables data) := by
  intro o w e; cases e
theorem CellWord.lockAssert : CellWord.Statement .lockAssert := by
  intro o w e; cases e
theorem CellWord.lockDeassert : CellWord.Statement .lockDeassert := by
  intro o w e; cases e
theorem CellWord.lockBroken : CellWord.Statement .lockBroken := by
  intro o w e; cases e
theorem CellWord.arbiterGrant : CellWord.Statement .arbiterGrant := by
  intro o w e; cases e
theorem CellWord.setup : CellWord.Statement .setup := by
  intro o w e; cases e
theorem CellWord.adopt : CellWord.Statement .adopt := by
  intro o w e; cases e
theorem CellWord.retarget : CellWord.Statement .retarget := by
  intro o w e; cases e
theorem CellWord.release : CellWord.Statement .release := by
  intro o w e; cases e
theorem CellWord.mark : CellWord.Statement .mark := by
  intro o w e; cases e
theorem CellWord.badKind : CellWord.Statement .badKind := by
  intro o w e; cases e
theorem CellWord.inFlightRefusal : CellWord.Statement .inFlightRefusal := by
  intro o w e; cases e
theorem CellWord.setupFetchComplete : CellWord.Statement .setupFetchComplete := by
  intro o w e; cases e
theorem CellWord.postingDrain : CellWord.Statement .postingDrain := by
  intro o w e; cases e
theorem CellWord.walkerPostingPlace : CellWord.Statement .walkerPostingPlace := by
  intro o w e; cases e
theorem CellWord.handoverPlace : CellWord.Statement .handoverPlace := by
  intro o w e; cases e
theorem CellWord.scanByte (b : Byte) : CellWord.Statement (.scanByte b) := by
  intro o w e; cases e
theorem CellWord.byteGapExpiry : CellWord.Statement .byteGapExpiry := by
  intro o w e; cases e
theorem CellWord.staleTimerExpiry (tap : TapId) : CellWord.Statement (.staleTimerExpiry tap) := by
  intro o w e; cases e
theorem CellWord.ackReceived (link : SiteId) (module seq outcome : Byte) : CellWord.Statement (.ackReceived link module seq outcome) := by
  intro o w e; cases e
theorem CellWord.ackTimeout (module : SiteId) : CellWord.Statement (.ackTimeout module) := by
  intro o w e; cases e
theorem CellWord.pacingExpiry (slot : SlotId) : CellWord.Statement (.pacingExpiry slot) := by
  intro o w e; cases e
theorem CellWord.holdOffExpiry (site : SiteId) : CellWord.Statement (.holdOffExpiry site) := by
  intro o w e; cases e

end Sys2Proof.Laws
end

