-- ==== Sys2Proof/Tests/Slice0.lean ====
section
/-!
SUPPORT. Tests: the checks of WellFormed, the spec's own checkpoints and worked cases, and for each statement with hypotheses a
witness: a concrete state and operands that meet them all, clause by clause, at boundary values. Expected values come from the spec's
tables (named at each test).
-/

-- One theorem at a time: many kernel evaluations at once hold more memory than one after another.
set_option Elab.async false

namespace Sys2Proof.Tests

open Sys2Proof Sys2Proof.Machine

/-! ### Helpers -/

/-- The next state of an answer. -/
def after (o : Host.Outcome State Fault Refusal) : State :=
  match o with
  | .next s => s
  | .fault _ | .refused _ => State.reset

/-- The answer is this next state. -/
theorem next_after (c : Instr) (s : State) : exec c s = .next (after (exec c s)) := by cases c <;> rfl

/-- A site ENABLED with the default parameters. -/
def on (n : SiteId) (s : State) : State := s.setSite n { s.site n with state := .enabled }

/-- Sites D1 and D2 ENABLED. -/
def twoSites : State := on 2 (on 1 State.reset)

/-- The words of a descriptor of DEGREE 1 to DEGREE 2, target −150, tag 7, last of its chain. -/
def words (kind handle first count preset : Nat) : Fetch :=
  { w0 := BitVec.ofNat 32 (kind + 256 + 65536 * handle), w1 := 0x02010101, w2 := BitVec.ofNat 32 (first + 65536 * count),
    w3 := BitVec.ofNat 32 (0xFF6A + 65536 * preset), w4 := 0xFFFF, w5 := 7 }

/-- The burst of the descriptor at 0x4000 has been granted. -/
def fetched (f : Fetch) (s : State) : State :=
  { s with walker := { state := .fetching, current := some 0x4000, fetched := some f },
           port := { s.port with holder := .walkerBurst } }

/-- Channel 3, DEGREE 1 to DEGREE 2, slices 40..43. -/
def channel (st : ChanState) (p : Option TransRef) : Channel :=
  { state := st, src := .degree 1, dst := .degree 2, first := 40, count := 4, target := -150,
    applied := if st = .active then .att 50 else .blocked, motion := if st = .rising then some (.att 50) else none,
    pending := p, desc := some 0x4020 }

/-- A slot of channel 3. -/
def slotOf (k : TransKind) (drive : Drive) : Slot := { kind := k, handle := 3, desc := some 0x4020, dest := 2, swing := 7, held := false, drive }

/-- Channel 3 in a state, with a transition. -/
def withChannel (st : ChanState) (p : Option TransRef) (s : State) : State := s.setChan 3 (channel st p)

/-- An entry of channel 3 in the Wait List. -/
def waiting (k : TransKind) (s : State) : State :=
  { s with waitList := [{ kind := k, handle := 3, desc := some 0x4020, dest := 2 }] }

/-- Sixty-four entries in the Wait List. -/
def full (s : State) : State :=
  { s with waitList := List.replicate 64 { kind := .rise, handle := 9, desc := none, dest := 5 } }

/-- Channel 3 owns or claims slice 40 of IN(D1), or another does. -/
def slice40 (e : Entry) (s : State) : State := s.setEntry (.slice 1 40) e

/-! ### WellFormed: an ill-formed command for each check is refused -/

theorem test_wellFormed_resetAssert : (Instr.resetAssert 5).wellFormed = false ∧ (Instr.resetAssert 4).wellFormed = true := by
  decide
theorem test_wellFormed_unknownCommand :
    (Instr.unknownCommand 1 0).wellFormed = false ∧ (Instr.unknownCommand 7 0).wellFormed = false ∧
    (Instr.unknownCommand 0 0).wellFormed = true ∧ (Instr.unknownCommand 8 0).wellFormed = true := by decide
theorem test_wellFormed_suppressedWrite :
    (Instr.suppressedWrite 0x0000 0xF 0).wellFormed = false ∧ (Instr.suppressedWrite 0x4014 0xF 0).wellFormed = false ∧
    (Instr.suppressedWrite 0x0401 0xF 0).wellFormed = false ∧ (Instr.suppressedWrite 0x4018 0xF 0).wellFormed = true ∧
    (Instr.suppressedWrite 0x8000 0xF 0).wellFormed = true := by decide
/-- The table gives bits for no row (notes/assumptions/1.md). -/
theorem test_noWordSpellsACommand : decodeTableWord 8 0 = none ∧ State.reset.withFetchWord 8 0 = State.reset := ⟨rfl, rfl⟩

/-! ### The spec's checkpoints -/

/-- Table 2-2 (R25). -/
theorem test_lin_table : lin (-500) = 10 ∧ lin (-497) = 11 ∧ lin (-150) = 31623 ∧ lin (-40) = 398107 ∧ lin 200 = 100000000 := by
  decide +kernel
/-- Section 2.8.1: four slices at −100 dt measure −40 dt; log(10) is −498 (R26). -/
theorem test_log_cases : log 400000 = .dt (-40) ∧ log 10 = .dt (-498) ∧ log 9 = .noLight := by decide +kernel
/-- The check of the nine ASCII digits is the CRC's published check value for 0x1021 from 0xFFFF (R41). -/
theorem test_crc : crc16 [0x31, 0x32, 0x33, 0x34, 0x35, 0x36, 0x37, 0x38, 0x39] = 0x29B1#16 := by decide +kernel
/-- R127: an error of ±23 with gain 8 gives ±11, before the limit of one step. -/
theorem test_correction_truncates :
    correction { step := 50, gain := 8 } 23 = 11 ∧ correction { step := 50, gain := 8 } (-23) = -11 ∧
    correction { step := 5, gain := 8 } 23 = 5 ∧ correction { step := 5, gain := 1 } 2 = 1 := by decide
/-- Section 6.14: with S = 30 a fall from 50 sends 80, 110, 140, 170, 200, BLOCKED. -/
theorem test_fall_shape :
    nextAttenuation .fall .blocked (.att 50) 30 = .att 80 ∧ nextAttenuation .fall .blocked (.att 170) 30 = .att 200 ∧
    nextAttenuation .fall .blocked (.att 200) 30 = .blocked ∧ nextAttenuation .rise (.att 50) .blocked 30 = .att 200 ∧
    nextAttenuation .rise (.att 50) (.att 80) 30 = .att 50 := by decide
/-- R3, R4: the end forms and the refused pairs. -/
theorem test_ends :
    decodeEnd 0x0701 = some (.degree 7) ∧ decodeEnd 0x0801 = none ∧ decodeEnd 0x0B12 = some (.addPort 1 11) ∧
    decodeEnd 0x0C12 = none ∧ decodeEnd 0x0023 = none ∧ kindOf (.degree 1) (.degree 1) = none ∧
    kindOf (.addPort 0 0) (.degree 3) = some .add ∧ kindOf (.degree 3) (.addPort 0 0) = none := by decide
/-- R193, R195, R196: a status word, a record's first and last words, and a message's bytes, written out from Tables 12-3, 12-7, 12-9. -/
theorem test_layouts :
    statusWord .refused true 11 0x21 = 0x210B0106#32 ∧
    (Record.words { kind := .site, site := some 9, code := 3, tick := 5 }).1 = 0x0300091B#32 ∧
    (Record.words { kind := .chainEnd, code := 2, tick := 5, tag := some 7, desc := some 0x4020, detail := 256 }).2.2 =
      (7#32, 0x01004020#32) ∧
    SettingMsg.bytes { module := 8, seq := 3, first := 300, count := 4, input := .degree 6, port := some 11, setting := .blocked,
                       cls := .shutter } = [8, 3, 44, 1, 4, 6, 11, 254, 1] := by decide
/-- R154, R192: out-of-range bytes of word 0 are replaced and marked. -/
theorem test_setup_clamps :
    let r := loadSetup (Vector.replicate 16 0)
    r.1.step = 1 ∧ r.1.pacing = 1 ∧ r.1.budget = 1 ∧ r.1.gain = 1 ∧ r.1.staleLimit = 50 ∧ r.2 = 0x042B#16 := by
  decide +kernel
/-- R4.9 worked sequence: the SETUP at 0x4000 is TAKEN, RISING, and the open setting is sent to module 2. -/
theorem test_setup_taken :
    let t := after (exec .setup (fetched (words 1 3 40 4 255) twoSites))
    (t.chan 3).state = .rising ∧ (t.link 2).out.map (·.msg.setting) = some (.att 200) ∧ t.inFlight = [0x4000] ∧
    t.queue.length = 3 := by decide +kernel
/-- Section 4.9: a RETARGET of a RISING channel is refused PENDING, and a chain's end is journalled. -/
theorem test_retarget_pending :
    let t := after (exec .retarget (fetched (words 3 3 40 4 255) (withChannel .rising (some (.slot 0)) twoSites)))
    (t.chan 3).target = -150 ∧ t.inFlight = [] ∧ t.queue.length = 4 ∧ t.walker.state = .idle ∧ t.attn.chainEnd = true := by
  decide +kernel
/-- A TICK wraps the counter (R1). -/
theorem test_tick_wraps : (after (exec .tick { State.reset with tick := 0xFFFFFFFF })).tick = 0 := by decide +kernel
/-- R61: bits above bit 15 make an operand bad. -/
theorem test_go_bad_operand : (after (exec (.go 0x014000) State.reset)).cmd.result = 3 := by decide +kernel

/-! ### Witnesses: the machine and its invariants -/

/-- A state with a TICK waiting, a byte in the plan memory, a slot of swing 7 committed on D2, an entry owned and claimed. -/
def busy : State :=
  { slice40 { owner := some 3, claimant := some 4 } ((withChannel .rising (some (.slot 0)) twoSites).setSlot 0
      (some (slotOf .rise .sent))) with
    pending := [.tick], mem := [(3, 1)], committed := Vector.ofFn fun d => if d.val = 2 then 7 else 0,
    queue := [.word 0x4018 1 false], waitList := [{ kind := .rise, handle := 9, desc := none, dest := 5, skip := 8, barrier := true }],
    journal := { produced := 255, handOver := [.record { kind := .gap, tick := 0 }] },
    port := { waiting := [{ dir := .write, address := 1, enables := 0xF, data := 5 }], fairness := 8 } }

theorem witness_step : busy.pending = .tick :: [] ∧ ∃ t, step busy = .next t := ⟨by decide +kernel, _, rfl⟩

theorem witness_invariants :
    busy.memoryOk ∧ busy.journalOk ∧ busy.handOverOk ∧ busy.queueOk ∧ busy.boundsOk ∧ busy.waitOk ∧ busy.passDue = false := by
  refine ⟨?_, ?_, ?_, ?_, ?_, ?_, ?_⟩
  · show Memory.wf _ = true; decide +kernel
  · show Journal.fill _ ≤ 256; decide +kernel
  · show recordCount _ ≤ 256; decide +kernel
  · show _ ∧ _; decide +kernel
  · show _ ∧ _; decide +kernel
  · show _ ∧ _; decide +kernel
  · decide +kernel

theorem witness_swing : busy.swingOk ∧ busy.swingOf 2 = 7 := ⟨by show ∀ d, _; decide +kernel, by decide +kernel⟩
theorem witness_links : busy.linksOk := by
  show ∀ m, (busy.link m).bounded
  have h : ∀ m, levelCount (busy.link m).queue ≤ 16 ∧ (busy.link m).shutters.length ≤ 256 ∧ (busy.link m).out = none := by
    decide +kernel
  intro m
  exact ⟨(h m).1, (h m).2.1, fun o ho => by rw [(h m).2.2] at ho; cases ho⟩
theorem witness_params : busy.paramsOk := by
  have h : ∀ n, (busy.site n).active = {} ∧ (busy.site n).buffered = none := by decide +kernel
  intro n
  refine ⟨?_, fun p hp => by rw [(h n).2] at hp; cases hp⟩
  rw [(h n).1]
  show _ ∧ _
  decide
theorem witness_settings : busy.settingsOk := by
  refine ⟨?_, ?_, ?_⟩
  · have h : ∀ h, (busy.chan h).applied = .blocked ∧ ((busy.chan h).motion = none ∨ (busy.chan h).motion = some (.att 50)) := by
      decide +kernel
    intro g
    refine ⟨by rw [(h g).1]; trivial, fun m hm => ?_⟩
    rcases (h g).2 with h' | h' <;> rw [h'] at hm <;> cases hm
    show 50 ≤ 200
    decide
  · have h : ∀ m, (busy.link m).out = none ∧ (busy.link m).queue = [] := by decide +kernel
    intro m
    exact ⟨fun o ho => (by rw [(h m).1] at ho; cases ho), fun r hr => (by rw [(h m).2] at hr; cases hr)⟩
  · have h : ∀ e ∈ busy.waitList, e.preset = none := by decide +kernel
    intro e he p hp
    rw [h e he] at hp
    cases hp
theorem witness_claims : busy.claimsOk ∧ (busy.entry (.slice 1 40)).claimant = some 4 := by
  refine ⟨fun r => ?_, by decide +kernel⟩
  by_cases hr : r = .slice 1 40
  · subst hr; decide +kernel
  · have h : busy.entry r = State.reset.entry r := by
      show (State.setEntry _ (.slice 1 40) _).entry r = _
      rw [State.entry_setEntry, if_neg hr]
      cases r <;> rfl
    intro hc
    rw [h] at hc
    exact absurd (by cases r <;> simp [State.entry, State.reset, Vector.get_eq_getElem]) hc
theorem witness_waiting : busy.waitingOk ∧ busy.port.waiting ≠ [] := by
  refine ⟨fun c hc => ?_, by decide +kernel⟩
  have : c = { dir := .write, address := 1, enables := 0xF, data := 5 } := by simpa [busy] using hc
  subst this
  have h : windowOffset busy.base 4 = none := by decide +kernel
  intro _ o (ho : windowOffset busy.base 4 = some o)
  rw [h] at ho
  cases ho
theorem entry_own (e : Entry) (l : List EntryRef) (s : State) (q : EntryRef) :
    (l.foldl (fun t r => t.setEntry r e) s).entry q = if q ∈ l then e else s.entry q := by
  induction l generalizing s with
  | nil => simp
  | cons r l ih =>
    rw [List.foldl_cons, ih, State.entry_setEntry]
    by_cases h1 : q ∈ l <;> by_cases h2 : q = r <;> simp [h1, h2]

/-- Channel 3 RISING in slot 0 with swing 7, its RAMP message outstanding, a word and a record queued: a state that meets every
relation of the records, the maps, the slots and the links. -/
def riding : State :=
  (channel .rising (some (.slot 0))).footprint.foldl (fun t r => t.setEntry r { owner := some 3 })
    { ((withChannel .rising (some (.slot 0)) twoSites).setSlot 0 (some (slotOf .rise .sent))).setLink 2
        { out := some { msg := { module := 2, seq := 17, first := 40, count := 4, input := .degree 1, port := none,
                                 setting := .att 200, cls := .ramp }, bind := .slot 0, timer := 0 } } with
      committed := Vector.ofFn fun d => if d.val = 2 then 7 else 0,
      queue := [.word 0x4018 1 false, .record 0x8FF0 0 0 0 0], inFlight := [0x7FE0] }
theorem riding_entry (r : EntryRef) :
    riding.entry r = if r ∈ (channel .rising (some (.slot 0))).footprint then { owner := some 3 } else {} := by
  unfold riding
  rw [entry_own]
  refine if_congr Iff.rfl rfl ?_
  cases r <;> simp [State.entry, withChannel, twoSites, on, State.reset, Vector.get_eq_getElem]
theorem riding_chan (h : Handle) : riding.chan h = if h = 3 then channel .rising (some (.slot 0)) else {} := by
  have e : riding.chan h = (twoSites.setChan 3 (channel .rising (some (.slot 0)))).chan h := rfl
  rw [e, State.chan_setChan]
  refine if_congr Iff.rfl rfl ?_
  simp [State.chan, twoSites, on, State.reset, Vector.get_eq_getElem]
theorem riding_slot (k : SlotId) : riding.slot k = if k = 0 then some (slotOf .rise .sent) else none := by
  have e : riding.slot k = (State.reset.setSlot 0 (some (slotOf .rise .sent))).slot k := rfl
  rw [e, State.slot_setSlot]
  refine if_congr Iff.rfl rfl ?_
  simp [State.slot, State.reset, Vector.get_eq_getElem]
theorem witness_coherent : riding.coherent ∧ (riding.chan 3).state = .rising := by
  refine ⟨⟨?_, ?_, ?_, ?_, ?_, ?_, ?_, ?_, ?_, ?_⟩, by rw [riding_chan]; rfl⟩
  · intro h hs
    rw [riding_chan] at hs ⊢
    by_cases e : h = 3
    · subst e; decide +kernel
    · rw [if_neg e] at hs
      exact absurd rfl hs
  · intro h hs r hr
    rw [riding_chan] at hs hr
    by_cases e : h = 3
    · subst e
      rw [if_pos rfl] at hr
      exact .inl (by rw [riding_entry, if_pos hr])
    · rw [if_neg e] at hs
      exact absurd rfl hs
  · intro r h hr
    rw [riding_entry] at hr
    by_cases e : r ∈ (channel .rising (some (.slot 0))).footprint
    · rw [if_pos e] at hr
      have : h = 3 := by simpa [eq_comm] using hr
      subst this
      exact ⟨by rw [riding_chan]; decide, by rw [riding_chan]; exact e⟩
    · rw [if_neg e] at hr
      simp at hr
  · intro r g hg
    rw [riding_entry] at hg
    by_cases e : r ∈ (channel .rising (some (.slot 0))).footprint <;> simp [e] at hg
  · intro h
    rw [riding_chan]
    by_cases e : h = 3
    · subst e; decide
    · rw [if_neg e]; decide
  · intro h
    rw [riding_chan]
    by_cases e : h = 3
    · rw [if_pos e]; exact ⟨⟨fun _ => .inl rfl, fun _ => ⟨0, rfl⟩⟩, ⟨fun _ => by decide, fun _ => ⟨0, rfl⟩⟩⟩
    · rw [if_neg e]; simp
  · intro k x hx
    rw [riding_slot] at hx
    by_cases e : k = 0
    · subst e; cases hx; rw [riding_chan]; decide
    · rw [if_neg e] at hx; cases hx
  · intro h k hp
    rw [riding_chan] at hp
    by_cases e : h = 3
    · subst e; cases hp; exact ⟨slotOf .rise .sent, by rw [riding_slot]; rfl, rfl⟩
    · rw [if_neg e] at hp; cases hp
  · exact nofun
  · refine ⟨List.nodup_nil, fun h hp => ?_⟩
    rw [riding_chan] at hp
    by_cases e : h = 3
    · subst e; cases hp
    · rw [if_neg e] at hp; cases hp
theorem witness_requests : riding.requestsOk ∧ riding.served ∧ riding.linksOk := by
  have h (m : SiteId) : (riding.link m).queue = [] ∧ (riding.link m).shutters = [] := by revert m; decide +kernel
  have o (m : SiteId) : m = 2 ∨ (riding.link m).out = none := by revert m; decide +kernel
  refine ⟨⟨fun m k hk => ?_, fun m => ?_, fun m u k hu hb => ?_⟩, fun _ m _ => ⟨(h m).2, (h m).1⟩, fun m => ⟨?_, ?_, fun u hu => ?_⟩⟩
  · rw [(h m).1] at hk; cases hk
  · rw [(h m).1]; decide
  · rcases o m with rfl | e
    · cases hu; cases hb; exact ⟨slotOf .rise .sent, by rw [riding_slot]; rfl, rfl, rfl⟩
    · rw [e] at hu; cases hu
  · rw [(h m).1]; decide
  · rw [(h m).2]; decide
  · rcases o m with rfl | e
    · cases hu; decide
    · rw [e] at hu; cases hu
theorem witness_placed : riding.placedOk ∧ riding.queueOk ∧ riding.swingOk ∧ riding.passDue = false := by
  have h (g : Handle) : (riding.chan g).desc = none ∨ (riding.chan g).desc = some 0x4020 := by
    rw [riding_chan]
    by_cases e : g = 3
    · rw [if_pos e]; exact .inr rfl
    · rw [if_neg e]; exact .inl rfl
  have k (j : SlotId) : riding.slot j = none ∨ riding.slot j = some (slotOf .rise .sent) := by
    rw [riding_slot]
    by_cases e : j = 0
    · rw [if_pos e]; exact .inr rfl
    · rw [if_neg e]; exact .inl rfl
  have v : validDesc (some 0x4020) := fun o ho => by cases ho; decide
  have n : validDesc none := nofun
  have f : ∀ o ∈ riding.inFlight, validPoolOffset o.toNat = true := fun o ho => by
    have e : o = 0x7FE0 := List.mem_singleton.1 ho
    subst e
    decide
  refine ⟨⟨f, ?_, nofun, nofun, n, nofun, fun g => ?_, nofun, fun j x hx => ?_⟩, by show _ ∧ _; decide, by show ∀ d, _; decide +kernel, rfl⟩
  · intro p hp
    have : p = .word 0x4018 1 false ∨ p = .record 0x8FF0 0 0 0 0 := by
      have e : riding.queue = [.word 0x4018 1 false, .record 0x8FF0 0 0 0 0] := rfl
      simpa [e] using hp
    rcases this with rfl | rfl
    · show _ ∧ _; decide
    · show _ ∧ _; decide
  · rcases h g with e | e <;> rw [e]
    · exact n
    · exact v
  · rcases k j with e | e <;> rw [e] at hx <;> cases hx
    exact v

/-- Channel 3 RISING in slot 0, its RAMP request waiting behind a message of module 2; site D1 frozen or not. -/
def behind (drive : Drive) (held frozen : Bool) : State :=
  (((withChannel .rising (some (.slot 0)) twoSites).setSlot 0 (some { slotOf .rise drive with held })).setLink 2
      { out := some { msg := { module := 2, seq := 17, first := 40, count := 4, input := .degree 1, port := none,
                               setting := .att 60, cls := .level }, bind := .detached, timer := 8 },
        queue := if drive = .queued then [.ramp 0] else [] }).setSite 1 { state := .enabled, frozen }
/-- R143: the slot of the coherent state is not held, and no hold stands at its channel's ends. -/
theorem witness_held : riding.coherent ∧ riding.heldOk ∧ riding.slot 0 = some (slotOf .rise .sent) ∧
    (behind .stopped true true).isHeld 3 = true ∧ ((behind .stopped true true).slot 0).map (·.held) = some true := by
  refine ⟨witness_coherent.1, fun k x hx => ?_, by rw [riding_slot]; rfl, by decide +kernel, by decide +kernel⟩
  rw [riding_slot] at hx
  by_cases e : k = 0
  · rw [if_pos e] at hx
    cases hx
    show false = riding.isHeld 3
    unfold State.isHeld
    rw [riding_chan]
    decide +kernel
  · rw [if_neg e] at hx; cases hx

/-! ### Witnesses: the whole part, time and reset -/

theorem witness_TickCounter : exec .tick busy = .next (after (exec .tick busy)) := rfl
theorem witness_Sram : State.reset.inReset = false ∧ (∀ b, Instr.tick ≠ .resetAssert b) ∧ ∃ t, exec .tick State.reset = .next t :=
  ⟨rfl, fun _ h => (by cases h), _, rfl⟩
/-- The reset input asserted. -/
def inReset : State := { State.reset with inReset := true, port := { lockPin := true } }
theorem witness_ResetMasks :
    inReset.inReset = true ∧ (∀ x, Instr.lockAssert ≠ .resetRelease x) ∧ (cycleAt inReset.base 0x0000 .write 0xF#4 0).dir = .write ∧
    (cycleAt inReset.base 0x0A40 .read 0x1#4 0).dir = .read ∧ (0x1#4).getLsbD 0 = true := by
  refine ⟨rfl, fun _ h => (by cases h), rfl, rfl, by decide⟩
/-- R180: a command written in reset reaches the SRAM and is not taken. -/
theorem test_reset_passes :
    Memory.read (after (exec (.go 0x004020) inReset)).mem 0xF00003 = 0x01#8 ∧ (after (exec (.go 0x004020) inReset)).cmd.count = 0 := by
  decide +kernel
/-- The queue head holds the port. -/
def draining : State := { State.reset with queue := [.word 0x4018 0x0503 true], port := { holder := .posting }, inFlight := [0x4000] }
theorem witness_ResetAssert :
    busy.inReset = false ∧ draining.inReset = false ∧ State.reset.port.waiting = [] ∧ State.reset.port.holder ≠ .posting ∧
    draining.port.waiting = [] ∧ draining.port.holder = .posting ∧ draining.queue = [.word 0x4018 0x0503 true] := by
  decide +kernel

/-! ### Witnesses: commands -/

/-- The walker busy with a number of heads queued. -/
def walking (n : Nat) : State :=
  { State.reset with walker := { state := .fetching, current := some 0x4000, heads := List.replicate n 0x4020 } }
theorem witness_Go :
    State.reset.inReset = false ∧ State.reset.walker.state = .idle ∧ (0x7FE0#24).toNat % 32 = 0 ∧
    (walking 3).walker.state ≠ .idle ∧ (walking 3).walker.heads.length < 4 ∧ 4 ≤ (walking 4).walker.heads.length ∧
    (walking 4).inReset = false ∧ (0x4000#24).toNat ≤ 0x7FE0 ∧ ¬((0x8000#24).toNat ≤ 0x7FE0) := by decide
/-- The walker busy, its halt flag set, a head queued since. -/
def halted : State := { walking 1 with walker := { (walking 1).walker with halt := true } }
theorem witness_Halt :
    knownCommandCode 8 = false ∧ knownCommandCode 0 = false ∧ (walking 1).walker.state ≠ .idle ∧ (walking 1).walker.halt = false ∧
    halted.walker.state ≠ .idle ∧ halted.walker.halt = true ∧ State.reset.walker.state = .idle := by decide
/-- R62: a head queued after the first HALT stays at the second. -/
theorem test_second_halt : (after (exec (.halt 0) halted)).walker.heads = [0x4020] ∧ (after (exec (.halt 0) halted)).cmd.result = 1 := by
  decide +kernel
theorem witness_Freeze :
    busy.inReset = false ∧ (1023#24).toNat < 1024 ∧ busy.slot 0 = some (slotOf .rise .sent) ∧ busy.slot 1 = none ∧
    (2#24).getLsbD 1 = true ∧ (busy.site 1).frozen = false ∧ (busy.chan 3).srcSite = 1 ∧
    (∀ n : SiteId, (8#24).getLsbD n.val = true → (busy.chan 3).srcSite ≠ n ∧ (busy.chan 3).dstSite ≠ n) := by decide +kernel
theorem witness_Thaw :
    busy.inReset = false ∧ busy.passDue = false ∧ ∀ n : SiteId, (1023#24).getLsbD n.val = true → (busy.site n).frozen = false := by
  decide +kernel
theorem witness_Freeze_queued :
    (behind .queued false false).slot 0 = some (slotOf .rise .queued) ∧ ((behind .queued false false).site 1).frozen = false ∧
    (2#24).getLsbD (1 : SiteId).val = true ∧ ((behind .queued false false).link 2).queue = [.ramp 0] ∧
    ((after (exec (.freeze 2) (behind .queued false false))).link 2).queue = [] := by decide +kernel
theorem witness_Thaw_restarts :
    ((behind .stopped true true).site 1).frozen = true ∧ (2#24).getLsbD (1 : SiteId).val = true ∧
    ((behind .stopped true true).chan 3).srcSite = 1 ∧ (behind .stopped true true).sourceHold 1 = false ∧
    (behind .stopped true true).destHold 2 = false ∧ ((behind .stopped true true).link 2).out ≠ none ∧
    (behind .stopped true true).inReset = false ∧
    ((after (exec (.thaw 2) (behind .stopped true true))).link 2).queue = [.ramp 0] := by decide +kernel
theorem witness_bad_mask :
    1024 ≤ (1024#24).toNat ∧ (after (exec (.freeze 1024) busy)).cmd.result = 3 ∧ (after (exec (.thaw 1024) busy)).cmd.result = 3 := by
  decide +kernel
/-- Channel 5 STOPPED in slot 0 and channel 3 in slot 1 behind a message of module 2; D1 frozen. -/
def twoStopped : State :=
  (((behind .stopped true true).setChan 5 (channel .rising (some (.slot 0)))).setSlot 0
    (some { slotOf .rise .stopped with handle := 5, held := true })).setSlot 1 (some { slotOf .rise .stopped with held := true })
/-- R79: requests are placed in the order of the handles, whatever the slot numbers. -/
theorem witness_Thaw_order :
    (twoStopped.slot 0).map (·.handle) = some 5 ∧ (twoStopped.slot 1).map (·.handle) = some 3 ∧
    ((after (exec (.thaw 2) twoStopped)).link 2).queue = [.ramp 1, .ramp 0] := by decide +kernel
/-- The same two slots, and no message outstanding at their module: nothing waits anywhere. -/
def idleStopped : State := twoStopped.setLink 2 {}
/-- R109, R114: of the two slots of an idle module the one of handle 3 is SENT its message, the other QUEUED behind it. -/
theorem witness_Thaw_idle :
    (∀ m, (idleStopped.link m).shutters = [] ∧ (idleStopped.link m).queue = []) ∧ (idleStopped.link 2).out = none ∧
    idleStopped.inReset = false ∧ (idleStopped.site 1).frozen = true ∧
    (let t := after (exec (.thaw 2) idleStopped)
     (t.link 2).queue = [.ramp 0] ∧ (t.link 2).seq = 1 ∧ (t.slot 1).map (·.drive) = some .sent ∧
     (t.slot 0).map (·.drive) = some .queued ∧
     (t.link 2).out.map (fun o => (o.bind, o.timer, o.msg.seq, o.msg.first, o.msg.setting)) =
       some (.slot 1, 8, 0, 40, .att 200)) := by decide +kernel
/-- A request queued names a QUEUED slot, and a message sent a SENT one, in these states. -/
theorem witness_Thaw_requests : (behind .stopped true true).requestsOk ∧ idleStopped.requestsOk := by
  have h (m : SiteId) : ((behind .stopped true true).link m).queue = [] ∧
      ∀ o ∈ ((behind .stopped true true).link m).out, o.bind = .detached := by revert m; decide +kernel
  have g (m : SiteId) : (idleStopped.link m).queue = [] ∧ (idleStopped.link m).out = none := by revert m; decide +kernel
  refine ⟨⟨fun m k hk => ?_, fun m => ?_, fun m o k ho hb => ?_⟩, ⟨fun m k hk => ?_, fun m => ?_, fun m o k ho _ => ?_⟩⟩
  · rw [(h m).1] at hk; cases hk
  · rw [(h m).1]; exact List.nodup_nil
  · rw [(h m).2 o ho] at hb; cases hb
  · rw [(g m).1] at hk; cases hk
  · rw [(g m).1]; exact List.nodup_nil
  · rw [(g m).2] at ho; cases ho
theorem witness_Thaw_served : idleStopped.served := fun _ m _ => witness_Thaw_idle.1 m
theorem witness_Enable :
    (10#24).toNat = 10 ∧ (9#24).toNat = (9 : SiteId).val ∧ (State.reset.site 9).state = .disabled ∧
    (twoSites.site 1).state ≠ .disabled := by decide +kernel
/-- Site 9 LOADING. -/
def loading : State := State.reset.setSite 9 { State.reset.site 9 with state := .loading }
theorem witness_Disable :
    (loading.site 9).state = .loading ∧ (busy.site 2).state = .enabled ∧ (busy.chan 3).dstSite = 2 ∧
    (busy.chan 3).state ≠ .free ∧ (busy.chan 4).state = .free ∧ (State.reset.site 0).state = .disabled := by decide +kernel
/-- Channel 3 of a coherent state stands, moving, toward a site to be torn down, whose module has a message outstanding and room. -/
theorem witness_Disable_moving :
    riding.coherent ∧ riding.swingOk ∧ riding.inReset = false ∧ (riding.site 2).state = .enabled ∧ (riding.chan 3).dstSite = 2 ∧
    riding.slot 0 = some (slotOf .rise .sent) ∧ (riding.link 2).out ≠ none ∧ riding.rampSent 3 = true ∧
    (riding.link 2).shutters.length + 1 ≤ 256 ∧ recordCount riding.journal.handOver + 1 < 256 :=
  ⟨witness_coherent.1, witness_placed.2.2.1, rfl, by decide +kernel, by rw [riding_chan]; rfl, by rw [riding_slot]; rfl,
    by decide +kernel, by decide +kernel, by decide +kernel, by decide +kernel⟩
/-- A module of the same state is idle with nothing waiting, and the message outstanding is that of the slot torn down. -/
theorem witness_Disable_links :
    (riding.link 3).out = none ∧ (riding.link 3).queue = [] ∧ (riding.link 3).shutters = [] ∧
    (riding.link 2).out.map (·.bind) = some (.slot 0) ∧ (slotOf .rise .sent).drive = .sent := by decide +kernel
/-- A setup burst of site 1 runs. -/
def bursting (st : SiteState) (refetch discard : Bool) (s : State) : State :=
  { s.setSite 1 { state := st, reload := if st = .enabled then .fetching else .idle, refetch } with
    setup := { queue := [1], burst := some { site := 1, words := Vector.replicate 16 0, discard } }, port := { holder := .setupBurst } }
/-- Site 1 LOADING or ENABLED at the head of the fetch queue, its burst requested. -/
def headOf (st : SiteState) (rest : List SiteId) : State :=
  { twoSites.setSite 1 { twoSites.site 1 with state := st } with
    setup := { queue := 1 :: rest }, port := { requests := [.setup, .walker], fairness := 5 } }
/-- R156, R177: the request of the site at the head is withdrawn, and made anew for the next; alone in the queue, it leaves the fairness
count to the other requests. A running burst goes on, marked. -/
theorem witness_Disable_fetch :
    (headOf .loading [2]).setup.queue.head? = some 1 ∧ (headOf .enabled [2]).setup.burst = none ∧
    (after (exec (.disable 1) (headOf .loading [2]))).port.requests = [.walker, .setup] ∧
    (after (exec (.disable 1) (headOf .enabled []))).port.requests = [.walker] ∧
    (after (exec (.disable 1) (headOf .enabled []))).setup.queue = [] ∧
    (after (exec (.disable 1) (headOf .loading []))).port.fairness = 5 ∧
    (after (exec (.disable 1) { headOf .loading [] with port := { requests := [.setup], fairness := 5 } })).port.fairness = 0 ∧
    (headOf .enabled [2]).setup.queue.head? ≠ some 2 ∧
    (after (exec (.disable 2) (headOf .enabled [2]))).setup.queue = [1] ∧
    (bursting .enabled false false twoSites).setup.burst.map (·.site) = some 1 ∧
    (after (exec (.disable 1) (bursting .enabled false false twoSites))).setup.burst.map (·.discard) = some true := by
  decide +kernel
/-- Site 1 ENABLED with a reload state, its setup burst running or not. -/
def reloading (r : ReloadState) (burst : Bool) : State :=
  { twoSites.setSite 1 { twoSites.site 1 with reload := r } with
    setup := { queue := [1], burst := if burst then some { site := 1, words := Vector.replicate 16 0, discard := false } else none } }
theorem witness_Reload :
    ((reloading .fetching false).site 1).state = .enabled ∧ ((reloading .fetching false).site 1).reload = .fetching ∧
    (reloading .fetching false).setup.burst = none ∧ ((reloading .fetching true).site 1).reload = .fetching ∧
    (reloading .fetching true).setup.burst.map (·.site) = some 1 ∧ ((reloading .idle false).site 1).reload = .idle ∧
    ((reloading .swapPending false).site 1).reload ≠ .fetching ∧ (State.reset.site 0).state ≠ .enabled := by decide +kernel
theorem witness_Refused :
    exec (.go 1) State.reset = .next (after (exec (.go 1) State.reset)) ∧ (after (exec (.go 1) State.reset)).cmd.result ≠ 1 ∧
    (after (exec (.unknownCommand 8 0) State.reset)).cmd.result ≠ 1 := ⟨rfl, by decide +kernel, by decide +kernel⟩

/-! ### Witnesses: cells, cycles, the Arbiter -/

theorem witness_Consumer :
    busy.journal.fill = 255 ∧ ((255#16) - busy.journal.consumer).toNat ≤ busy.journal.fill ∧
    busy.journal.fill < ((256#16) - busy.journal.consumer).toNat := by decide +kernel
theorem witness_Latches : (63#32).toNat % 256 ≤ 63 ∧ 63 < (64#32).toNat % 256 ∧ State.reset.inReset = false := by decide
/-- Every word of the bridge view, and words of the site and channel views at the ends of their ranges, read at their offsets. -/
theorem witness_Views :
    (∀ i : Fin 16, windowOffset State.reset.base (4 * (BitVec.ofNat 22 (0x3C0100 + i.val)).toNat) = some (0x0400 + 4 * i.val)) ∧
    windowOffset State.reset.base (4 * (0x3C029F#22).toNat) = some (0x0800 + 64 * (9 : SiteId).val + 4 * 15) ∧
    windowOffset State.reset.base (4 * (0x3C07FF#22).toNat) = some (0x1000 + 16 * (255 : Handle).val + 4 * 3) ∧
    windowOffset State.reset.base (4 * (0x3C0200#22).toNat) = some (0x0800 + 64 * (0 : SiteId).val) := by decide +kernel
/-- Values fit the fields of the views. -/
theorem witness_View_fields :
    (∀ i : Fin 4, ∀ f ∈ riding.channelFields 3 i.val, f.2.2 < 2 ^ f.2.1) ∧
    (∀ i : Fin 16, i.val ≠ 7 ∧ i.val ≠ 9 → ∀ f ∈ twoSites.siteFields 2 i.val, f.2.2 < 2 ^ f.2.1) ∧
    ∀ i : Fin 11, ∀ f ∈ draining.bridgeFields i.val, f.2.2 < 2 ^ f.2.1 := by decide +kernel
theorem witness_Suppressed :
    (0x0400#16).toNat % 4 = 0 ∧ (0x043C#16).toNat < 0x0440 ∧ (0x0A7C#16).toNat < 0x0A80 ∧ (0x1FFC#16).toNat < 0x2000 ∧
    (0x8FFC#16).toNat < 0x9000 ∧ 0x4000#16 ∈ draining.inFlight ∧ (0x4018#16).toNat = (0x4000#16).toNat + 24 ∧
    (0x401C#16).toNat = (0x4000#16).toNat + 28 ∧ draining.inReset = false := by decide
theorem witness_Forwarded :
    State.reset.memoryOk ∧ State.reset.port.holder = .none ∧ State.reset.port.lock ≠ .inForce ∧ State.reset.port.waiting = [] ∧
    State.reset.port.fairness < 8 ∧ State.reset.queue.length < 24 ∧
    (∀ o, windowOffset State.reset.base (4 * (0#22).toNat) = some o → (0x20 ≤ o ∨ 0xF#4 ≠ 0xF#4) ∧ State.reset.suppresses o = false) ∧
    windowOffset draining.base (4 * (0x3C1006#22).toNat) = some 0x4018 ∧
    draining.queue.find? (fun e => e.holds (BitVec.ofNat 16 0x4018)) = some (.word 0x4018 0x0503 true) :=
  ⟨rfl, rfl, by decide, rfl, by decide, by decide, fun _ h => (by
      have hn : windowOffset State.reset.base (4 * (0#22).toNat) = none := by decide
      rw [hn] at h
      cases h), by decide +kernel, by decide +kernel⟩
/-- Every control cell is a word of the window, and an empty queue holds none of them. -/
theorem witness_ControlCells :
    (∀ i : Fin 8, windowOffset State.reset.base (4 * (BitVec.ofNat 22 (0x3C0000 + i.val)).toNat) = some (4 * i.val)) ∧
    (∀ p ∈ State.reset.queue, p.holds 0 = false) ∧ (0x06000009#32).toNat / 2 ^ 24 = 6 ∧ (0x08000000#32).toNat / 2 ^ 24 = 8 :=
  ⟨by decide +kernel, nofun, by decide, by decide⟩
/-- A queued word of no descriptor in flight, at which a controller write is forwarded. -/
def merging : State := { draining with inFlight := [] }
theorem witness_Forwarded_merge :
    windowOffset merging.base (4 * (0x3C1006#22).toNat) = some 0x4018 ∧ 0x20 ≤ 0x4018 ∧ merging.suppresses 0x4018 = false ∧
    (Posting.word 0x4018 0x0503 true).holds (BitVec.ofNat 16 0x4018) = true ∧
    (after (exec (.controllerCycle .write 0x3C1006 0x2 0xAABBCCDD) merging)).queue = [.word 0x4018 0x0000CC03 true] := by
  decide +kernel
/-- A lock in force with a burst request waiting. -/
def locked : State := { State.reset with port := { lockPin := true, lock := .inForce, requests := [.walker] } }
theorem witness_Lock :
    State.reset.port.lockPin = false ∧ State.reset.port.holder = .none ∧ draining.port.lockPin = false ∧
    draining.port.holder ≠ .none ∧ locked.port.lock = .inForce ∧ locked.port.requests ≠ [] ∧
    locked.port.lockPin = true ∧ recordCount locked.journal.handOver < 256 := by decide
/-- A lock that waits for the grant that runs. -/
def awaiting (s : State) : State := { s with port := { s.port with lockPin := true, lock := .awaiting } }
/-- A number of queued postings, controller cycles and burst requests. -/
def port (n : Nat) (ctl : Bool) (fair : Nat) (last : Bool) (requests : List Burst) : State :=
  { State.reset with
    queue := List.replicate n (.word 0x4018 1 false), setup := { queue := [1] },
    port := { waiting := if ctl then [{ dir := .read, address := 1, enables := 0xF, data := 0 }] else [], fairness := fair,
              lastController := last, requests } }
theorem witness_Arbiter :
    locked.port.holder = .none ∧ locked.port.waiting = [] ∧ 24 ≤ (port 24 true 0 true []).queue.length ∧
    (port 24 true 0 true []).port.waiting ≠ [] ∧ (port 24 true 0 false []).port.lastController = false ∧
    (port 24 false 0 false []).port.waiting = [] ∧ (port 23 true 7 false []).queue.length < 24 ∧
    (port 23 true 7 false []).port.fairness < 8 ∧ 8 ≤ (port 23 true 8 false [.walker]).port.fairness ∧
    (port 23 true 8 false [.setup]).port.requests = [.setup] ∧ (port 1 false 0 false []).port.requests = [] ∧
    (port 1 false 0 false []).queue ≠ [] ∧ (port 1 false 0 false []).port.lock ≠ .inForce := by decide
theorem witness_Drain :
    draining.memoryOk ∧ draining.port.holder = .posting ∧ draining.queue = .word 0x4018 0x0503 true :: [] ∧
    draining.inReset = false := ⟨rfl, rfl, rfl, rfl⟩
/-- The Journal Writer waits with items before a full queue; `lost` records are to be told of first. -/
def stuck (l : List Item) (lost : Nat) : State :=
  { State.reset with
    journal := { lost := BitVec.ofNat 16 lost, handOver := l },
    queue := (List.range 32).map fun i => .word (BitVec.ofNat 16 (0x4018 + 32 * i)) 0 false }
/-- The state after the drain of the queue's head. -/
def drained (s : State) : State := after (exec .postingDrain { s with port := { holder := .posting } })
theorem witness_Attention :
    let s := { State.reset with attn := { chainEnd := true } }
    s.inReset = false ∧ s.attn.chainEnd = true ∧ (0xFFFFFFFB#32).getLsbD 2 = false ∧ ∃ t, exec (.maskWrite .b0 0xFFFFFFFB) s = .next t :=
  ⟨rfl, rfl, by decide, _, rfl⟩

/-! ### Witnesses: decisions -/

/-- The descriptor of kind k has been fetched. -/
def asks (kind : Nat) (s : State) : State := fetched (words kind 3 40 4 255) s
theorem witness_Mark :
    (asks 5 State.reset).fetchedDesc = some (0x4000, decodeDesc (words 5 3 40 4 255)) ∧
    (decodeDesc (words 5 3 40 4 255)).kind = 5 ∧ (0x4000#16) ∉ (asks 5 State.reset).inFlight ∧
    (decodeDesc (words 0 3 40 4 255)).kind = 0 ∧ 5 < (decodeDesc (words 6 3 40 4 255)).kind.toNat ∧
    (0x4000#16) ∈ (asks 5 draining).inFlight := by decide +kernel

/-- What a request says of its ends, range and preset. -/
theorem witness_Refusals_fields :
    (decodeDesc (words 1 3 40 4 255)).ends = some (.degree 1, .degree 2, .express) ∧
    (decodeDesc { words 1 3 40 4 255 with w1 := 0x01010101 }).ends = none ∧
    (decodeDesc (words 1 3 40 0 255)).count = 0 ∧ 16 < (decodeDesc (words 1 3 40 17 255)).count ∧
    320 < (decodeDesc (words 1 3 317 4 255)).first + (decodeDesc (words 1 3 317 4 255)).count ∧
    (decodeDesc (words 1 3 316 4 255)).first + (decodeDesc (words 1 3 316 4 255)).count ≤ 320 ∧
    200 < (decodeDesc (words 1 3 40 4 201)).presetRaw ∧ (decodeDesc (words 1 3 40 4 254)).presetRaw ≠ 255 ∧
    (decodeDesc (words 2 3 40 4 200)).presetRaw ≤ 200 ∧ (decodeDesc (words 2 3 40 4 255)).presetRaw = 255 := by decide +kernel
theorem witness_Refusals_states :
    (State.reset.site 1).state ≠ .enabled ∧ (twoSites.chan 3).state = .free ∧
    ((withChannel .dark none twoSites).chan 3).state ≠ .free ∧
    (slice40 { owner := some 9 } twoSites).classOf (.slice 1 40) = .blocking ∧
    (.slice 1 40 : EntryRef) ∈ (twoSites.filled (decodeDesc (words 1 3 40 4 255)) 0x4000 (.degree 1) (.degree 2) .express).slicesOf ∧
    (.addCell 0 5 : EntryRef) ∈ (twoSites.filled (decodeDesc (words 1 3 40 4 255)) 0x4000 (.addPort 0 5) (.degree 2) .add).cellOf ∧
    ((twoSites.setEntry (.addCell 0 5) { owner := some 9 }).classOf (.addCell 0 5)) = .blocking ∧
    (∀ k, (({ twoSites with slots := Vector.replicate 16 (some (slotOf .rise .sent)) } : State).slot k) ≠ none) ∧
    ((withChannel .active (some .waiting) (waiting .fall twoSites)).entryOf 3).map (·.kind) = some .fall := by decide +kernel
theorem witness_Setup :
    let s := asks 1 twoSites
    let d := decodeDesc (words 1 3 40 4 255)
    s.fetchedDesc = some (0x4000, d) ∧ (0x4000#16) ∉ s.inFlight ∧ d.kind = 1 ∧ (s.chan d.handle).state = .free ∧
    1 ≤ d.count ∧ d.count ≤ 16 ∧ d.first + d.count ≤ 320 ∧ (s.site 1).state = .enabled ∧ (s.site 2).state = .enabled ∧
    d.presetRaw = 255 ∧ ∀ x ∈ (s.filled d 0x4000 (.degree 1) (.degree 2) .express).footprint, s.classOf x ≠ .blocking := by
  decide +kernel
/-- Channel 9 FALLING owns slice 40 of IN(D1), so a SETUP claims it and must wait; with a full list it is refused. -/
def claimable : State := (slice40 { owner := some 9 } twoSites).setChan 9 { channel .falling none with state := .falling }
theorem witness_Setup_claims :
    (claimable.entry (.slice 1 40)).owner ≠ none ∧ claimable.classOf (.slice 1 40) = .claimable ∧
    (∀ x ∈ ((asks 1 claimable).filled (decodeDesc (words 1 3 40 4 255)) 0x4000 (.degree 1) (.degree 2) .express).footprint,
      (asks 1 claimable).classOf x ≠ .blocking) ∧ (asks 1 claimable).waitList.length < 64 ∧
    64 ≤ (asks 1 (full claimable)).waitList.length ∧
    ((after (exec .setup (asks 1 claimable))).chan 3).pending = some .waiting ∧
    ((after (exec .setup (asks 1 (full claimable)))).chan 3).state = .free := by decide +kernel
/-- R19, Table 1-2: the ends of the range of a footprint, the port cells and the taps. -/
theorem witness_Footprint :
    let e := channel .active none
    let a : Channel := { e with kind := .add, src := .addPort 1 11, first := 316 }
    let d : Channel := { e with kind := .drop, dst := .dropPort 0 0 }
    (.slice 1 40 : EntryRef) ∈ e.footprint ∧ (.slice 10 43 : EntryRef) ∈ e.footprint ∧ (.slice 1 39 : EntryRef) ∉ e.footprint ∧
    (.slice 10 44 : EntryRef) ∉ e.footprint ∧ (.slice 2 40 : EntryRef) ∉ e.footprint ∧ e.footprint.length = 8 ∧
    (.slice 17 319 : EntryRef) ∈ a.footprint ∧ (.addCell 1 11 : EntryRef) ∈ a.footprint ∧ (.slice 18 40 : EntryRef) ∈ d.footprint ∧
    (.dropCell 0 0 : EntryRef) ∈ d.footprint ∧ d.footprint.length = 9 ∧ a.input = .group 1 ∧ a.outPort = none ∧
    d.input = .degree 1 ∧ d.outPort = some 0 ∧ a.srcSite.val = 9 ∧ d.dstSite.val = 8 := by decide +kernel
/-- R20: the four rows of the table. -/
theorem witness_Classes :
    twoSites.classOf (.slice 1 40) = .free ∧ claimable.classOf (.slice 1 40) = .claimable ∧
    (slice40 { owner := some 9, claimant := some 4 } claimable).classOf (.slice 1 40) = .blocking ∧
    (slice40 { owner := some 5 } claimable).classOf (.slice 1 40) = .blocking := by decide +kernel
theorem witness_Adopt :
    let s := fetched (words 2 3 40 4 200) twoSites
    let d := decodeDesc (words 2 3 40 4 200)
    s.fetchedDesc = some (0x4000, d) ∧ (0x4000#16) ∉ s.inFlight ∧ d.kind = 2 ∧ (s.chan d.handle).state = .free ∧
    d.ends = some (.degree 1, .degree 2, .express) ∧ d.presetRaw ≤ 200 ∧ s.slot 0 = none ∧ (∀ j : SlotId, j < 0 → s.slot j ≠ none) ∧
    (∀ x ∈ (s.filled d 0x4000 (.degree 1) (.degree 2) .express).footprint, (s.entry x).owner = none) ∧
    (s.link 2).out = none ∧ (s.link 2).queue = [] ∧ (s.link 2).shutters = [] ∧ s.heldBetween 1 2 = false ∧ (s.setSite 1 { s.site 1 with frozen := true }).heldBetween 1 2 = true := by decide +kernel
/-- R72, R117: module 2 has a LEVEL message of the handle outstanding, which the ADOPT detaches. -/
theorem witness_Adopt_busy :
    let o := ((behind .stopped true true).link 2).out.map fun o => { o with bind := .channel 3 }
    let s := (fetched (words 2 3 40 4 200) twoSites).setLink 2 { seq := 5, out := o }
    (s.link 2).out ≠ none ∧ ((after (exec .adopt s)).link 2).queue = [.ramp 0] ∧ ((after (exec .adopt s)).link 2).seq = 5 ∧
    ((after (exec .adopt s)).link 2).out.map (·.bind) = some .detached := by decide +kernel
/-- Channel 3 ACTIVE at rest, owning its footprint, with a RETARGET fetched. -/
def owned (st : ChanState) (p : Option TransRef) (s : State) : State :=
  (channel st p).footprint.foldl (fun t r => t.setEntry r { owner := some 3 }) (withChannel st p s)
theorem witness_Retarget :
    let s := asks 3 (owned .active none twoSites)
    s.fetchedDesc = some (0x4000, decodeDesc (words 3 3 40 4 255)) ∧ (s.chan 3).state = .active ∧ (s.chan 3).pending = none ∧
    (after (exec .retarget s)).inFlight = [0x4000] ∧ ((after (exec .retarget s)).chan 3).state = .adjusting ∧
    ((after (exec .retarget (fetched (words 3 3 40 4 50) (owned .active none twoSites)))).chan 3).state = .active ∧
    ((after (exec .retarget (asks 3 (withChannel .active none twoSites)))).chan 3).pending = some .waiting ∧
    (after (exec .retarget (asks 3 (full (withChannel .active none twoSites))))).inFlight = [] := by decide +kernel
theorem witness_Release :
    (asks 4 twoSites).fetchedDesc = some (0x4000, decodeDesc (words 4 3 40 4 255)) ∧
    ((asks 4 (withChannel .dark none twoSites)).chan 3).state = .dark ∧
    ((asks 4 (withChannel .dark (some .waiting) (waiting .rise twoSites))).entryOf 3).map (·.kind) = some .rise ∧
    ((asks 4 (withChannel .active (some .waiting) (waiting .adjust twoSites))).entryOf 3).map (·.kind) = some .adjust ∧
    ((after (exec .release (asks 4 (owned .active none twoSites)))).chan 3).state = .falling ∧
    ((after (exec .release (asks 4 (withChannel .active none twoSites)))).chan 3).pending = some .waiting ∧
    (after (exec .release (asks 4 (full (withChannel .active none twoSites))))).inFlight = [] := by decide +kernel
/-- Channel 3's waiting entry is a barrier, behind which nothing may go. -/
def barrier (k : TransKind) (s : State) : State :=
  { s with waitList := [{ kind := k, handle := 3, desc := some 0x4020, dest := 2, skip := 8, barrier := true }] }
/-- R83, R22: an acting barrier is removed, a claim passes; the LEVEL work and the shutter work of the channel are gone. -/
theorem witness_Release_due :
    let dark := withChannel .dark (some .waiting) (barrier .rise twoSites)
    let c : List Request := [.level 3 5, .level 4 6]
    (dark.entryOf 3).map (·.barrier) = some true ∧ dark.isHeld 3 = false ∧ (dark.toFree 3 []).passDue = true ∧
    ((withChannel .dark (some .waiting) (waiting .rise twoSites)).toFree 3 []).passDue = false ∧
    ((slice40 { owner := some 3, claimant := some 4 } (withChannel .dark none twoSites)).toFree 3 []).passDue = true ∧
    ((withChannel .active (some .waiting) (barrier .adjust twoSites)).dropTransition 3).passDue = true ∧
    ((after (exec .release (asks 4 (dark.setLink 2 { queue := c })))).link 2).queue = [.level 4 6] := by decide +kernel
/-- R96, R90: the old swing at a line degree is above 0. -/
theorem witness_Takeover_swing : 0 < (slotOf .rise .sent).swing ∧ (slotOf .rise .sent).dest.val < 8 := by decide
/-- Channel 3 RISING in slot 0. -/
def rising (drive : Drive) : State := (owned .rising (some (.slot 0)) twoSites).setSlot 0 (some (slotOf .rise drive))
theorem witness_Takeover :
    let s := asks 4 (rising (.pacing 1))
    s.fetchedDesc = some (0x4000, decodeDesc (words 4 3 40 4 255)) ∧ (s.chan 3).state = .rising ∧
    (s.chan 3).pending = some (.slot 0) ∧ s.slot 0 = some (slotOf .rise (.pacing 1)) ∧ (slotOf .rise .sent).kind ≠ .fall ∧
    ((after (exec .release s)).slot 0).map (·.kind) = some .fall := by decide +kernel

/-- The module of the slot is idle with nothing waiting, or busy. -/
theorem witness_Takeover_links :
    ((rising (.pacing 1)).link 2).out = none ∧ ((rising (.pacing 1)).link 2).queue = [] ∧ ((rising (.pacing 1)).link 2).shutters = [] ∧
    (slotOf .rise (.pacing 1)).handle = 3 ∧ (slotOf .rise (.pacing 1)).dest = 2 ∧
    (let t := after (exec .release (asks 4 (rising (.pacing 1))))
     (t.slot 0).map (·.drive) = some .sent ∧ (t.link 2).out.map (fun o => (o.bind, o.timer, o.msg.setting)) = some (.slot 0, 8, .blocked)) ∧
    (let s := (rising (.pacing 1)).setLink 2 { out := (behind .stopped true true).link 2 |>.out }
     (s.link 2).out ≠ none ∧ ((after (exec .release (asks 4 s))).link 2).queue = [.ramp 0] ∧
     ((after (exec .release (asks 4 s))).slot 0).map (·.drive) = some .queued) := by decide +kernel

/-! ### Witnesses: admission, placing, sites -/

theorem witness_Admission :
    busy.slot 1 = none ∧ (∀ j : SlotId, j < 1 → busy.slot j ≠ none) ∧ (busy.link 5).out = none ∧ (busy.link 5).shutters = [] ∧
    ((after (exec .setup (asks 1 twoSites))).link 2).out ≠ none := by decide +kernel
/-- Channel 3's source tap holds one value in every slice. -/
def lit (v : Half) (stale : Bool) : State :=
  (owned .active none twoSites).setTap 1 { received := true, slices := Vector.replicate 320 v, stale }
/-- P_in of channel 3 is −40 dt at four slices of −100 dt (section 2.8.1), and is not valid at a stale tap or a dark one. -/
theorem witness_Aim :
    (lit 0xFF9C false).pIn (channel .active none) = some (-40) ∧ (lit 0xFF9C true).pIn (channel .active none) = none ∧
    (lit 0x8000 false).pIn (channel .active none) = none ∧ (channel .active none).dstSite.val < 8 ∧
    8 ≤ ({ channel .active none with dst := .dropPort 0 0 } : Channel).dstSite.val ∧ (channel .dark none).applied = .blocked := by
  decide +kernel
theorem witness_Pass :
    (waiting .rise (owned .dark (some .waiting) twoSites)).admissible [] { kind := .rise, handle := 3, desc := some 0x4020, dest := 2 } = true ∧
    ((waiting .rise (owned .dark (some .waiting) twoSites)).setSite 1 { state := .enabled, frozen := true }).isHeld 3 = true ∧
    busy.admissible [] { kind := .rise, handle := 9, desc := none, dest := 5, skip := 8, barrier := true } = false := by
  decide +kernel
/-- An older entry for D2 whose channel owns nothing waits, with seven skips, before channel 3's entry. -/
def passing (k : TransKind) (st : ChanState) : State :=
  { owned st (some .waiting) twoSites with
    waitList := [{ kind := .rise, handle := 9, desc := none, dest := 2, skip := 7 }, { kind := k, handle := 3, desc := some 0x4020, dest := 2, preset := some 50 }] }
theorem witness_Pass_skips :
    let older : WaitEntry := { kind := .rise, handle := 9, desc := none, dest := 2, skip := 7 }
    let e : WaitEntry := { kind := .rise, handle := 3, desc := some 0x4020, dest := 2, preset := some 50 }
    let f : WaitEntry := { e with kind := .adjust }
    (passing .rise .dark).waitList = [older] ++ e :: [] ∧ ((passing .rise .dark).setChan 9 (channel .dark none)).admissible [] older = false ∧
    (passing .rise .dark).admissible [older] e = true ∧ (passing .adjust .active).admissible [older] f = true ∧
    ((passing .adjust .active).chan 3).applied = .att ((passing .adjust .active).target ((passing .adjust .active).chan 3) (some 50)).att ∧
    (passing .rise .dark).pass.waitList = [{ older with skip := 8, barrier := true }] ∧ e.handle ≠ older.handle := by decide +kernel
/-- The walker in DECIDING with items to place. -/
def placing (items : List Item) (ending halt : Bool) (next : Word) (examined n : Nat) : State :=
  { State.reset with
    walker := { state := .deciding, current := some 0x4000, toPlace := items, ending, halt, examined,
                fetched := some { words 5 3 0 0 0 with w0 := 5, w4 := next } },
    queue := (List.range n).map fun i => .word (BitVec.ofNat 16 (0x4018 + 32 * i)) 0 false }
theorem witness_Walker :
    let i : Item := .word 0x7FF8 0 true
    let r : Item := .record { kind := .mark, tick := 0 }
    (placing [i] false false 0x4020 1 32).placeItem i = none ∧ (placing [i] false false 0x4020 1 31).placeItem i ≠ none ∧
    (placing [i, r] false false 0x4020 1 30).walker.toPlace = [i, r] ∧ (placing [r] true false 0x4020 1 32).walker.ending = true ∧
    (after (exec .walkerPostingPlace (placing [i] false false 0x4020 255 31))).walker.state = .fetching ∧
    (after (exec .walkerPostingPlace (placing [i] false true 0x4020 1 30))).walker.state = .idle ∧
    (after (exec .walkerPostingPlace (placing [i] false false 0xFFFF 1 30))).walker.state = .idle ∧
    (after (exec .walkerPostingPlace (placing [i] false false 0x4021 1 30))).walker.state = .idle ∧
    (after (exec .walkerPostingPlace (placing [i] false false 0x4020 256 31))).walker.ending = true := by decide +kernel
/-- R67: the walker decides with one descriptor more examined, and has something to place. -/
theorem witness_Settle :
    (asks 5 State.reset).enterDeciding.inReset = false ∧ (asks 5 State.reset).enterDeciding.walker.state = .deciding ∧
    (asks 5 State.reset).enterDeciding.walker.examined = 1 ∧ ([.record { kind := .mark, tick := 0 }] : List Item) ≠ [] ∧
    (after (exec .mark (asks 5 State.reset))).queue.length = 4 := by decide +kernel
/-- A hand-over list of one item over a ring fill, a lost count and a number of queued postings. -/
def handing (i : Item) (fill lost : Nat) (n : Nat) : State :=
  { State.reset with
    journal := { produced := BitVec.ofNat 16 fill, lost := BitVec.ofNat 16 lost, handOver := [i] },
    queue := (List.range n).map fun i => .word (BitVec.ofNat 16 (0x4018 + 32 * i)) 0 false }
/-- R173: the walker takes the last entry whatever the Journal Writer holds; a posting that merges needs none, a GAP and its record two. -/
theorem witness_Walker_joins :
    let i : Item := .word 0x7FF8 0 true
    let m : Item := .word 0x4018 0 true
    let r : Item := .record { kind := .mark, tick := 0 }
    let lost (n : Half) (s : State) : State := { s with journal := { s.journal with lost := n, handOver := [r] } }
    (lost 3 (placing [m] false false 0x4020 1 32)).placeItem m ≠ none ∧
    (lost 3 (placing [i] false false 0x4020 1 31)).placeItem i ≠ none ∧
    (lost 0 (placing [r] true false 0x4020 1 31)).placeItem r ≠ none ∧ (lost 0 (placing [r] true false 0x4020 1 32)).placeItem r = none ∧
    (lost 3 (placing [r] true false 0x4020 1 30)).placeItem r ≠ none ∧
    (handing r 256 3 32).placeItem r ≠ none ∧ (handing r 255 3 31).placeItem r ≠ none ∧ (handing r 255 3 32).placeItem r = none ∧
    (after (exec .walkerPostingPlace (lost 3 (placing [r] true false 0x4020 1 31)))).walker.toPlace = [r] := by decide +kernel
/-- R175: two items that waited at a full queue have the room of two drains before a decision that comes then. -/
theorem witness_Decision_waits :
    let w (a : Half) : Item := .word a 1 true
    let s := after (exec .mark (asks 5 (drained (drained (stuck [w 0x7FF8, w 0x7FD8] 0)))))
    (stuck [w 0x7FF8] 0).placeItem (w 0x7FF8) = none ∧ (s.queue.drop 30).map Posting.addr = [0x7FF8, 0x7FD8] ∧
    s.journal.handOver = [] ∧ s.walker.toPlace.length = 3 := by decide +kernel
theorem witness_HandOver_nothing : exec .handoverPlace State.reset = .next State.reset := rfl
/-- R173, R183, R184: one drain is too little for a GAP and its record, the walker joins there, and is served before them from the next. -/
theorem witness_Decision_joins :
    let r : Item := .record { kind := .lockBroken, tick := 0 }
    let s := after (exec .mark (asks 5 (drained (stuck [r] 3))))
    let t := after (exec .walkerPostingPlace (drained s))
    (s.journal.handOver, s.queue.length, s.walker.toPlace.length) = ([r], 32, 2) ∧
    (t.queue.length, t.walker.toPlace.length, t.journal.handOver) = (32, 1, [r]) ∧
    (after (exec .handoverPlace t)).journal.handOver = [r] := by decide +kernel
theorem witness_HandOver :
    let r : Item := .record { kind := .mark, tick := 0 }
    (handing (.word 0x4018 1 false) 0 0 1).queue.map Posting.addr = [0x4018] ∧
    (after (exec .handoverPlace (handing (.word 0x7FF8 1 false) 0 0 31))).queue.length = 32 ∧
    (after (exec .handoverPlace (handing (.word 0x7FF8 1 false) 0 0 32))).queue.length = 32 ∧
    (handing r 256 0 0).journal.fill = 256 ∧ (handing r 255 3 0).journal.fill = 255 ∧
    (after (exec .handoverPlace (handing r 256 65535 0))).journal.lost = 65535 ∧
    (after (exec .handoverPlace (handing r 255 0 31))).journal.produced = 256 ∧
    (after (exec .handoverPlace (handing r 255 3 31))).journal.produced = 256 ∧
    (after (exec .handoverPlace (handing r 254 3 30))).journal.produced = 256 ∧
    (after (exec .handoverPlace (handing r 254 3 31))).journal.produced = 254 := by decide +kernel
/-- The walker has something left to place. -/
def walkerHolds (i : Item) (s : State) : State := { s with walker := { state := .deciding, toPlace := [i] } }
/-- While the walker waits, a word it holds waits for it and an item that needs an entry waits; a merge and a drop go on (R175). -/
theorem witness_HandOver_waits :
    let w : Item := .word 0x4018 4 true
    let n : Item := .word 0x7FF8 4 true
    let r : Item := .record { kind := .mark, tick := 0 }
    (walkerHolds (.word 0x4018 1 false) (handing w 0 0 1)).journal.handOver = w :: [] ∧
    (after (exec .handoverPlace (walkerHolds (.word 0x4018 1 false) (handing w 0 0 1)))).journal.handOver = [w] ∧
    (after (exec .handoverPlace (walkerHolds n (handing w 0 0 32)))).queue.head? = some (.word 0x4018 4 true) ∧
    (after (exec .handoverPlace (walkerHolds w (handing n 0 0 31)))).journal.handOver = [n] ∧
    (after (exec .handoverPlace (walkerHolds w (handing r 255 0 31)))).journal.handOver = [r] ∧
    (after (exec .handoverPlace (walkerHolds w (handing r 256 0 32)))).journal.handOver = [] := by decide +kernel
/-- R64, R77: the stamp of a descriptor waits while the walker still has the status of the same descriptor to place, and then goes on. -/
theorem witness_HandOver_descriptor :
    let stamp : Item := .word 0x401C 4 true
    let s := walkerHolds (.word 0x4018 1 false) { handing stamp 0 0 1 with queue := [.word 0x401C 3 false] }
    descOf 0x4018 = descOf 0x401C ∧ descOf 0x4018 ≠ descOf 0x4038 ∧
    (after (exec .handoverPlace s)).queue = [.word 0x401C 3 false] ∧ (after (exec .handoverPlace s)).journal.handOver = [stamp] ∧
    (after (exec .handoverPlace { s with walker := {} })).queue = [.word 0x401C 4 true] := by decide +kernel
theorem witness_SetupFetch :
    (bursting .loading false false State.reset).port.holder = .setupBurst ∧ (bursting .loading false false State.reset).inReset = false ∧
    ((after (exec .setupFetchComplete (bursting .loading false false State.reset))).site 1).state = .enabled ∧
    ((bursting .enabled true false twoSites).site 1).refetch = true ∧ (bursting .enabled false false twoSites).quiet 1 = true ∧
    (bursting .enabled false false busy).quiet 1 = false ∧ ((bursting .disabled false true State.reset).site 1).state = .disabled ∧
    (bursting .enabled true false twoSites).setup.queue.Nodup ∧ recordCount State.reset.journal.handOver < 256 := by decide +kernel

/-- A site LOADING again whose abandoned burst ends joins the queue again; one in SWAP_PENDING that lost its slot is swapped. -/
theorem witness_SetupFetch_again :
    ((bursting .loading false true State.reset).site 1).state = .loading ∧ (bursting .loading false true State.reset).setup.queue = [1] ∧
    (after (exec .setupFetchComplete (bursting .loading false true State.reset))).setup.queue = [1] ∧
    (after (exec .setupFetchComplete (bursting .loading false true State.reset))).port.requests = [.setup] := by decide +kernel
theorem witness_Finish :
    let v := twoSites.setSite 1 { state := .enabled, reload := .swapPending, buffered := some { il := 9 } }
    (rising .sent).slot 0 = some (slotOf .rise .sent) ∧ v.slot 0 = none ∧ ((rising .sent).chan 3).srcSite = 1 ∧
    ((State.finish (rising .sent) v).site 1).reload = .idle ∧ ((State.finish (rising .sent) v).site 1).active.il = 9 ∧
    ((State.finish v v).site 1).reload = .swapPending ∧
    recordCount v.journal.handOver + 1 ≤ 256 := by decide +kernel

/-! ### Witnesses: the scan link -/

/-- Tap 1, sequence 9, and slice 0 carrying the check register as the two bytes before it leave it, which makes the register 0. -/
def lead : List Byte := [1, 9, (crc16 [1, 9] >>> 8).setWidth 8, (crc16 [1, 9]).setWidth 8]
/-- The first 645 bytes of a frame: after `lead` every slice is 0, which keeps the register 0, so the check is 0. -/
def frame : List Byte := 0x7E#8 :: (lead ++ (List.replicate 638 0#8 ++ [0#8, 0#8]))
/-- The receiver has taken a number of bytes. -/
def receiving (f : List Byte) (s : State) : State := { s with scan := { inFrame := true, buffer := f } }
theorem crc_zeros (n : Nat) : (List.replicate n (0#8)).foldl crcByte 0#16 = 0#16 := by
  induction n with
  | zero => rfl
  | succ n ih =>
    rw [List.replicate_succ, List.foldl_cons, show crcByte 0#16 0#8 = 0#16 by decide]
    exact ih
theorem frame_crc (e : Byte) : crc16 (((frame ++ [e]).drop 1).take 642) = 0 := by
  have h : ((frame ++ [e]).drop 1).take 642 = lead ++ List.replicate 638 0#8 := by
    show ((lead ++ (List.replicate 638 0#8 ++ [0#8, 0#8])) ++ [e]).take 642 = _
    rw [List.append_assoc, List.append_assoc, ← List.append_assoc lead]
    exact List.take_left' (by rw [List.length_append, List.length_replicate]; rfl)
  rw [h]
  unfold crc16
  rw [List.foldl_append, show List.foldl crcByte 0xFFFF#16 lead = 0#16 by decide +kernel]
  exact crc_zeros 638
theorem witness_Scan_frame : (frame ++ [0x7E#8]).length = 646 ∧ (receiving frame State.reset).scan.inFrame = true ∧
    frameByte (frame ++ [0x7E#8]) 645 = 0x7E#8 ∧ frameByte (frame ++ [0x7D#8]) 645 ≠ 0x7E#8 ∧
    (frameByte (frame ++ [0x7E#8]) 1).toNat = 1 ∧ frameByte (frame ++ [0x7E#8]) 2 = 9 ∧
    (frameByte (frame ++ [0x7E#8]) 644 ++ frameByte (frame ++ [0x7E#8]) 643 : Half) = 0 := by decide +kernel
/-- The frame is good for tap 1, unless its sequence repeats the tap's last. -/
theorem witness_Scan_judged :
    (receiving frame State.reset).judge (frame ++ [0x7E#8]) = .good 1 ∧
    ((receiving frame State.reset).setTap 1 { lastSeq := some 9 }).judge (frame ++ [0x7E#8]) = .duplicate ∧
    (receiving frame State.reset).judge (frame ++ [0x7D#8]) = .discarded := by
  obtain ⟨-, -, h1, h2, h3, h4, h5⟩ := witness_Scan_frame
  have none (t : TapId) : ((receiving frame State.reset).tap t).lastSeq ≠ some 9 := by
    have h : ∀ t, (State.reset.tap t).lastSeq = none := by decide +kernel
    show (State.reset.tap t).lastSeq ≠ some 9
    rw [h t]
    exact nofun
  refine ⟨?_, ?_, ?_⟩
  · unfold State.judge
    rw [if_neg (by simp [h1]), if_neg (by rw [frame_crc, h5]; simp), dif_pos (by omega), h4]
    exact (if_neg (none _)).trans (congrArg Judgement.good (Fin.ext h3))
  · unfold State.judge
    rw [if_neg (by simp [h1]), if_neg (by rw [frame_crc, h5]; simp), dif_pos (by omega), h4]
    refine if_pos ?_
    rw [State.tap_setTap, if_pos (Fin.ext h3)]
  · unfold State.judge
    rw [if_pos h2]
theorem witness_Offers : ((7 : TapId).val < 8 ∧ (17 : TapId).val = 17) ∧
    ∀ t ∈ [(8 : TapId), 15, 18, 19], ¬(t.val < 8 ∨ t.val = 16 ∨ t.val = 17) := by decide
theorem witness_Scan_sites : tapSite 1 = 1 ∧ (twoSites.site 1).state = .enabled ∧ (State.reset.site 1).state ≠ .enabled := by
  decide +kernel
/-- The stale timer of IN(D2) is due, and MON_STALE of D2 is clear. -/
def stale (act : Action) (live : Bool) : State :=
  (((rising .sent).setTap 2 { timer := some 0 }).setSite 2 { state := .enabled, active := { monStaleAct := act } }).setCond 2
    { monStale := { live, sticky := live } }
theorem witness_Stale :
    ((stale .hold false).tap 2).timer = some 0 ∧ (stale .hold false).inReset = false ∧ ((stale .hold false).cond 2).monStale.live = false ∧
    ((stale .note true).cond 2).monStale.live = true ∧ ((stale .hold false).params 2).monStaleAct = .hold ∧
    (stale .note false).slot 0 = some (slotOf .rise .sent) ∧ (stale .note false).isHeld 3 = false ∧
    ((stale .note false).chan 3).dstSite = 2 := by decide +kernel
/-- A lock waits for each kind of grant: a posting, a setup burst, a decision; and a command that ends none leaves it waiting. -/
theorem witness_Lock_awaits :
    (awaiting draining).port.holder = .posting ∧ (awaiting draining).queue ≠ [] ∧ (awaiting draining).port.lock = .awaiting ∧
    (awaiting (bursting .loading false false State.reset)).port.holder = .setupBurst ∧
    (awaiting (bursting .loading false false State.reset)).setup.burst ≠ none ∧
    (awaiting (asks 5 State.reset)).fetchedDesc = some (0x4000, decodeDesc (words 5 3 40 4 255)) ∧
    (0x4000#16) ∉ (awaiting (asks 5 State.reset)).inFlight ∧ (0x4000#16) ∈ (awaiting (asks 5 draining)).inFlight ∧
    (after (exec .mark (awaiting (asks 5 State.reset)))).port.lock = .inForce ∧
    (after (exec .tick (awaiting draining))).port.lock = .awaiting := by decide +kernel

/-! ### Witnesses: answers, ramps, conditions, arithmetic -/

/-- An outstanding message of module 2 for channel 3. -/
def message (cls : MsgClass) (a : Setting) (bind : Binding) (timer : Nat) : Outstanding :=
  { msg := { module := 2, seq := 17, first := 40, count := 4, input := .degree 1, port := none, setting := a, cls }, bind, timer }
/-- The message is outstanding. -/
def sent (o : Outstanding) (s : State) : State := s.setLink 2 { s.link 2 with out := some o }
theorem witness_RampOk :
    let s := sent (message .ramp (.att 200) (.slot 0) 8) (rising .sent)
    (s.link 2).out = some (message .ramp (.att 200) (.slot 0) 8) ∧ s.slot 0 = some (slotOf .rise .sent) ∧
    (slotOf .rise .sent).dest = 2 ∧ (s.chan 3).motion ≠ some (.att 200) ∧ (s.chan 3).motion = some (.att 50) ∧
    (s.chan 3).pending = some (.slot 0) ∧
    ((after (exec (.ackReceived 2 2 17 1) s)).chan 3).applied = .att 200 ∧
    ((after (exec (.ackReceived 2 2 17 1) (sent (message .ramp (.att 50) (.slot 0) 8) (rising .sent)))).chan 3).state = .active := by
  decide +kernel
/-- A FALL completes: channel 3 is FREE, and its LEVEL request and the binding of its shutter entry at module 2 are gone. -/
def falling : State :=
  sent (message .ramp .blocked (.slot 0) 8)
    (((((owned .falling (some (.slot 0)) twoSites).setChan 3
      { channel .falling (some (.slot 0)) with motion := some .blocked }).setSlot 0 (some (slotOf .fall .sent))).setLink 2
      { queue := [.level 3 5, .level 4 6],
        shutters := [{ handle := 3, first := 40, count := 4, input := .degree 1, port := none, bound := true }] }))
theorem witness_RampOk_fall :
    (falling.link 2).out = some (message .ramp .blocked (.slot 0) 8) ∧ falling.slot 0 = some (slotOf .fall .sent) ∧
    (falling.chan 3).motion = some .blocked ∧ (falling.chan 3).pending = some (.slot 0) ∧ (falling.chan 3).dstSite = 2 ∧
    ((after (exec (.ackReceived 2 2 17 1) falling)).chan 3).state = .free ∧
    ((after (exec (.ackReceived 2 2 17 1) falling)).link 2).queue = [.level 4 6] ∧
    ((after (exec (.ackReceived 2 2 17 1) falling)).link 2).out.map (·.bind) = some .detached := by decide +kernel
theorem witness_Answers :
    ((after (exec (.ackReceived 2 2 17 1) (sent (message .level (.att 60) (.channel 3) 8) (owned .active none twoSites)))).chan 3).applied = .att 60 ∧
    ((after (exec (.ackReceived 2 2 17 2) (sent (message .shutter .blocked (.channel 3) 8) (owned .dark none twoSites)))).chan 3).unconfirmed = true ∧
    ((after (exec (.ackTimeout 2) (sent (message .level (.att 60) .detached 0) (owned .active none twoSites)))).cond 2).modFault.live = true ∧
    (3#8).toNat ≠ (2 : SiteId).val ∧ (3#8) ≠ 1 ∧ (3#8) ≠ 2 := by decide +kernel
/-- A slot's message has been refused or is due: held, under the takeover mark, or neither; MOD_FAULT of D2 clear, with HOLD or not. -/
def refusing (held takeover : Bool) (act : Action) : State :=
  (sent (message .ramp (.att 200) (.slot 0) 0) ((rising .sent).setSlot 0 (some { slotOf .rise .sent with held, takeover }))).setSite 2
    { state := .enabled, active := { modFaultAct := act } }
theorem witness_Answers_ramp :
    (∀ a b : Bool, ((refusing a b .note).slot 0).map (·.dest) = some 2 ∧
      ((refusing a b .note).link 2).out = some (message .ramp (.att 200) (.slot 0) 0)) ∧
    ((refusing false false .hold).site 2).state = .enabled ∧ ((refusing false false .hold).cond 2).modFault.live = false ∧
    ((refusing false false .hold).params 2).modFaultAct = .hold ∧ (refusing false false .note).isHeld 3 = false ∧
    (message .ramp (.att 200) (.slot 0) 0).timer = 0 ∧ recordCount (refusing false false .note).journal.handOver < 256 ∧
    ((after (exec (.ackTimeout 2) (refusing false false .note))).slot 0).map (·.drive) = some (.pacing 1) ∧
    ((after (exec (.ackTimeout 2) (refusing false false .hold))).slot 0).map (·.drive) = some .stopped := by decide +kernel
/-- R109: a hold stops the QUEUED slot and withdraws its request; its end restarts it, sent at once by an idle module. In these states
nothing waits at an idle module. -/
def holdable (drive : Drive) (live : Bool) (out : Option Outstanding) : State :=
  ((((rising drive).setSlot 0 (some { slotOf .rise drive with held := live })).setSite 1
    { state := .enabled, active := { high := 0, inHighAct := .hold } }).setCond 1 { inHigh := { live, sticky := live } }).setLink 2
    { out, queue := if drive = .queued then [.ramp 0] else [] }
theorem witness_Hold_stops :
    let s := holdable .queued false (some (message .level (.att 60) .detached 8))
    (∀ m, (s.link m).out = none → (s.link m).shutters = [] ∧ (s.link m).queue = []) ∧ s.inReset = false ∧
    (s.link 2).queue = [.ramp 0] ∧ ((s.judgeInHigh 1 (.dt 1)).link 2).queue = [] ∧
    ((s.judgeInHigh 1 (.dt 1)).slot 0).map (fun x => (x.held, x.drive)) = some (true, .stopped) := by decide +kernel
theorem witness_Hold_restarts :
    let s := holdable .stopped true none
    (∀ m, (s.link m).shutters = [] ∧ (s.link m).queue = []) ∧ s.isHeld 3 = true ∧
    ((s.judgeInHigh 1 (.dt (-11))).slot 0).map (fun x => (x.held, x.drive)) = some (false, .sent) ∧
    ((s.judgeInHigh 1 (.dt (-11))).link 2).out.map (·.bind) = some (.slot 0) := by decide +kernel
theorem witness_served_holds :
    (holdable .stopped true none).served ∧ (holdable .queued false (some (message .level (.att 60) .detached 8))).served ∧
    (stale .hold false).served ∧ (refusing false false .hold).served := by
  refine ⟨fun _ m _ => witness_Hold_restarts.1 m, fun _ m h => witness_Hold_stops.1 m h, fun _ m _ => ?_, fun _ m _ => ?_⟩
  · revert m; decide +kernel
  · revert m; decide +kernel
/-- What module 2 has waiting when an answer's event ends: three shutter entries, the lowest handle twice, or requests alone. -/
def answered (shutters : List ShutterEntry) (queue : List Request) : State := (rising .queued).setLink 2 { shutters, queue }
theorem witness_Close :
    let e (h : Handle) (n : Nat) : ShutterEntry := { handle := h, first := n, count := 1, input := .degree 1, port := none, bound := true }
    let sentBy (s : State) := ((State.closeAnswer s s 2).link 2).out.map fun o => (o.msg.first, o.msg.cls)
    ((State.finish (answered [e 5 0, e 3 1, e 3 2] [.ramp 0]) (answered [e 5 0, e 3 1, e 3 2] [.ramp 0])).link 2).shutters =
      [e 5 0] ++ e 3 1 :: [e 3 2] ∧
    sentBy (answered [e 5 0, e 3 1, e 3 2] [.ramp 0]) = some (1, .shutter) ∧
    sentBy (answered [] [.ramp 0]) = some (40, .ramp) ∧ sentBy (answered [] [.level 3 7, .ramp 0]) = some (40, .level) ∧
    sentBy (answered [] []) = none := by decide +kernel
theorem witness_Message_fits : (Setting.att 200).inRange ∧ 319 < 65536 ∧ 16 < 256 := ⟨Nat.le_refl _, by decide, by decide⟩
theorem witness_Pacing :
    (rising (.pacing 0)).slot 0 = some (slotOf .rise (.pacing 0)) ∧ ((rising (.pacing 0)).link 2).out = none ∧
    ((rising (.pacing 0)).link 2).queue = [] ∧ ((rising (.pacing 0)).chan 3).motion = some (.att 50) ∧
    ((sent (message .level (.att 60) .detached 1) (rising (.pacing 0))).link 2).out ≠ none ∧
    (((after (exec (.pacingExpiry 0) (rising (.pacing 0)))).link 2).out.map (·.msg.setting)) = some (.att 200) := by decide +kernel
theorem witness_Ramps : 1 ≤ 30 ∧ 1 + (200 - 50 + 30 - 1) / 30 = 6 ∧ (200 - 50 + 30 - 1) / 30 + 1 = 6 ∧
    1 + (200 - 200 + 30 - 1) / 30 = 1 ∧ (200 - 200 + 30 - 1) / 30 + 1 = 1 := by decide
/-- Channel 3 DARK, shuttered by D1, whose hold-off is due. -/
def restoring : State :=
  ((owned .dark none twoSites).setChan 3 { channel .dark none with shutteredBy := some 1, desc := none }).setCond 1 { holdOff := some 0 }
theorem witness_HoldOff :
    (restoring.cond 1).holdOff = some 0 ∧ restoring.inReset = false ∧ (restoring.chan 3).shutteredBy = some 1 ∧
    (restoring.chan 3).pending = none ∧
    ((after (exec (.holdOffExpiry 1) (full restoring))).cond 1).restoreDeferred = true ∧
    ((after (exec (.holdOffExpiry 1) restoring)).chan 3).state = .rising := by decide +kernel
/-- R150: the marked sites re-run their expiries, the site without a mark does not; a full list leaves the mark. -/
theorem witness_Rerun :
    let s := restoring.setCond 1 { holdOff := none, restoreDeferred := true }
    (s.cond 1).restoreDeferred = true ∧ (s.cond 0).restoreDeferred = false ∧ (s.rerunDeferred.waitList.map (·.handle)) = [3] ∧
    (s.rerunDeferred.cond 1).restoreDeferred = false ∧ ((full s).rerunDeferred.cond 1).restoreDeferred = true ∧
    (restoring.rerunDeferred.waitList = []) := by decide +kernel
/-- R133, Table 12-12: each condition of R124 fails in its turn. -/
theorem witness_LoopStatus :
    State.reset.loopStatus 2 = 1 ∧ (twoSites.setSite 2 { state := .enabled, frozen := true }).loopStatus 2 = 2 ∧
    ((stale .hold false).setCond 2 { monStale := { live := true, sticky := true } }).loopStatus 2 = 3 ∧
    (rising .sent).loopStatus 2 = 4 ∧ twoSites.loopStatus 2 = 0 ∧ twoSites.quiet 2 = true ∧ (rising .sent).quiet 2 = false := by
  decide +kernel
/-- D1 with a LOS threshold of −200 and an action. -/
def los (act : Action) (live : Bool) (st : ChanState) : State :=
  ((owned st (if st = .rising then some (.slot 0) else none) twoSites).setSite 1 { state := .enabled, active := { los := -200, inLosAct := act } }).setCond 1
    { inLos := { live, sticky := live } }
theorem witness_Loss :
    ((los .shutter false .active).cond 1).inLos.live = false ∧ ((los .shutter false .active).params 1).los = -200 ∧
    (((los .shutter false .active).judgeInLos 1 (.dt (-200))).cond 1).inLos.live = false ∧
    (((los .shutter false .active).judgeInLos 1 (.dt (-201))).chan 3).applied = .blocked ∧
    (((los .shutter false .falling).judgeInLos 1 .noLight).chan 3) = {} ∧
    (((los .note false .active).judgeInLos 1 .noLight).chan 3).state = .active ∧
    (((los .shutter true .active).judgeInLos 1 (.dt (-190))).cond 1).inLos.live = true ∧
    (((los .shutter true .active).judgeInLos 1 (.dt (-189))).cond 1).inLos.live = false := by decide +kernel
/-- Conditions of D1, live or not, with HOLD, and a hold-off. -/
def judging (live : Bool) (holdOff : Nat) : State :=
  (restoring.setSite 1 { state := .enabled, active := { los := -200, high := 0, holdOff, inLosAct := .hold, inHighAct := .hold, monStaleAct := .hold } }).setCond 1
    { inLos := { live, sticky := true }, inHigh := { live, sticky := true }, modFault := { live, sticky := true }, monStale := { live, sticky := true } }
theorem witness_Loss_others :
    (((judging true 0).judgeInLos 1 (.dt (-189))).waitList.map (·.handle)) = [3] ∧
    (((judging true 60000).judgeInLos 1 (.dt (-189))).cond 1).holdOff = some 60000 ∧
    (((judging true 0).judgeInHigh 1 (.dt (-10))).cond 1).inHigh.live = true ∧
    (((judging true 0).judgeInHigh 1 (.dt (-11))).cond 1).inHigh.live = false ∧
    (((judging false 0).judgeInHigh 1 (.dt 0)).cond 1).inHigh.live = false ∧
    (((judging false 0).judgeInHigh 1 (.dt 1)).cond 1).inHigh.live = true ∧
    ((judging true 0).site 1).state = .enabled ∧ ((judging true 0).cond 1).modFault.live = true ∧
    ((judging true 0).tap 1).stale = false ∧ tapSite 1 = 1 := by decide +kernel
/-- A module's shutter set with no room, a message outstanding. -/
def fullSet (s : State) : State :=
  s.setLink 2 { s.link 2 with out := some (message .level (.att 60) .detached 8),
                              shutters := List.replicate 256 { handle := 9, first := 0, count := 1, input := .degree 1, port := none, bound := false } }
theorem witness_Shutter_rows :
    let rise := (withChannel .dark (some .waiting) (waiting .rise twoSites))
    let fall := (withChannel .active (some .waiting) (waiting .fall twoSites))
    rise.waits 3 .rise = true ∧ fall.waits 3 .fall = true ∧ (rise.chan 3).srcSite = 1 ∧ ((rising .sent).chan 3).state = .rising ∧
    (rising .sent).slot 0 = some (slotOf .rise .sent) ∧ ((State.shutterOne 1 rise 3).chan 3).shutteredBy = some 1 ∧
    (((State.shutterOne 1 (rising .sent) 3).link 2).out.map (·.msg.cls)) = some .shutter ∧
    ((State.shutterOne 1 fall 3).chan 3) = {} ∧ (((State.shutterOne 1 fall 3).link 2).out.map (·.bind)) = some .detached ∧
    256 ≤ ((fullSet (owned .active none twoSites)).link 2).shutters.length ∧
    ((State.shutterOne 1 (fullSet (owned .active none twoSites)) 3).chan 3).unconfirmed = true ∧
    ((fullSet (owned .active none twoSites)).cond 2).modFault.live = false := by decide +kernel
/-- R83, R22: a SHUTTER that removes an acting barrier, or ends a FALL whose entry is claimed, makes a pass due. -/
theorem witness_Shutter_due :
    let active := withChannel .active (some .waiting) (barrier .adjust twoSites)
    (active.entryOf 3).map (·.barrier) = some true ∧ active.isHeld 3 = false ∧ (State.shutterOne 1 active 3).passDue = true ∧
    (State.shutterOne 1 (withChannel .active (some .waiting) (waiting .adjust twoSites)) 3).passDue = false ∧
    (State.shutterOne 1 (slice40 { owner := some 3, claimant := some 4 } (withChannel .falling none twoSites)) 3).passDue = true := by
  decide +kernel
/-- R146, R118 (notes/assumptions/40.md): the MOD_FAULT of a full set is recorded before the channel's SHUTTERED record. -/
theorem test_full_set_records :
    ((State.shutterOne 1 (fullSet (owned .active none twoSites)) 3).journal.handOver.filterMap fun i => match i with
      | .record r => some r.kind
      | .word _ _ _ => none) = [.condRaised, .shuttered] := by decide +kernel
theorem witness_Log : (10 : Nat) ≤ 10 ∧ (99999999 : Nat) < 100000000 ∧ (199 : Int) ≤ 200 ∧ lin 199 < lin 200 := by decide +kernel
/-- R117 (notes/assumptions/44.md): at a busy module the channel's outstanding LEVEL message is detached at its admission. -/
theorem witness_Admission_busy :
    let s := sent (message .level (.att 60) (.channel 3) 8) (passing .adjust .active)
    let u := s.admitEntry { kind := .adjust, handle := 3, desc := some 0x4020, dest := 2, preset := some 60 }
    s.slot 0 = none ∧ (s.link 2).out = some (message .level (.att 60) (.channel 3) 8) ∧
    (u.link 2).out.map (·.bind) = some .detached ∧ (u.link 2).queue = [.ramp 0] := by decide +kernel
/-- The egress tap of D2 reads −100 on every slice. -/
def egress (v : Half) : State := (owned .active none twoSites).setTap 10 { received := true, slices := Vector.replicate 320 v }
theorem witness_LevelLoop :
    ((egress 0xFF9C).params 2).inRange ∧ ((egress 0xFF9C).chan 3).state = .active ∧ ((egress 0xFF9C).chan 3).pending = none ∧
    (egress 0xFF9C).measOut ((egress 0xFF9C).chan 3) = .dt (-40) ∧ (egress 0x8000).measOut ((egress 0x8000).chan 3) = .noLight ∧
    ((egress 0xFF9C).chan 3).applied = .att 50 := by
  refine ⟨?_, ?_⟩
  · show _ ∧ _; decide +kernel
  · decide +kernel
/-- D2's queue with a number of LEVEL requests of other channels, behind a message or idle. -/
def levels (n : Nat) (out : Bool) : State :=
  (egress 0xFF9C).setLink 2
    { queue := List.replicate n (.level 9 5), out := if out then some (message .level (.att 60) .detached 8) else none }
/-- The four conditions of R124 hold at D2; the queue is full to LEVEL requests, has room, or is empty at an idle module. -/
theorem witness_LevelQueue :
    ((egress 0xFF9C).site 2).state = .enabled ∧ ((egress 0xFF9C).site 2).frozen = false ∧ (egress 0xFF9C).destHold 2 = false ∧
    (∀ k, (egress 0xFF9C).slot k = none) ∧ (rising .sent).slotTo 2 = true ∧
    (((levels 16 true).placeLevel 2 3 7).link 2).queue.length = 16 ∧ (((levels 15 true).placeLevel 2 3 7).link 2).queue.length = 16 ∧
    (((levels 16 true).placeLevel 2 9 7).link 2).queue.head? = some (.level 9 7) ∧
    (((levels 0 false).placeLevel 2 3 7).link 2).out.map (·.msg.setting) = some (.att 7) := by decide +kernel

end Sys2Proof.Tests
end

section
/-!
SUPPORT. More of the engine's frame: the answers, the expiries, the frames of the scan link and the offers of a decision leave the outer
part alone.
-/

namespace Sys2Proof.Machine

open Sys2Proof

/-! ### Answers, expiries and frames -/

@[simp] theorem State.outer_complete (s : State) (t : Slot) : (s.complete t).outer = s.outer := by
  unfold State.complete
  dsimp only
  split <;> simp

@[simp] theorem State.outer_rampAnswer (s : State) (k : SlotId) (a : Setting) (ok : Bool) :
    (s.rampAnswer k a ok).outer = s.outer := by
  unfold State.rampAnswer
  dsimp only
  split
  · rfl
  · split
    · split <;> simp
    · simp

@[simp] theorem State.outer_channelAnswer (s : State) (h : Handle) (m : SettingMsg) (ok : Bool) :
    (s.channelAnswer h m ok).outer = s.outer := by
  unfold State.channelAnswer
  dsimp only
  split
  · split <;> simp
  · simp
  · rfl

@[simp] theorem State.outer_classAnswer (s : State) (o : Outstanding) (ok : Bool) :
    (s.classAnswer o ok).outer = s.outer := by
  unfold State.classAnswer; split <;> simp

@[simp] theorem State.outer_busy (s : State) (m : SiteId) : (s.busy m).outer = s.outer := rfl

@[simp] theorem State.outer_faultAnswer (s : State) (m : SiteId) (ok : Bool) : (s.faultAnswer m ok).outer = s.outer := by
  unfold State.faultAnswer; split <;> simp

@[simp] theorem State.outer_closeAnswer (b s : State) (m : SiteId) : (State.closeAnswer b s m).outer = s.outer := by
  simp [State.closeAnswer]

@[simp] theorem State.outer_messageEnds (s : State) (m : SiteId) (ok : Bool) : (s.messageEnds m ok).outer = s.outer := by
  unfold State.messageEnds; split <;> simp

@[simp] theorem State.outer_takeAck (s : State) (l : SiteId) (m q o : Byte) : (s.takeAck l m q o).outer = s.outer := by
  unfold State.takeAck
  split
  · rfl
  · split
    · rfl
    · split <;> simp

@[simp] theorem State.outer_ackExpires (s : State) (m : SiteId) : (s.ackExpires m).outer = s.outer := by
  unfold State.ackExpires; split <;> simp

@[simp] theorem State.outer_pacingExpires (s : State) (k : SlotId) : (s.pacingExpires k).outer = s.outer := by
  unfold State.pacingExpires; split <;> simp

@[simp] theorem State.outer_holdOffExpires (s : State) (n : SiteId) : (s.holdOffExpires n).outer = s.outer := by
  unfold State.holdOffExpires; split <;> simp

@[simp] theorem State.outer_staleExpires (s : State) (t : TapId) : (s.staleExpires t).outer = s.outer := by
  unfold State.staleExpires; split <;> simp

@[simp] theorem State.outer_storeFrame (s : State) (t : TapId) (f : List Byte) : (s.storeFrame t f).outer = s.outer := by
  unfold State.storeFrame; dsimp only; split <;> simp

@[simp] theorem State.outer_offerFrame (s : State) (t : TapId) (b : Bool) : (s.offerFrame t b).outer = s.outer := by
  unfold State.offerFrame
  dsimp only
  split <;> split <;> simp

@[simp] theorem State.outer_goodFrame (s : State) (t : TapId) (f : List Byte) : (s.goodFrame t f).outer = s.outer := by
  unfold State.goodFrame; dsimp only; split <;> simp

@[simp] theorem State.outer_clearTap (s : State) (t : TapId) : (s.clearTap t).outer = s.outer := rfl

@[simp] theorem State.outer_startStale (s : State) (t : TapId) (n : SiteId) : (s.startStale t n).outer = s.outer := rfl

@[simp] theorem State.outer_enabled (s : State) (n : SiteId) (p : Params) (mask : Half) :
    (s.enabled n p mask).outer = s.outer := by
  simp [State.enabled]

@[simp] theorem State.outer_setFreeze (v : Bool) (s : State) (n : SiteId) : (s.setFreeze v n).outer = s.outer := rfl

/-- The state an offer's answer carries; a refused offer carries none. -/
def Offer.state? : Offer → Option State
  | .admitted t | .complete t | .appended t => some t
  | .full => none

theorem State.outer_of_offer {s t : State} {e : WaitEntry} (h : (s.offer e).state? = some t) : t.outer = s.outer := by
  unfold State.offer at h
  split at h
  · split at h
    · cases h; exact State.outer_completeAdjust s e
    · cases h; exact State.outer_admit s e
  · split at h
    · cases h; exact State.outer_append s e
    · cases h

end Sys2Proof.Machine
end

section
/-!
SUPPORT. The frame of every command: the reset input, the tick counter, the straps, the queue of commands and the plan memory are
written by no command's effect, but for TICK, the two commands of the reset input and the cycles of the memory bus (R1, R166, R167).
-/

namespace Sys2Proof.Machine

open Sys2Proof

/-! ### What only time, reset and the memory bus change -/

/-- The fields that no command's effect writes: the reset input, the tick counter, the straps and the queue of commands, which belong to
RESET_ASSERT, RESET_RELEASE, TICK and the step; and the plan memory, which belongs to the memory bus. -/
structure Fixed where
  inReset : Bool
  tick : Word
  straps : BitVec 2
  pending : List Instr
  mem : List Host.Cell

/-- The fixed fields, read from the outer part. -/
def Outer.fixed (o : Outer) : Fixed :=
  { inReset := o.inReset, tick := o.tick, straps := o.straps, pending := o.pending, mem := o.mem }

/-- The fixed fields of a state. -/
def State.fixed (s : State) : Fixed := s.outer.fixed

/-- States with the same fixed fields agree on each of them. -/
theorem State.fixed_eq_iff (s t : State) :
    s.fixed = t.fixed ↔
      s.inReset = t.inReset ∧ s.tick = t.tick ∧ s.straps = t.straps ∧ s.pending = t.pending ∧ s.mem = t.mem := by
  simp [State.fixed, Outer.fixed, State.outer]

/-- What keeps the outer part keeps the fixed fields. -/
theorem State.fixed_of_outer {s t : State} (h : t.outer = s.outer) : t.fixed = s.fixed := congrArg Outer.fixed h

/-! ### Writes of single fields -/

@[simp] theorem State.fixed_setCond (s : State) (n : SiteId) (c : CondRec) : (s.setCond n c).fixed = s.fixed := rfl
@[simp] theorem State.fixed_setSite (s : State) (n : SiteId) (x : Site) : (s.setSite n x).fixed = s.fixed := rfl
@[simp] theorem State.fixed_setChan (s : State) (h : Handle) (c : Channel) : (s.setChan h c).fixed = s.fixed := rfl
@[simp] theorem State.fixed_clearTap (s : State) (t : TapId) : (s.clearTap t).fixed = s.fixed := rfl
@[simp] theorem State.fixed_walker (s : State) (w : Walker) : { s with walker := w }.fixed = s.fixed := rfl
@[simp] theorem State.fixed_cmd (s : State) (c : CommandLog) : { s with cmd := c }.fixed = s.fixed := rfl
@[simp] theorem State.fixed_latches (s : State) (l : Latches) : { s with latches := l }.fixed = s.fixed := rfl
@[simp] theorem State.fixed_attn (s : State) (a : Attn) : { s with attn := a }.fixed = s.fixed := rfl

/-! ### Port, fetch queue and sites -/

@[simp] theorem State.fixed_finish (b s : State) : (State.finish b s).fixed = s.fixed := State.fixed_of_outer (by simp)
@[simp] theorem State.fixed_handOver (s : State) (l : List Item) : (s.handOver l).fixed = s.fixed :=
  State.fixed_of_outer (by simp)
@[simp] theorem State.fixed_endGrant (s : State) : s.endGrant.fixed = s.fixed := rfl

@[simp] theorem State.fixed_settleFairness (s : State) : s.settleFairness.fixed = s.fixed := by
  unfold State.settleFairness; split <;> rfl

@[simp] theorem State.fixed_requestSetup (s : State) : s.requestSetup.fixed = s.fixed := by
  unfold State.requestSetup; split <;> rfl

@[simp] theorem State.fixed_joinFetch (s : State) (n : SiteId) : (s.joinFetch n).fixed = s.fixed := by
  unfold State.joinFetch
  rw [State.fixed_requestSetup]
  split <;> rfl

@[simp] theorem State.fixed_abandonFetch (s : State) (n : SiteId) : (s.abandonFetch n).fixed = s.fixed := by
  unfold State.abandonFetch
  split
  · rfl
  · split
    · rw [State.fixed_settleFairness, State.fixed_requestSetup]; rfl
    · rfl

@[simp] theorem State.fixed_enableSite (s : State) (n : SiteId) : (s.enableSite n).fixed = s.fixed :=
  State.fixed_joinFetch _ n

@[simp] theorem State.fixed_reloadSite (s : State) (n : SiteId) : (s.reloadSite n).fixed = s.fixed := by
  unfold State.reloadSite
  dsimp only
  split
  · exact State.fixed_joinFetch _ n
  · split <;> rfl
  · exact State.fixed_joinFetch _ n

@[simp] theorem State.fixed_reloaded (s : State) (n : SiteId) (p : Params) (mask : Half) :
    (s.reloaded n p mask).fixed = s.fixed := by
  unfold State.reloaded
  dsimp only
  split
  · exact State.fixed_joinFetch _ n
  · refine State.fixed_of_outer ?_
    split <;> simp

@[simp] theorem State.fixed_siteDown (s : State) (n : SiteId) : (s.siteDown n).fixed = s.fixed := by
  simp [State.siteDown]

@[simp] theorem State.fixed_disableSite (s : State) (n : SiteId) : (s.disableSite n).fixed = s.fixed := by
  unfold State.disableSite
  split
  · rfl
  · exact State.fixed_siteDown s n
  · rw [State.fixed_finish, State.fixed_siteDown]
    exact State.fixed_of_outer (State.outer_tearDown s n)

@[simp] theorem State.fixed_deliver (s : State) (b : SetupBurst) : (s.deliver b).fixed = s.fixed := by
  unfold State.deliver
  dsimp only
  split
  · split <;> simp
  · split
    · exact State.fixed_of_outer (State.outer_enabled s _ _ _)
    · exact State.fixed_reloaded s _ _ _
    · rfl

@[simp] theorem State.fixed_setupDone (s : State) : s.setupDone.fixed = s.fixed := by
  unfold State.setupDone
  split
  · split
    · rfl
    · rw [State.fixed_finish, State.fixed_requestSetup, State.fixed_deliver]; rfl
  · rfl

/-! ### The scan link -/

theorem State.fixed_endFrame (s : State) (f : List Byte) : (s.endFrame f).fixed = s.fixed := by
  unfold State.endFrame
  dsimp only
  split
  · rfl
  · rfl
  · rw [State.fixed_of_outer (State.outer_goodFrame _ _ _)]; rfl

@[simp] theorem State.fixed_scanStep (s : State) (b : Byte) : (s.scanStep b).fixed = s.fixed := by
  unfold State.scanStep State.takeByte
  dsimp only
  split
  · rfl
  · split
    · split
      · exact State.fixed_endFrame s _
      · rfl
    · split <;> rfl

@[simp] theorem State.fixed_abandonFrame (s : State) : s.abandonFrame.fixed = s.fixed := by
  unfold State.abandonFrame; split <;> rfl

/-! ### Placing and the walker -/

theorem State.fixed_placeItem {s t : State} {i : Item} (h : s.placeItem i = some t) : t.fixed = s.fixed := by
  rw [placeItem_only h]; rfl

@[simp] theorem State.fixed_placeHandOver (s : State) : s.placeHandOver.fixed = s.fixed := by
  rw [placeHandOver_only]; rfl

@[simp] theorem State.fixed_writerPlaces (s : State) : s.writerPlaces.fixed = s.fixed :=
  writerPlaces_induct (P := (·.fixed = s.fixed)) (fun _ h => (State.fixed_placeHandOver _).trans h) rfl

theorem State.fixed_placeItems (s : State) (l : List Item) : (s.placeItems l).1.fixed = s.fixed := by
  induction l generalizing s with
  | nil => rfl
  | cons i l ih =>
    unfold State.placeItems
    split
    · rfl
    · rename_i t ht
      exact (ih t).trans (State.fixed_placeItem ht)

@[simp] theorem State.fixed_walkerPlaces (s : State) : s.walkerPlaces.fixed = s.fixed := State.fixed_placeItems s _

@[simp] theorem State.fixed_finishWalk (s : State) : s.finishWalk.fixed = s.fixed := by
  unfold State.finishWalk; dsimp only; split <;> rfl

@[simp] theorem State.fixed_followChain (s : State) : s.followChain.fixed = s.fixed := by
  unfold State.followChain
  split
  · rfl
  · dsimp only; split <;> rfl

@[simp] theorem State.fixed_endWalk (s : State) : s.endWalk.fixed = s.fixed := by
  unfold State.endWalk; dsimp only; split <;> simp

@[simp] theorem State.fixed_walkerRun (s : State) : s.walkerRun.fixed = s.fixed := by
  unfold State.walkerRun
  dsimp only
  split
  · simp
  · split
    · simp
    · split <;> simp

@[simp] theorem State.fixed_resumeWalker (s : State) : s.resumeWalker.fixed = s.fixed := by
  unfold State.resumeWalker; split <;> simp

@[simp] theorem State.fixed_startWalk (s : State) (a : Half) (l : List Half) : (s.startWalk a l).fixed = s.fixed := rfl

/-! ### Decisions -/

@[simp] theorem State.fixed_enterFlight (s : State) (a : Half) : (s.enterFlight a).fixed = s.fixed := by
  unfold State.enterFlight; split <;> rfl

@[simp] theorem State.fixed_refuse (s : State) (a : Half) (d : Desc) (r : Reason) : (s.refuse a d r).1.fixed = s.fixed := rfl

@[simp] theorem State.fixed_enterDeciding (s : State) : s.enterDeciding.fixed = s.fixed := State.fixed_writerPlaces s

@[simp] theorem State.fixed_settle (s : State) (r : Decision) : (s.settle r).fixed = r.1.fixed := by
  simp [State.settle]

/-- A decision that answers with the fixed fields of the state it was made in. -/
def Decision.keeps (r : Decision) (s : State) : Prop := r.1.fixed = s.fixed

theorem State.refuse_keeps (s : State) (off : Half) (d : Desc) (r : Reason) : (s.refuse off d r).keeps s := rfl

/-- The state an offer answers keeps the fixed fields, where the writes before it did. -/
theorem State.fixed_offered {s s1 u : State} {e : WaitEntry} (h1 : s1.fixed = s.fixed)
    (hu : (s1.offer e).state? = some u) : u.fixed = s.fixed :=
  (State.fixed_of_outer (State.outer_of_offer hu)).trans h1

/-- A decision that makes an offer, after writes that keep the fixed fields, and enters the descriptor in flight. -/
theorem State.offered_keeps {s s1 u : State} {e : WaitEntry} {off : Half} {items : List Item} (h1 : s1.fixed = s.fixed)
    (hu : (s1.offer e).state? = some u) : Decision.keeps (u.enterFlight off, items) s :=
  (State.fixed_enterFlight u off).trans (State.fixed_offered h1 hu)

theorem State.decideSetup_keeps (s : State) (off : Half) (d : Desc) : (s.decideSetup off d).keeps s := by
  unfold State.decideSetup
  split
  · rfl
  · dsimp only
    split
    · rfl
    · have reserved (c : Channel) : ((s.reserve d.handle c.footprint).setChan d.handle c).fixed = s.fixed :=
        State.fixed_of_outer (by simp)
      split
      · rename_i u hu; exact State.offered_keeps (reserved _) (by rw [hu]; rfl)
      · rename_i u hu; exact State.offered_keeps (reserved _) (by rw [hu]; rfl)
      · rename_i u hu; exact State.offered_keeps (reserved _) (by rw [hu]; rfl)
      · rfl

theorem State.decideAdopt_keeps (s : State) (off : Half) (d : Desc) : (s.decideAdopt off d).keeps s := by
  unfold State.decideAdopt
  split
  · rfl
  · dsimp only
    split
    · rfl
    · split
      · rfl
      · exact (State.fixed_enterFlight _ off).trans (State.fixed_of_outer (by simp))

theorem State.decideRetarget_keeps (s : State) (off : Half) (d : Desc) : (s.decideRetarget off d).keeps s := by
  unfold State.decideRetarget
  dsimp only
  split
  · rfl
  · rfl
  · rfl
  · rfl
  · rfl
  · split
    · rfl
    · split
      · rfl
      · split
        · rename_i u hu; exact State.offered_keeps (State.fixed_setChan s _ _) (by rw [hu]; rfl)
        · rename_i u hu; exact State.fixed_offered (State.fixed_setChan s _ _) (by rw [hu]; rfl)
        · rename_i u hu; exact State.offered_keeps (State.fixed_setChan s _ _) (by rw [hu]; rfl)
        · rfl

theorem State.offerFall_keeps {s s1 : State} (off : Half) (d : Desc) (before : List Item) (h : s1.fixed = s.fixed) :
    (s.offerFall s1 off d before).keeps s := by
  unfold State.offerFall
  dsimp only
  split
  · rename_i u hu; exact State.offered_keeps ((State.fixed_setChan s1 _ _).trans h) (by rw [hu]; rfl)
  · rename_i u hu; exact State.offered_keeps ((State.fixed_setChan s1 _ _).trans h) (by rw [hu]; rfl)
  · rename_i u hu; exact State.offered_keeps ((State.fixed_setChan s1 _ _).trans h) (by rw [hu]; rfl)
  · rfl

theorem State.decideRelease_keeps (s : State) (off : Half) (d : Desc) : (s.decideRelease off d).keeps s := by
  have taken (k : SlotId) : ((s.takeOver k d.handle off).enterFlight off).fixed = s.fixed :=
    (State.fixed_enterFlight _ off).trans (State.fixed_of_outer (State.outer_takeOver s k _ off))
  unfold State.decideRelease
  dsimp only
  split
  · rfl
  · rfl
  · exact State.fixed_of_outer (State.outer_toFree s _ _)
  · split
    · rfl
    · exact State.offerFall_keeps off d _ (State.fixed_of_outer (State.outer_dropTransition s _))
  all_goals
    split
    · exact taken _
    · rfl
    · rfl

theorem State.decideMark_keeps (s : State) (off : Half) (d : Desc) : (s.decideMark off d).keeps s := rfl
theorem State.decideInFlight_keeps (s : State) (off : Half) (d : Desc) : (s.decideInFlight off d).keeps s := rfl

/-- A decision step keeps the fixed fields if its decision does. -/
theorem State.fixed_decideStep (s : State) (applies : Half → Desc → Bool) {decision : State → Half → Desc → Decision}
    (h : ∀ t off d, (decision t off d).keeps t) : (s.decideStep applies decision).fixed = s.fixed := by
  unfold State.decideStep
  split
  · rfl
  · split
    · rw [State.fixed_settle, h, State.fixed_enterDeciding]
    · rfl

/-! ### Commands and control cells -/

theorem State.outer_freezes (v : Bool) (l : List SiteId) (s : State) : (l.foldl (State.setFreeze v) s).outer = s.outer :=
  foldl_keeps _ _ (State.outer_setFreeze v) l s

theorem State.fixed_commandGo (s : State) (x : BitVec 24) : (s.commandGo x).1.fixed = s.fixed := by
  unfold State.commandGo
  dsimp only
  split
  · rfl
  · split
    · rfl
    · split <;> rfl

theorem State.fixed_commandHalt (s : State) : s.commandHalt.1.fixed = s.fixed := by
  unfold State.commandHalt
  split
  · rfl
  · split <;> rfl

theorem State.fixed_commandFreeze (s : State) (x : BitVec 24) : (s.commandFreeze x).1.fixed = s.fixed := by
  unfold State.commandFreeze
  split
  · rfl
  · exact State.fixed_of_outer (by simp [State.outer_freezes])

theorem State.fixed_commandThaw (s : State) (x : BitVec 24) : (s.commandThaw x).1.fixed = s.fixed := by
  unfold State.commandThaw
  split
  · rfl
  · exact State.fixed_of_outer (by simp [State.outer_freezes])

theorem State.fixed_commandEnable (s : State) (x : BitVec 24) : (s.commandEnable x).1.fixed = s.fixed := by
  unfold State.commandEnable
  split
  · rfl
  · split <;> simp

theorem State.fixed_commandDisable (s : State) (x : BitVec 24) : (s.commandDisable x).1.fixed = s.fixed := by
  unfold State.commandDisable
  split
  · rfl
  · split <;> simp

theorem State.fixed_commandReload (s : State) (x : BitVec 24) : (s.commandReload x).1.fixed = s.fixed := by
  unfold State.commandReload
  split
  · rfl
  · split <;> simp

theorem State.fixed_command (s : State) (code : Byte) (x : BitVec 24) : (s.command code x).1.fixed = s.fixed := by
  unfold State.command
  split
  · exact s.fixed_commandGo x
  · exact s.fixed_commandHalt
  · exact s.fixed_commandFreeze x
  · exact s.fixed_commandThaw x
  · exact s.fixed_commandEnable x
  · exact s.fixed_commandDisable x
  · exact s.fixed_commandReload x
  · rfl

/-- Recording a command's code and result keeps the fixed fields. -/
@[simp] theorem State.fixed_logCommand (r : State × CmdResult) (code : Byte) : (State.logCommand r code).fixed = r.1.fixed := rfl

@[simp] theorem State.fixed_takeCommand (s : State) (w : Word) : (s.takeCommand w).fixed = s.fixed :=
  State.fixed_command s _ _

@[simp] theorem State.fixed_offerConsumer (s : State) (v : Half) : (s.offerConsumer v).fixed = s.fixed := by
  unfold State.offerConsumer; split <;> rfl

@[simp] theorem State.fixed_controlWrite (s : State) (o : Nat) (w : Word) : (s.controlWrite o w).fixed = s.fixed := by
  unfold State.controlWrite
  repeat' split
  all_goals simp

/-! ### Controller cycles -/

@[simp] theorem State.fixed_answer (s : State) (en : BitVec 4) (w : Word) : (s.answer en w).fixed = s.fixed := rfl
@[simp] theorem State.fixed_holdCycle (s : State) (c : BusCycle) : (s.holdCycle c).fixed = s.fixed := rfl
@[simp] theorem State.fixed_mergeQueued (s : State) (o : Nat) (en : BitVec 4) (w : Word) :
    (s.mergeQueued o en w).fixed = s.fixed := rfl

@[simp] theorem State.fixed_clearSticky (s : State) (w : StickyWord) (en : BitVec 4) : (s.clearSticky w en).fixed = s.fixed := by
  unfold State.clearSticky
  split
  · split <;> rfl
  · rfl

@[simp] theorem State.fixed_viewRead (s : State) (o : Nat) (en : BitVec 4) : (s.viewRead o en).fixed = s.fixed := by
  unfold State.viewRead; dsimp only; split <;> simp

@[simp] theorem State.fixed_windowWrite (s : State) (o : Nat) (c : BusCycle) : (s.windowWrite o c).fixed = s.fixed := by
  unfold State.windowWrite
  dsimp only
  split
  · rfl
  · split <;> simp

@[simp] theorem State.fixed_windowRead (s : State) (o : Nat) (c : BusCycle) : (s.windowRead o c).fixed = s.fixed := by
  unfold State.windowRead
  split
  · rfl
  · split
    · simp
    · split
      · split <;> simp
      · rfl

/-- Out of reset the arrival of a controller cycle keeps the fixed fields: the memory bus is taken at the grant. -/
theorem State.fixed_arrive {s : State} (hs : s.inReset = false) (c : BusCycle) : (s.arrive c).fixed = s.fixed := by
  simp only [State.arrive, hs, Bool.false_eq_true, if_false]
  split
  · simp
  · split <;> simp

/-! ### The controller lock -/

@[simp] theorem State.fixed_assertLock (s : State) : s.assertLock.fixed = s.fixed := by
  unfold State.assertLock; split <;> rfl

@[simp] theorem State.fixed_deassertLock (s : State) : s.deassertLock.fixed = s.fixed := rfl

@[simp] theorem State.fixed_breakLock (s : State) : s.breakLock.fixed = s.fixed := by
  unfold State.breakLock
  split
  · exact State.fixed_handOver _ _
  · rfl

/-! ### The memory bus -/

/-- Two states have the same fixed fields but for the plan memory. -/
def State.SameButMemory (s t : State) : Prop := t.fixed = { s.fixed with mem := t.mem }

theorem State.sameButMemory_iff (s t : State) :
    s.SameButMemory t ↔ t.inReset = s.inReset ∧ t.tick = s.tick ∧ t.straps = s.straps ∧ t.pending = s.pending := by
  simp [State.SameButMemory, State.fixed, Outer.fixed, State.outer]

theorem State.SameButMemory.of_fixed {s t : State} (h : t.fixed = s.fixed) : s.SameButMemory t := by
  obtain ⟨hreset, htick, hstraps, hpending, -⟩ := (State.fixed_eq_iff t s).mp h
  exact (s.sameButMemory_iff t).mpr ⟨hreset, htick, hstraps, hpending⟩

theorem State.SameButMemory.trans {s t u : State} (h : s.SameButMemory t) (g : t.SameButMemory u) : s.SameButMemory u := by
  rw [State.sameButMemory_iff] at *
  obtain ⟨hreset, htick, hstraps, hpending⟩ := h
  obtain ⟨greset, gtick, gstraps, gpending⟩ := g
  exact ⟨greset.trans hreset, gtick.trans htick, gstraps.trans hstraps, gpending.trans hpending⟩

theorem State.sameButMemory_foldl {α : Type} {f : State → α → State} (hf : ∀ (s : State) a, s.SameButMemory (f s a)) (l : List α)
    (s : State) : s.SameButMemory (l.foldl f s) := by
  induction l generalizing s with
  | nil => rfl
  | cons a l ih => exact (hf s a).trans (ih _)

theorem State.sameButMemory_busAccess (s : State) (c : BusCycle) : s.SameButMemory (s.busAccess c) := by
  unfold State.busAccess; split <;> rfl

theorem State.sameButMemory_sramWrites (s : State) (l : List (Nat × Word)) : s.SameButMemory (s.sramWrites l) :=
  State.sameButMemory_foldl (fun t (w : Nat × Word) => (rfl : t.SameButMemory (t.sramPut w.1 w.2))) l s

theorem State.sameButMemory_grantController (s : State) : s.SameButMemory s.grantController := by
  unfold State.grantController
  split
  · rfl
  · exact State.SameButMemory.trans rfl (State.sameButMemory_busAccess _ _)

/-- The grant of a burst samples the memory and writes none. -/
@[simp] theorem State.fixed_grantBurst (s : State) : s.grantBurst.fixed = s.fixed := by
  unfold State.grantBurst; split <;> rfl

@[simp] theorem State.fixed_grantPosting (s : State) : s.grantPosting.fixed = s.fixed := rfl

/-- Everything the Arbiter can do: grant the oldest controller cycle, or a part request, or nothing (R176). -/
theorem State.grant_cases (s : State) :
    s.grant = s ∨ s.grant = s.grantController ∨ s.grant = s.grantBurst ∨ s.grant = s.grantPosting := by
  unfold State.grant
  dsimp only
  repeat' split
  all_goals simp

theorem State.sameButMemory_grant (s : State) : s.SameButMemory s.grant := by
  rcases s.grant_cases with h | h | h | h <;> rw [h]
  · rfl
  · exact s.sameButMemory_grantController
  · exact .of_fixed s.fixed_grantBurst
  · exact .of_fixed s.fixed_grantPosting

@[simp] theorem State.fixed_leaveFlight (s : State) (p : Posting) : (s.leaveFlight p).fixed = s.fixed := by
  unfold State.leaveFlight
  split
  · rfl
  · dsimp only; split <;> rfl

theorem State.sameButMemory_drain (s : State) : s.SameButMemory s.drain := by
  unfold State.drain
  split
  · rfl
  · split
    · rfl
    · rename_i p rest _
      have written : s.SameButMemory { s.sramWrites p.writes with queue := rest } :=
        (s.sameButMemory_sramWrites p.writes).trans rfl
      exact written.trans (.of_fixed (State.fixed_leaveFlight _ p))

/-- Controller cycles pass through to the memory bus while the reset input is asserted, and arrive with no bus access otherwise. -/
theorem State.sameButMemory_arrive (s : State) (c : BusCycle) : s.SameButMemory (s.arrive c) := by
  cases hs : s.inReset with
  | true => simpa [State.arrive, hs] using s.sameButMemory_busAccess c
  | false => exact .of_fixed (State.fixed_arrive hs c)

theorem State.fixed_cellWrite {s : State} (hs : s.inReset = false) (o : Nat) (w : Word) {effect : State → State}
    (h : ∀ t, (effect t).fixed = t.fixed) : (s.cellWrite o w effect).fixed = s.fixed := by
  simp [State.cellWrite, hs, h]

/-! ### Every command -/

/-- What a command does to the fixed fields when it is neither TICK nor one of the two of the reset input: at most the plan memory
changes, and out of reset that only at a grant or a drain. -/
def State.memoryOnly (s t : State) (c : Instr) : Prop :=
  s.SameButMemory t ∧ (s.inReset = false → c ≠ .arbiterGrant → c ≠ .postingDrain → t.mem = s.mem)

theorem State.memoryOnly_of_fixed {s t : State} {c : Instr} (h : t.fixed = s.fixed) : s.memoryOnly t c :=
  ⟨.of_fixed h, fun _ _ _ => congrArg Fixed.mem h⟩

theorem State.memoryOnly_cellWrite (s : State) (c : Instr) (o : Nat) (w : Word) {effect : State → State}
    (h : ∀ t, (effect t).fixed = t.fixed) : s.memoryOnly (s.cellWrite o w effect) c := by
  cases hs : s.inReset with
  | true =>
    refine ⟨?_, fun hn => by simp [hs] at hn⟩
    simpa [State.cellWrite, hs] using s.sameButMemory_busAccess _
  | false => exact State.memoryOnly_of_fixed (State.fixed_cellWrite hs o w h)

theorem State.memoryOnly_arrive (s : State) (c : Instr) (b : BusCycle) : s.memoryOnly (s.arrive b) c :=
  ⟨s.sameButMemory_arrive b, fun hs _ _ => congrArg Fixed.mem (State.fixed_arrive hs b)⟩

theorem memoryOnly_of_stickyWordRead {s t : State} {word : StickyWord} {en : BitVec 4} (c : Instr)
    (h : execStickyWordRead word en s = .next t) : s.memoryOnly t c := by
  cases h
  split
  · rename_i hs
    exact ⟨s.sameButMemory_busAccess _, fun hn => by simp [hs] at hn⟩
  · exact State.memoryOnly_of_fixed (s.fixed_viewRead _ en)

/-- Every command but TICK, RESET_ASSERT and RESET_RELEASE keeps the fixed fields but for the plan memory, which out of reset only a
grant or a drain writes. -/
theorem exec_memoryOnly {c : Instr} {s t : State} (h : exec c s = .next t) (htick : c ≠ .tick)
    (hassert : ∀ b, c ≠ .resetAssert b) (hrelease : ∀ b, c ≠ .resetRelease b) : s.memoryOnly t c := by
  cases c <;> cases h
  case resetAssert b => exact absurd rfl (hassert b)
  case resetRelease b => exact absurd rfl (hrelease b)
  case tick => exact absurd rfl htick
  case go x => exact s.memoryOnly_cellWrite _ _ _ fun t => t.fixed_commandGo x
  case halt => exact s.memoryOnly_cellWrite _ _ _ fun t => t.fixed_commandHalt
  case freeze x => exact s.memoryOnly_cellWrite _ _ _ fun t => t.fixed_commandFreeze x
  case thaw x => exact s.memoryOnly_cellWrite _ _ _ fun t => t.fixed_commandThaw x
  case enable x => exact s.memoryOnly_cellWrite _ _ _ fun t => t.fixed_commandEnable x
  case disable x => exact s.memoryOnly_cellWrite _ _ _ fun t => t.fixed_commandDisable x
  case reload x => exact s.memoryOnly_cellWrite _ _ _ fun t => t.fixed_commandReload x
  case unknownCommand code x => exact s.memoryOnly_cellWrite _ _ _ fun t => t.fixed_command code x
  case consumerUpdate w => exact s.memoryOnly_cellWrite _ _ _ fun t => t.fixed_offerConsumer _
  case thresholdWrite cell w => exact s.memoryOnly_cellWrite _ _ _ fun t => t.fixed_controlWrite _ w
  case maskWrite cell w => exact s.memoryOnly_cellWrite _ _ _ fun t => t.fixed_controlWrite _ w
  case probeWrite w => exact s.memoryOnly_cellWrite _ _ _ fun t => t.fixed_controlWrite _ w
  case stickyWordRead word en => exact memoryOnly_of_stickyWordRead (word := word) (en := en) _ rfl
  case suppressedWrite => exact s.memoryOnly_arrive _ _
  case controllerCycle => exact s.memoryOnly_arrive _ _
  case lockAssert => exact State.memoryOnly_of_fixed s.fixed_assertLock
  case lockDeassert => exact State.memoryOnly_of_fixed s.fixed_deassertLock
  case lockBroken => exact State.memoryOnly_of_fixed s.fixed_breakLock
  case arbiterGrant => exact ⟨s.sameButMemory_grant, fun _ hn => absurd rfl hn⟩
  case postingDrain => exact ⟨s.sameButMemory_drain, fun _ _ hn => absurd rfl hn⟩
  case setup => exact State.memoryOnly_of_fixed (s.fixed_decideStep _ State.decideSetup_keeps)
  case adopt => exact State.memoryOnly_of_fixed (s.fixed_decideStep _ State.decideAdopt_keeps)
  case retarget => exact State.memoryOnly_of_fixed (s.fixed_decideStep _ State.decideRetarget_keeps)
  case release => exact State.memoryOnly_of_fixed (s.fixed_decideStep _ State.decideRelease_keeps)
  case mark => exact State.memoryOnly_of_fixed (s.fixed_decideStep _ State.decideMark_keeps)
  case badKind => exact State.memoryOnly_of_fixed (s.fixed_decideStep _ fun t off d => t.refuse_keeps off d _)
  case inFlightRefusal => exact State.memoryOnly_of_fixed (s.fixed_decideStep _ State.decideInFlight_keeps)
  case setupFetchComplete => exact State.memoryOnly_of_fixed s.fixed_setupDone
  case walkerPostingPlace => exact State.memoryOnly_of_fixed s.fixed_resumeWalker
  case handoverPlace => exact State.memoryOnly_of_fixed (by split <;> simp)
  case scanByte b => exact State.memoryOnly_of_fixed (s.fixed_scanStep b)
  case byteGapExpiry => exact State.memoryOnly_of_fixed s.fixed_abandonFrame
  case staleTimerExpiry tap => exact State.memoryOnly_of_fixed (State.fixed_of_outer (s.outer_staleExpires tap))
  case ackReceived l m q o => exact State.memoryOnly_of_fixed (State.fixed_of_outer (s.outer_takeAck l m q o))
  case ackTimeout m => exact State.memoryOnly_of_fixed (State.fixed_of_outer (s.outer_ackExpires m))
  case pacingExpiry k => exact State.memoryOnly_of_fixed (State.fixed_of_outer (s.outer_pacingExpires k))
  case holdOffExpiry n => exact State.memoryOnly_of_fixed (State.fixed_of_outer (s.outer_holdOffExpires n))

end Sys2Proof.Machine
end

section
/-!
The reset input, the tick and the cold-reset values: the rules of RESET_ASSERT, RESET_RELEASE and TICK, and the statements O15, O18 and
O3 settled with them.
-/

namespace Sys2Proof.Machine

open Sys2Proof

/-! ### The reset input -/

/-- The assertion of the reset input sets the input's flag and may write the plan memory; no other fixed field changes. -/
theorem State.sameButMemory_assertReset {s : State} (hs : s.inReset = false) (begun : Nat) :
    State.SameButMemory { s with inReset := true } (s.assertReset begun) := by
  have abandoned (u : State) : (allSites.foldl State.abandonMessage u).fixed = u.fixed :=
    foldl_keeps State.abandonMessage State.fixed (fun _ _ => rfl) _ u
  have passed {u : State} (hu : s.SameButMemory u) (l : List BusCycle) : State.SameButMemory { s with inReset := true }
      (allSites.foldl State.abandonMessage (l.foldl State.busAccess { u with inReset := true })) := by
    obtain ⟨-, htick, hstraps, hpending⟩ := (s.sameButMemory_iff u).mp hu
    have raised : State.SameButMemory { s with inReset := true } { u with inReset := true } :=
      (State.sameButMemory_iff _ _).mpr ⟨rfl, htick, hstraps, hpending⟩
    exact (raised.trans (State.sameButMemory_foldl State.sameButMemory_busAccess l _)).trans (.of_fixed (abandoned _))
  have dropped (u : State) (p : Port) (j : Journal) (r : ScanRx) : u.SameButMemory
      { u with port := p, queue := [], walker := {}, setup := {}, journal := j, scan := r } := rfl
  unfold State.assertReset
  rw [if_neg (by simp [hs])]
  dsimp only
  split
  · exact (passed (s.sameButMemory_sramWrites _) _).trans (dropped _ _ _ _)
  · exact (passed (.of_fixed rfl) _).trans (dropped _ _ _ _)

theorem State.assertReset_tick (s : State) (begun : Nat) : (s.assertReset begun).tick = s.tick := by
  cases hs : s.inReset with
  | true => simp [State.assertReset, hs]
  | false =>
    obtain ⟨-, htick, -, -⟩ := (State.sameButMemory_iff _ _).mp (State.sameButMemory_assertReset hs begun)
    exact htick

theorem State.releaseReset_tick (s : State) (straps : BitVec 2) :
    (s.releaseReset straps).tick = if s.inReset then 0 else s.tick := by
  unfold State.releaseReset; split <;> rfl

/-! ### TICK -/

/-- A fold over all places that rewrites one place of a table at a time, by the same function, rewrites every place once. -/
theorem foldl_finRange_pointwise {σ α : Type} {n : Nat} {f : σ → Fin n → σ} {get : σ → Fin n → α} {g : α → α}
    (hf : ∀ s i j, get (f s i) j = if j = i then g (get s i) else get s j) (s : σ) (j : Fin n) :
    get ((List.finRange n).foldl f s) j = g (get s j) := by
  have fold (l : List (Fin n)) (hl : l.Nodup) (s : σ) : get (l.foldl f s) j = if j ∈ l then g (get s j) else get s j := by
    induction l generalizing s with
    | nil => rfl
    | cons i l ih =>
      obtain ⟨hi, hl⟩ := List.nodup_cons.mp hl
      rw [List.foldl_cons, ih hl, hf]
      by_cases hj : j = i
      · subst hj; simp [hi]
      · simp [hj]
  rw [fold _ (List.nodup_finRange n), if_pos (List.mem_finRange j)]

/-- A drive state one tick later: a pacing countdown falls by 1 and stands at 0 (R101, notes/assumptions/5.md). -/
def Drive.ticked : Drive → Drive
  | .pacing n => .pacing (n - 1)
  | d => d

/-- A slot's transition one tick later. -/
def Slot.ticked (x : Slot) : Slot := { x with drive := x.drive.ticked }

theorem Slot.ticked_of_drive {x : Slot} (h : x.drive.ticked = x.drive) : x.ticked = x := by simp [Slot.ticked, h]

/-- What a slot holds, written back, changes nothing. -/
theorem State.setSlot_slot (s : State) (k : SlotId) : s.setSlot k (s.slot k) = s := by
  simp [State.setSlot, State.slot, Vector.get_eq_getElem]

theorem State.tickSlot_eq (s : State) (k : SlotId) : s.tickSlot k = s.setSlot k ((s.slot k).map Slot.ticked) := by
  unfold State.tickSlot
  cases hk : s.slot k with
  | none => simpa [hk] using (s.setSlot_slot k).symm
  | some x =>
    cases hd : x.drive with
    | pacing n => simp [Slot.ticked, Drive.ticked, hd]
    | queued | sent | stopped =>
      have stands : x.ticked = x := Slot.ticked_of_drive (by rw [hd]; rfl)
      simpa [hk, hd, stands] using (s.setSlot_slot k).symm

/-- The four tables with tick-timed countdowns taken from another state: pacing in the slots, ack timers in the links, stale timers in
the taps, hold-offs in the conditions. -/
def State.withCountdowns (s r : State) : State :=
  { s with slots := r.slots, links := r.links, taps := r.taps, conds := r.conds }

/-- TICK writes the tick counter and the four tables with countdowns, and nothing else (R1). -/
theorem State.tickOnce_only {s : State} (hs : s.inReset = false) :
    s.tickOnce = { s with tick := s.tick + 1 }.withCountdowns s.tickOnce := by
  have keeps (r : State) : s.tickOnce.withCountdowns r = { s with tick := s.tick + 1 }.withCountdowns r := by
    unfold State.tickOnce
    rw [if_neg (by simp [hs])]
    dsimp only
    rw [foldl_keeps State.tickCond (·.withCountdowns r) (fun _ _ => rfl),
      foldl_keeps State.tickTap (·.withCountdowns r) (fun _ _ => rfl),
      foldl_keeps State.tickLink (·.withCountdowns r) (fun _ _ => rfl),
      foldl_keeps State.tickSlot (·.withCountdowns r) (fun t k => by rw [t.tickSlot_eq]; rfl)]
  exact keeps s.tickOnce

theorem State.tickOnce_tick (s : State) : s.tickOnce.tick = if s.inReset then s.tick else s.tick + 1 := by
  cases hs : s.inReset with
  | true => simp [State.tickOnce, hs]
  | false => rw [State.tickOnce_only hs]; rfl

theorem State.slot_tickOnce {s : State} (hs : s.inReset = false) (k : SlotId) :
    s.tickOnce.slot k = (s.slot k).map Slot.ticked := by
  unfold State.tickOnce
  rw [if_neg (by simp [hs])]
  dsimp only
  rw [foldl_keeps State.tickCond (·.slot k) (fun _ _ => rfl), foldl_keeps State.tickTap (·.slot k) (fun _ _ => rfl),
    foldl_keeps State.tickLink (·.slot k) (fun _ _ => rfl)]
  exact foldl_finRange_pointwise (get := State.slot) (fun t i j => by rw [t.tickSlot_eq]; exact t.slot_setSlot i _ j) _ k

/-- A module's record one tick later (R116). -/
def Link.ticked (l : Link) : Link := { l with out := l.out.map fun o => { o with timer := o.timer - 1 } }

theorem State.link_tickOnce {s : State} (hs : s.inReset = false) (m : SiteId) : s.tickOnce.link m = (s.link m).ticked := by
  unfold State.tickOnce
  rw [if_neg (by simp [hs])]
  dsimp only
  rw [foldl_keeps State.tickCond (·.link m) (fun _ _ => rfl), foldl_keeps State.tickTap (·.link m) (fun _ _ => rfl)]
  refine (foldl_finRange_pointwise (get := State.link) (g := Link.ticked) (fun t i j => t.link_setLink i _ j) _ m).trans ?_
  rw [foldl_keeps State.tickSlot (·.link m) (fun t k => by rw [t.tickSlot_eq]; rfl)]
  rfl

/-- A tap's record one tick later (R48). -/
def Tap.ticked (x : Tap) : Tap := { x with timer := x.timer.map (· - 1) }

theorem State.tap_tickOnce {s : State} (hs : s.inReset = false) (p : TapId) : s.tickOnce.tap p = (s.tap p).ticked := by
  unfold State.tickOnce
  rw [if_neg (by simp [hs])]
  dsimp only
  rw [foldl_keeps State.tickCond (·.tap p) (fun _ _ => rfl)]
  refine (foldl_finRange_pointwise (get := State.tap) (g := Tap.ticked) (fun t i j => t.tap_setTap i _ j) _ p).trans ?_
  rw [foldl_keeps State.tickLink (·.tap p) (fun _ _ => rfl),
    foldl_keeps State.tickSlot (·.tap p) (fun t k => by rw [t.tickSlot_eq]; rfl)]
  rfl

/-- A site's conditions one tick later (R148). -/
def CondRec.ticked (c : CondRec) : CondRec := { c with holdOff := c.holdOff.map (· - 1) }

theorem State.cond_tickOnce {s : State} (hs : s.inReset = false) (n : SiteId) : s.tickOnce.cond n = (s.cond n).ticked := by
  unfold State.tickOnce
  rw [if_neg (by simp [hs])]
  dsimp only
  refine (foldl_finRange_pointwise (get := State.cond) (g := CondRec.ticked) (fun t i j => t.cond_setCond i _ j) _ n).trans ?_
  rw [foldl_keeps State.tickTap (·.cond n) (fun _ _ => rfl), foldl_keeps State.tickLink (·.cond n) (fun _ _ => rfl),
    foldl_keeps State.tickSlot (·.cond n) (fun t k => by rw [t.tickSlot_eq]; rfl)]
  rfl

/-- Settles O18, by the one equation of the tick's frame and the one of each table with countdowns. -/
theorem tickCountsEveryCountdownDown : Obligations.TickCountsEveryCountdownDown := by
  intro s hs
  have frame := State.tickOnce_only hs
  refine ⟨s.tickOnce, rfl, ?_, ?_, ?_, State.link_tickOnce hs, State.tap_tickOnce hs, State.cond_tickOnce hs, ?_⟩
  · rw [frame]; rfl
  · rw [frame]; rfl
  · intro k
    rw [State.slot_tickOnce hs k]
    refine congrArg (fun g => (s.slot k).map g) (funext fun x => ?_)
    cases hd : x.drive <;> simp [Slot.ticked, Drive.ticked, hd]
  · rw [frame]; exact ⟨rfl, rfl, rfl, rfl, rfl, rfl, rfl, rfl⟩

/-- Settles O15, by cases on the command: TICK and the two of the reset input by their own equations, and every other because it keeps
the fixed fields but for the plan memory. -/
theorem tickCounterMovesOnlyAtTicks : Obligations.TickCounterMovesOnlyAtTicks := by
  intro c s t h
  have stands (htick : c ≠ .tick) (hassert : ∀ b, c ≠ .resetAssert b) (hrelease : ∀ b, c ≠ .resetRelease b) :
      t.tick = s.tick := by
    obtain ⟨hmem, -⟩ := exec_memoryOnly h htick hassert hrelease
    obtain ⟨-, hstand, -⟩ := (s.sameButMemory_iff t).mp hmem
    exact hstand
  cases c
  case tick => cases h; exact s.tickOnce_tick
  case resetRelease straps => cases h; exact s.releaseReset_tick straps
  case resetAssert begun => cases h; exact s.assertReset_tick begun
  all_goals exact stands (by simp) (by simp) (by simp)

/-! ### The cold-reset values -/

theorem State.attention_of_masked {s : State} (hb : s.latches.maskB0 = 0xFFFFFFFF#32) (h0 : s.latches.maskS0 = 0xFFFFFFFF#32)
    (h1 : s.latches.maskS1 = 0xFFFFFFFF#32) : s.attention = false := by
  simp [State.attention, State.activeB0, State.activeS0, State.activeS1, hb, h0, h1]

/-! Each table of the reset state is a replica of one record. -/

@[simp] theorem State.chan_reset (h : Handle) : State.reset.chan h = {} := by
  simp [State.chan, State.reset, Vector.get_eq_getElem]
@[simp] theorem State.entry_reset (r : EntryRef) : State.reset.entry r = {} := by
  cases r <;> simp [State.entry, State.reset, Vector.get_eq_getElem]
@[simp] theorem State.slot_reset (k : SlotId) : State.reset.slot k = none := by
  simp [State.slot, State.reset, Vector.get_eq_getElem]
@[simp] theorem State.swingOf_reset (d : Fin 8) : State.reset.swingOf d = 0 := by
  simp [State.swingOf, State.reset, Vector.get_eq_getElem]
@[simp] theorem State.link_reset (m : SiteId) : State.reset.link m = {} := by
  simp [State.link, State.reset, Vector.get_eq_getElem]
@[simp] theorem State.tap_reset (p : TapId) : State.reset.tap p = {} := by
  simp [State.tap, State.reset, Vector.get_eq_getElem]
@[simp] theorem State.cond_reset (n : SiteId) : State.reset.cond n = {} := by
  simp [State.cond, State.reset, Vector.get_eq_getElem]
@[simp] theorem State.site_reset (n : SiteId) : State.reset.site n = {} := by
  simp [State.site, State.reset, Vector.get_eq_getElem]

/-- Every slice of a cold tap reads as no light (R44). -/
theorem Tap.slices_cold (i : Fin 320) : (({} : Tap).slices.get i).toInt = -32768 := by
  simp [Vector.get_eq_getElem]

/-- Settles O3: table by table through the lemmas above, and the attention line because every cause is masked. -/
theorem resetHoldsColdValues : Obligations.ResetHoldsColdValues := by
  have masked : State.reset.attention = false := State.attention_of_masked rfl rfl rfl
  refine ⟨rfl, State.chan_reset, State.entry_reset, fun p => ?taps, fun n c => ?flags, fun n => ?conds, State.site_reset,
    State.link_reset, State.slot_reset, State.swingOf_reset, rfl, rfl, rfl, rfl, rfl, rfl, rfl, rfl, rfl, rfl, rfl, rfl,
    masked, rfl⟩
  case taps => rw [State.tap_reset]; exact ⟨Tap.slices_cold, rfl, rfl, rfl, rfl⟩
  case flags => rw [State.cond_reset]; cases c <;> rfl
  case conds => rw [State.cond_reset]; exact ⟨rfl, rfl, rfl, rfl⟩

end Sys2Proof.Machine
end

section
/-!
SUPPORT. The state after reset is sound: every table is cold, so each invariant holds for want of anything to hold of (R1, R7, R18, R44,
R79, R81, R94, R113, R134, R153).
-/

namespace Sys2Proof.Machine

open Sys2Proof

/-- The cold parameter copy lies within every range of Table 9-3. -/
theorem Params.inRange_cold : ({} : Params).inRange := by
  simp [Params.inRange]

/-- A FREE channel record, an unowned entry, an empty slot and an empty Wait List agree in every relation. -/
theorem State.coherent_reset : State.reset.coherent where
  filled h hs := by simp at hs
  footprint h hs := by simp at hs
  reserved r h hr := by simp at hr
  claimed r g hg := by simp at hg
  resting h := by simp
  moving h := by simp
  slots k x hx := by simp at hx
  slotOf h k hk := by simp at hk
  waits e he := by cases he
  waitOf := ⟨List.nodup_nil, fun h hh => by simp at hh⟩

theorem State.linksOk_reset : State.reset.linksOk := fun m => by simp [Link.bounded, levelCount]

theorem State.swingOk_reset : State.reset.swingOk := fun d => by
  simp [State.slotSwing, slotCharge]

theorem State.settingsOk_reset : State.reset.settingsOk :=
  ⟨fun h => by simp [Setting.inRange], fun m => by simp, fun e he => by cases he⟩

theorem State.paramsOk_reset : State.reset.paramsOk := fun n => by
  simpa using Params.inRange_cold

theorem State.placedOk_reset : State.reset.placedOk where
  inFlight o ho := by cases ho
  queue p hp := by cases hp
  handOver i hi := by cases hi
  toPlace i hi := by cases hi
  current o ho := by cases ho
  heads o ho := by cases ho
  chans h o ho := by simp at ho
  waits e he := by cases he
  slots k x hx := by simp at hx

theorem State.requestsOk_reset : State.reset.requestsOk where
  queued m k hk := by simp at hk
  once m := by simp [rampSlots]
  sent m o k ho := by simp at ho

/-- Settles O4, invariant by invariant: no table of the reset state holds anything. -/
theorem resetIsSound : Obligations.ResetIsSound where
  memory := rfl
  journal := Nat.zero_le _
  handOver := Nat.zero_le _
  queue := ⟨Nat.zero_le _, List.nodup_nil⟩
  waiting c hc := by cases hc
  bounds := ⟨Nat.zero_le _, Nat.zero_le _, List.nodup_nil, List.nodup_nil⟩
  links := State.linksOk_reset
  wait := ⟨Nat.zero_le _, fun e he => by cases he⟩
  swing := State.swingOk_reset
  claims r hr := by simp at hr
  coherent := State.coherent_reset
  held k x hx := by simp at hx
  requests := State.requestsOk_reset
  served _ m _ := by simp
  placed := State.placedOk_reset
  settings := State.settingsOk_reset
  params := State.paramsOk_reset
  noPassDue := rfl

end Sys2Proof.Machine
end

section
/-!
SUPPORT. The sending of messages and the placing of RAMP requests (R102, R105, R112 to R117): what a busy module does with a request, and
what an idle one with nothing else waiting is sent; the bytes of a setting message.
-/

namespace Sys2Proof.Machine

open Sys2Proof

/-! ### Twice written -/

@[simp] theorem State.setLink_setLink (s : State) (m : SiteId) (l l' : Link) : (s.setLink m l).setLink m l' = s.setLink m l' := by
  simp [State.setLink]

@[simp] theorem State.setSlot_setSlot (s : State) (k : SlotId) (x x' : Option Slot) :
    (s.setSlot k x).setSlot k x' = s.setSlot k x' := by
  simp [State.setSlot]

theorem State.setLink_setSlot (s : State) (m : SiteId) (l : Link) (k : SlotId) (x : Option Slot) :
    (s.setSlot k x).setLink m l = (s.setLink m l).setSlot k x := rfl

/-! ### A module busy or idle (R114) -/

/-- A busy module is sent nothing. -/
theorem State.kick_of_busy {s : State} {m : SiteId} (h : (s.link m).out ≠ none) : s.kick m = s := by
  unfold State.kick
  split
  · rfl
  · contradiction

/-- An idle module is sent its next message. -/
theorem State.kick_of_idle {s : State} {m : SiteId} (h : (s.link m).out = none) : s.kick m = s.sendNext m := by
  unfold State.kick
  rw [h]

/-- The request of a slot is placed at the tail of a busy module's queue, and the slot is QUEUED (R102, R117). -/
theorem State.placeRamp_of_busy {s : State} {k : SlotId} {x : Slot} (hx : s.slot k = some x) (hb : (s.link x.dest).out ≠ none) :
    s.placeRamp k = (s.setLink x.dest { s.link x.dest with queue := (s.link x.dest).queue ++ [.ramp k] }).setSlot k
      (some { x with drive := .queued, takeover := false }) := by
  simp only [State.placeRamp, hx]
  exact State.kick_of_busy (by simpa using hb)

/-- An idle module with nothing waiting is sent a slot's request at once, and the slot is SENT (R103, R112 to R114, R116). -/
theorem State.placeRamp_of_idle {s : State} {k : SlotId} {x : Slot} (hx : s.slot k = some x) (ho : (s.link x.dest).out = none)
    (hs : (s.link x.dest).shutters = []) (hq : (s.link x.dest).queue = []) :
    s.placeRamp k = (s.setLink x.dest ((s.link x.dest).sending k
      (s.rampMessage x x.kind ((s.chan x.handle).motion.getD .blocked)) [])).setSlot k
      (some { x with drive := .sent, takeover := false }) := by
  simp only [State.placeRamp, hx]
  rw [State.kick_of_idle (by simpa using ho)]
  simp only [State.sendNext, State.link_setSlot, State.link_setLink_self, hs, hq, firstShutter, List.nil_append, State.slot_setSlot_self,
    State.transmit, State.setLink_setSlot, State.setLink_setLink, State.setSlot_setSlot, Link.sending]
  rfl

/-! ### The bytes of a setting message (R196, Table 12-9) -/

/-- An attenuation byte fits (R190). -/
theorem Setting.code_lt {a : Setting} (h : a.inRange) : a.code < 256 := by
  cases a with
  | blocked => decide
  | att n => exact Nat.lt_of_le_of_lt (show n ≤ 200 from h) (by decide)

theorem SettingMsg.bytes_toNat {m : SettingMsg} (hs : m.setting.inRange) (hf : m.first < 65536) (hc : m.count < 256) :
    m.bytes.map (·.toNat) = [m.module.val, m.seq.toNat, m.first % 256, m.first / 256, m.count,
      m.input.byte.toNat, (m.port.elim 255#8 fun p => BitVec.ofNat 8 p.val).toNat, m.setting.code, m.cls.code] := by
  have hcls : m.cls.code < 256 := by cases m.cls <;> decide
  simp only [SettingMsg.bytes, List.map_cons, List.map_nil, BitVec.toNat_ofNat, Nat.reducePow]
  rw [Nat.mod_eq_of_lt (show m.module.val < 256 by omega), Nat.mod_eq_of_lt (show m.first / 256 < 256 by omega),
    Nat.mod_eq_of_lt hc, Nat.mod_eq_of_lt (Setting.code_lt hs), Nat.mod_eq_of_lt hcls, Nat.mod_mod]

theorem InputSel.byte_toNat (i : InputSel) :
    i.byte.toNat = match i with
      | .degree i => i.val
      | .group g => 16 + g.val := by
  cases i with
  | degree i => simp only [InputSel.byte, BitVec.toNat_ofNat]; omega
  | group g => simp only [InputSel.byte, BitVec.toNat_ofNat]; omega

/-! ### The attenuation of a RAMP message (R103, Table 6-2) -/

theorem nextAttenuation_adopt (m a : Setting) (step : Nat) : nextAttenuation .adopt m a step = m := by
  simp [nextAttenuation]

/-- Table 6-2, row by row, for a transition other than an ADOPT. -/
theorem nextAttenuation_table {kind : TransKind} (hk : kind ≠ .adopt) (step : Nat) :
    nextAttenuation kind .blocked .blocked step = .blocked ∧
    (∀ n, nextAttenuation kind .blocked (.att n) step = if 200 ≤ n then .blocked else .att (min (n + step) 200)) ∧
    (∀ g, nextAttenuation kind (.att g) .blocked step = .att 200) ∧
    ∀ g n, nextAttenuation kind (.att g) (.att n) step =
      if g < n then .att (max (n - step) g) else if n < g then .att (min (n + step) g) else .att g := by
  cases kind
  case adopt => exact absurd rfl hk
  all_goals exact ⟨rfl, fun _ => rfl, fun _ => rfl, fun _ _ => rfl⟩

/-- Settles O54: the sites and bytes by Table 1-2 and Table 12-9; the expiry through the placing of a request at a busy and at an idle
module. -/
theorem pacingExpirySendsTheNextStep : Obligations.PacingExpirySendsTheNextStep := by
  refine ⟨fun c => ?ends, fun m hs hf hc => ?bytes, fun s k x hr hx hd => ?expiry⟩
  case ends =>
    refine ⟨fun i h => ?_, fun g p h => ?_, fun j h => ?_, fun g p h => ?_⟩ <;>
      simp [Channel.srcSite, Channel.dstSite, Channel.input, Channel.outPort, End.site, degreeSite, groupSite, h]
  case bytes =>
    rw [SettingMsg.bytes_toNat hs hf hc, InputSel.byte_toNat]
    have hport : (m.port.elim 255#8 fun p => BitVec.ofNat 8 p.val).toNat = match m.port with
        | some p => p.val
        | none => 255 := by
      cases m.port with
      | none => rfl
      | some p => simp only [Option.elim_some, BitVec.toNat_ofNat]; omega
    rw [hport]
    cases m.setting <;> cases m.cls <;> rfl
  case expiry =>
    have hexec : exec (.pacingExpiry k) s = .next (s.placeRamp k) := by
      simp [exec, execPacingExpiry, State.pacingExpires, hr, hx, hd]
    refine ⟨fun hb => by rw [hexec, State.placeRamp_of_busy hx hb], fun ho hq hsh => ?_⟩
    let a := nextAttenuation x.kind ((s.chan x.handle).motion.getD .blocked) (s.chan x.handle).applied (s.params x.dest).step
    refine ⟨_, a, hexec, ?_, fun target ht => ⟨fun hk => ?_, fun hk => ?_⟩⟩
    · rw [State.placeRamp_of_idle hx ho hsh hq, Link.sending, State.rampMessage, hq]
    · simp only [a, hk, nextAttenuation_adopt, ht, Option.getD_some]
    · obtain ⟨hbb, hba, hab, haa⟩ := nextAttenuation_table hk (s.params x.dest).step
      simp only [a, ht, Option.getD_some]
      refine ⟨?_, ?_, ?_, ?_⟩
      · rintro rfl h; rw [h, hbb]
      · rintro n rfl h; rw [h, hba]
      · rintro g rfl h; rw [h, hab]
      · rintro g n rfl h; rw [h, haa]

end Sys2Proof.Machine
end

section
/-!
SUPPORT. The removal of a transition and the return of a channel to FREE, table by table (R17, R22, R23, R80, R95, R111): what of the
state they can change, and what each table then reads.
-/

namespace Sys2Proof.Machine

open Sys2Proof

/-! ### What the operations can change -/

/-- Two states differ at most in what the channel engine moves: records, maps, Wait List, slots, links, swings and the pass due. -/
def SameButChannels (s t : State) : Prop :=
  t = { s with chans := t.chans, maps := t.maps, addCells := t.addCells, dropCells := t.dropCells, waitList := t.waitList,
               slots := t.slots, links := t.links, committed := t.committed, passDue := t.passDue }

theorem SameButChannels.refl (s : State) : SameButChannels s s := rfl

theorem SameButChannels.trans {s t u : State} (h : SameButChannels s t) (g : SameButChannels t u) : SameButChannels s u := by
  unfold SameButChannels at *
  rw [g, h]

theorem SameButMotion.channels {s t : State} (h : SameButMotion s t) : SameButChannels s t := by
  unfold SameButMotion at h
  unfold SameButChannels
  rw [h]

theorem SameButLinks.channels {s t : State} (h : SameButLinks s t) : SameButChannels s t := h.motion.channels

theorem SameButChannels.foldl {α : Type} {f : State → α → State} (hf : ∀ s a, SameButChannels s (f s a)) (l : List α) (s : State) :
    SameButChannels s (l.foldl f s) := by
  induction l generalizing s with
  | nil => exact rfl
  | cons a l ih => exact (hf s a).trans (ih _)

section
variable {s t : State} (h : SameButChannels s t)
include h

theorem SameButChannels.tick : t.tick = s.tick := by rw [h]
theorem SameButChannels.conds : t.conds = s.conds := by rw [h]
theorem SameButChannels.sites : t.sites = s.sites := by rw [h]
theorem SameButChannels.taps : t.taps = s.taps := by rw [h]
theorem SameButChannels.journal : t.journal = s.journal := by rw [h]
theorem SameButChannels.inFlight : t.inFlight = s.inFlight := by rw [h]
theorem SameButChannels.cond (n : SiteId) : t.cond n = s.cond n := by rw [h]; rfl
theorem SameButChannels.site (n : SiteId) : t.site n = s.site n := by rw [h]; rfl
theorem SameButChannels.tap (p : TapId) : t.tap p = s.tap p := by rw [h]; rfl

end

theorem setEntry_channels (s : State) (r : EntryRef) (e : Entry) : SameButChannels s (s.setEntry r e) := by
  cases r <;> exact rfl

theorem setChan_channels (s : State) (h : Handle) (c : Channel) : SameButChannels s (s.setChan h c) := rfl

theorem removeEntry_only (s : State) (h : Handle) :
    s.removeEntry h = { s with waitList := (s.removeEntry h).waitList, passDue := (s.removeEntry h).passDue } := by
  unfold State.removeEntry
  split <;> rfl

theorem removeEntry_channels (s : State) (h : Handle) : SameButChannels s (s.removeEntry h) := by
  unfold SameButChannels
  rw [removeEntry_only]

/-- The removal of a transition from its entry or its slot, before the record is rewritten. -/
def State.liftTransition (s : State) (h : Handle) : State :=
  match (s.chan h).pending with
  | none => s
  | some .waiting => s.removeEntry h
  | some (.slot k) => s.endSlot k

theorem State.dropTransition_eq (s : State) (h : Handle) :
    s.dropTransition h = (s.liftTransition h).setChan h
      { (s.liftTransition h).chan h with pending := none, motion := none, desc := none } := rfl

theorem liftTransition_only (s : State) (h : Handle) :
    s.liftTransition h = { s with waitList := (s.liftTransition h).waitList, slots := (s.liftTransition h).slots,
                                  links := (s.liftTransition h).links, committed := (s.liftTransition h).committed,
                                  passDue := (s.liftTransition h).passDue } := by
  unfold State.liftTransition
  split
  · rfl
  · rw [removeEntry_only]
  · have h := endSlot_only s ‹SlotId›
    unfold SameButMotion at h
    rw [h]

theorem liftTransition_channels (s : State) (h : Handle) : SameButChannels s (s.liftTransition h) := by
  unfold SameButChannels
  rw [liftTransition_only]

theorem dropTransition_channels (s : State) (h : Handle) : SameButChannels s (s.dropTransition h) :=
  (liftTransition_channels s h).trans (setChan_channels _ _ _)

@[simp] theorem State.entry_dropTransition (s : State) (h : Handle) (r : EntryRef) : (s.dropTransition h).entry r = s.entry r := by
  rw [State.dropTransition_eq, State.entry_setChan, liftTransition_only]
  cases r <;> rfl

theorem handOverEntry_channels (h : Handle) (doomed : List Handle) (s : State) (r : EntryRef) :
    SameButChannels s (State.handOverEntry h doomed s r) := by
  unfold State.handOverEntry
  dsimp only
  split
  · split
    · exact (setEntry_channels s _ _).trans (due_only _ _).channels
    · exact setEntry_channels s _ _
  · exact rfl

theorem dropClaim_channels (h : Handle) (s : State) (r : EntryRef) : SameButChannels s (State.dropClaim h s r) := by
  unfold State.dropClaim
  dsimp only
  split
  · exact setEntry_channels s _ _
  · exact rfl

theorem toFree_channels (s : State) (h : Handle) (doomed : List Handle) : SameButChannels s (s.toFree h doomed) :=
  ((((((dropTransition_channels s h).trans (.foldl (handOverEntry_channels h doomed) _ _)).trans
    (.foldl (dropClaim_channels h) _ _)).trans (dropLevel_only _ _ _).channels).trans
    (unbindShutters_only _ _ _).channels)).trans (setChan_channels _ _ _)

/-! ### The end of a slot (R80, R95, R111) -/

/-- A module's side of the Switch Link after a slot of it has ended: a queued request withdrawn, an outstanding message detached. -/
def Link.withoutSlot (l : Link) (k : SlotId) : Drive → Link
  | .queued => { l with queue := l.queue.filter fun r => decide (r ≠ .ramp k) }
  | .sent => { l with out := l.out.map fun o => o.detachIf (decide (o.bind = .slot k)) }
  | .pacing _ | .stopped => l

/-- A state with the swing of a slot's destination released, if that is a line degree. -/
theorem State.swingOf_releaseSwing (s : State) (n : SiteId) (w : Nat) (d : Fin 8) :
    (s.releaseSwing n w).swingOf d = if n = degreeSite d then s.swingOf d - w else s.swingOf d := by
  unfold State.releaseSwing SiteId.degree?
  by_cases hn : n.val < 8
  · simp only [hn, ↓reduceDIte, State.swingOf_due, State.swingOf_setSwing]
    have : (d = ⟨n.val, hn⟩) ↔ n = degreeSite d := by
      simp [degreeSite, Fin.ext_iff, eq_comm]
    simp only [this]
    split
    · rename_i h
      rw [this.mpr h]
    · rfl
  · simp only [hn, ↓reduceDIte]
    rw [if_neg]
    rintro rfl
    exact hn d.isLt

@[simp] theorem State.slot_releaseSwing (s : State) (n : SiteId) (w : Nat) (k : SlotId) :
    (s.releaseSwing n w).slot k = s.slot k := by
  unfold State.releaseSwing; split <;> rfl

@[simp] theorem State.link_releaseSwing (s : State) (n : SiteId) (w : Nat) (m : SiteId) :
    (s.releaseSwing n w).link m = s.link m := by
  unfold State.releaseSwing; split <;> rfl

/-- The state of the links after a slot's end, before its swing is released. -/
def State.unlinkSlot (s : State) (k : SlotId) (x : Slot) : State :=
  s.setLink x.dest ((s.link x.dest).withoutSlot k x.drive)

theorem State.setLink_link (s : State) (m : SiteId) : s.setLink m (s.link m) = s := by
  simp [State.setLink, State.link, Vector.get_eq_getElem]

theorem State.endSlot_of_some {s : State} {k : SlotId} {x : Slot} (hx : s.slot k = some x) :
    s.endSlot k = (((s.unlinkSlot k x).releaseSwing x.dest x.swing).setSlot k none).due true := by
  unfold State.unlinkSlot Link.withoutSlot
  simp only [State.endSlot, hx]
  cases x.drive <;> simp [State.withdrawRamp, State.detachRamp, State.setLink_link]

theorem State.endSlot_of_none {s : State} {k : SlotId} (hx : s.slot k = none) : s.endSlot k = s := by
  unfold State.endSlot
  rw [hx]

theorem State.slot_endSlot (s : State) (k j : SlotId) : (s.endSlot k).slot j = if j = k then none else s.slot j := by
  cases hx : s.slot k with
  | none =>
    rw [State.endSlot_of_none hx]
    split
    · rename_i h; rw [h, hx]
    · rfl
  | some x =>
    rw [State.endSlot_of_some hx, State.slot_due, State.slot_setSlot, State.slot_releaseSwing]
    rfl

theorem State.link_endSlot {s : State} {k : SlotId} {x : Slot} (hx : s.slot k = some x) (m : SiteId) :
    (s.endSlot k).link m = if m = x.dest then (s.link m).withoutSlot k x.drive else s.link m := by
  rw [State.endSlot_of_some hx, State.link_due, State.link_setSlot, State.link_releaseSwing, State.unlinkSlot, State.link_setLink]
  split
  · rename_i h; rw [h]
  · rfl

theorem State.swingOf_endSlot {s : State} {k : SlotId} {x : Slot} (hx : s.slot k = some x) (d : Fin 8) :
    (s.endSlot k).swingOf d = if x.dest = degreeSite d then s.swingOf d - x.swing else s.swingOf d := by
  rw [State.endSlot_of_some hx, State.swingOf_due, State.swingOf_setSlot, State.swingOf_releaseSwing]
  rfl

theorem State.passDue_endSlot (s : State) (k : SlotId) : (s.endSlot k).passDue = (s.passDue || (s.slot k).isSome) := by
  cases hx : s.slot k with
  | none => rw [State.endSlot_of_none hx]; simp
  | some x => rw [State.endSlot_of_some hx]; simp

/-! ### The removal of a transition, table by table (R17, step 1) -/

theorem State.waitList_removeEntry (s : State) (h : Handle) :
    (s.removeEntry h).waitList = s.waitList.filter fun x => decide (x.handle ≠ h) := by
  unfold State.removeEntry State.entryOf
  cases he : s.waitList.find? fun e => decide (e.handle = h) with
  | none =>
    symm
    rw [List.filter_eq_self]
    simpa using he
  | some e => rfl

theorem State.passDue_removeEntry (s : State) (h : Handle) :
    (s.removeEntry h).passDue = (s.passDue || (s.entryOf h).any s.acting) := by
  unfold State.removeEntry
  cases he : s.entryOf h <;> simp

theorem State.waitList_dropTransition (s : State) (h : Handle) :
    (s.dropTransition h).waitList =
      if (s.chan h).pending = some .waiting then s.waitList.filter fun x => decide (x.handle ≠ h) else s.waitList := by
  rw [State.dropTransition_eq, State.setChan_waitList]
  unfold State.liftTransition
  cases hp : (s.chan h).pending with
  | none => rfl
  | some p =>
    cases p with
    | waiting => exact State.waitList_removeEntry s h
    | slot k => dsimp only; rw [endSlot_only s k]; simp

theorem State.slot_dropTransition (s : State) (h : Handle) (j : SlotId) :
    (s.dropTransition h).slot j = if (s.chan h).pending = some (.slot j) then none else s.slot j := by
  rw [State.dropTransition_eq, State.slot_setChan]
  unfold State.liftTransition
  cases hp : (s.chan h).pending with
  | none => rfl
  | some p =>
    cases p with
    | waiting => dsimp only; rw [removeEntry_only]; rfl
    | slot k => simp [State.slot_endSlot, eq_comm]

/-- The links after a removal: those of the slot's end, when there was a slot. -/
theorem State.link_dropTransition (s : State) (h : Handle) (m : SiteId) :
    (s.dropTransition h).link m = match (s.chan h).pending with
      | some (.slot k) => (s.endSlot k).link m
      | some .waiting | none => s.link m := by
  rw [State.dropTransition_eq, State.link_setChan]
  unfold State.liftTransition
  cases hp : (s.chan h).pending with
  | none => rfl
  | some p =>
    cases p with
    | waiting => dsimp only; rw [removeEntry_only]; rfl
    | slot k => rfl

theorem State.swingOf_dropTransition (s : State) (h : Handle) (d : Fin 8) :
    (s.dropTransition h).swingOf d = match (s.chan h).pending with
      | some (.slot k) => (s.endSlot k).swingOf d
      | some .waiting | none => s.swingOf d := by
  rw [State.dropTransition_eq, State.swingOf_setChan]
  unfold State.liftTransition
  cases hp : (s.chan h).pending with
  | none => rfl
  | some p =>
    cases p with
    | waiting => dsimp only; rw [removeEntry_only]; rfl
    | slot k => rfl

/-- Does the removal of a channel's transition make a pass due: a slot is freed, or an acting barrier goes (R83, R90). -/
def State.dropDue (s : State) (h : Handle) : Bool :=
  match (s.chan h).pending with
  | none => false
  | some .waiting => (s.entryOf h).any s.acting
  | some (.slot k) => (s.slot k).isSome

theorem State.passDue_dropTransition (s : State) (h : Handle) :
    (s.dropTransition h).passDue = (s.passDue || s.dropDue h) := by
  rw [State.dropTransition_eq, State.setChan_passDue]
  unfold State.liftTransition State.dropDue
  cases hp : (s.chan h).pending with
  | none => simp
  | some p =>
    cases p with
    | waiting => exact State.passDue_removeEntry s h
    | slot k => exact State.passDue_endSlot s k

/-- A channel without a transition in a slot keeps slots, links and swings when its transition is removed. -/
theorem State.dropTransition_of_unslotted {s : State} {h : Handle} (hp : ∀ k, (s.chan h).pending ≠ some (.slot k)) :
    (s.dropTransition h).slots = s.slots ∧ (s.dropTransition h).links = s.links ∧
      (s.dropTransition h).committed = s.committed := by
  rw [State.dropTransition_eq]
  unfold State.liftTransition
  cases hq : (s.chan h).pending with
  | none => exact ⟨rfl, rfl, rfl⟩
  | some p =>
    cases p with
    | waiting => dsimp only; rw [removeEntry_only]; exact ⟨rfl, rfl, rfl⟩
    | slot k => exact absurd hq (hp k)

/-! ### Footprints (R19) -/

theorem mem_footprintOn {m : TapId} {first count : Nat} {x : EntryRef} :
    x ∈ footprintOn m first count ↔ ∃ n : Fin 320, x = .slice m n ∧ first ≤ n.val ∧ n.val < first + count := by
  unfold footprintOn
  simp only [List.mem_filterMap, List.mem_range, Option.dite_none_right_eq_some, Option.some.injEq]
  constructor
  · rintro ⟨i, hi, h, rfl⟩
    exact ⟨_, rfl, by simp, by simpa using hi⟩
  · rintro ⟨n, rfl, h1, h2⟩
    exact ⟨n.val - first, by omega, by omega, by simp [Fin.ext_iff]; omega⟩

theorem footprintOn_nodup (m : TapId) (first count : Nat) : (footprintOn m first count).Nodup := by
  refine List.Nodup.filterMap (fun i j x hi hj => ?_) List.nodup_range
  simp only [Option.mem_def, Option.dite_none_right_eq_some, Option.some.injEq] at hi hj
  obtain ⟨_, rfl⟩ := hi
  obtain ⟨_, hj⟩ := hj
  simp only [EntryRef.slice.injEq, Fin.mk.injEq, true_and] at hj
  omega

/-- A source map is never a destination map (Table 1-2). -/
theorem Channel.srcTap_ne_dstTap (c : Channel) : c.srcTap ≠ c.dstTap := by
  have h1 := c.srcSite.isLt
  have h2 := c.dstSite.isLt
  unfold Channel.srcTap Channel.dstTap ingressTap egressTap
  split <;> split <;> simp only [ne_eq, Fin.mk.injEq] <;> omega

/-- A port cell is no slice. -/
theorem Channel.cellOf_not_slice {c : Channel} {x : EntryRef} (h : c.cellOf = some x) (m : TapId) (n : Fin 320) : x ≠ .slice m n := by
  unfold Channel.cellOf at h
  split at h <;> cases h <;> simp

theorem Channel.mem_slicesOf {c : Channel} {x : EntryRef} :
    x ∈ c.slicesOf ↔ ∃ m n, x = .slice m n ∧ (m = c.srcTap ∨ m = c.dstTap) ∧ c.first ≤ n.val ∧ n.val < c.first + c.count := by
  unfold Channel.slicesOf
  simp only [List.mem_append, mem_footprintOn]
  constructor
  · rintro (⟨n, rfl, h⟩ | ⟨n, rfl, h⟩)
    · exact ⟨_, n, rfl, .inl rfl, h⟩
    · exact ⟨_, n, rfl, .inr rfl, h⟩
  · rintro ⟨m, n, rfl, rfl | rfl, h⟩
    · exact .inl ⟨n, rfl, h⟩
    · exact .inr ⟨n, rfl, h⟩

/-- No entry stands twice in a footprint. -/
theorem Channel.footprint_nodup (c : Channel) : c.footprint.Nodup := by
  unfold Channel.footprint Channel.slicesOf
  refine ((footprintOn_nodup _ _ _).append (footprintOn_nodup _ _ _) fun x h1 h2 => ?_).append ?_ fun x h1 h2 => ?_
  · obtain ⟨n, rfl, -⟩ := mem_footprintOn.mp h1
    obtain ⟨n', h, -⟩ := mem_footprintOn.mp h2
    exact c.srcTap_ne_dstTap (EntryRef.slice.inj h).1
  · cases c.cellOf <;> simp
  · obtain ⟨m, n, rfl, -⟩ := Channel.mem_slicesOf.mp h1
    exact Channel.cellOf_not_slice (Option.mem_toList.mp h2) m n rfl

/-! ### The maps after a return to FREE (R22, R23) -/

/-- An entry that a channel has handed over or released, if it owned it (R22). -/
def Entry.passOn (h : Handle) (e : Entry) : Entry :=
  if e.owner = some h then { owner := e.claimant, claimant := none } else e

/-- An entry without the claim of a channel (R23). -/
def Entry.unclaim (h : Handle) (e : Entry) : Entry := if e.claimant = some h then { e with claimant := none } else e

/-- The two together, as R22 and R23 tell them. -/
theorem Entry.unclaim_passOn (h : Handle) (e : Entry) :
    (e.passOn h).unclaim h =
      if e.owner = some h ∧ e.claimant ≠ some h then { owner := e.claimant, claimant := none }
      else if e.claimant = some h then { e with claimant := none }
      else e := by
  unfold Entry.passOn Entry.unclaim
  obtain ⟨o, c⟩ := e
  by_cases ho : o = some h <;> by_cases hc : c = some h <;> simp [ho, hc]

theorem State.entry_handOverEntry (h : Handle) (doomed : List Handle) (s : State) (r x : EntryRef) :
    (State.handOverEntry h doomed s r).entry x = if x = r then (s.entry r).passOn h else s.entry x := by
  unfold State.handOverEntry Entry.passOn
  dsimp only
  split
  · split <;> rename_i hc <;> simp [State.entry_setEntry, hc]
  · split
    · rename_i hx; rw [hx]
    · rfl

theorem State.entry_dropClaim (h : Handle) (s : State) (r x : EntryRef) :
    (State.dropClaim h s r).entry x = if x = r then (s.entry r).unclaim h else s.entry x := by
  unfold State.dropClaim Entry.unclaim
  dsimp only
  split
  · rw [State.entry_setEntry]
  · split
    · rename_i hx; rw [hx]
    · rfl

/-- A fold that rewrites one entry at a time rewrites the entries of its list, each once. -/
theorem State.entry_foldl {f : State → EntryRef → State} {g : Entry → Entry}
    (hf : ∀ s r x, (f s r).entry x = if x = r then g (s.entry r) else s.entry x) {l : List EntryRef} (hl : l.Nodup) (s : State)
    (x : EntryRef) : (l.foldl f s).entry x = if x ∈ l then g (s.entry x) else s.entry x := by
  induction l generalizing s with
  | nil => simp
  | cons r l ih =>
    obtain ⟨hr, hl⟩ := List.nodup_cons.mp hl
    rw [List.foldl_cons, ih hl, hf]
    by_cases hx : x = r
    · subst hx; simp [hr]
    · simp [hx]

theorem State.entry_toFree (s : State) (h : Handle) (doomed : List Handle) (x : EntryRef) :
    (s.toFree h doomed).entry x =
      if x ∈ (s.chan h).footprint then ((s.entry x).passOn h).unclaim h else s.entry x := by
  have hfp : ((s.dropTransition h).chan h).footprint = (s.chan h).footprint := by
    rw [chan_dropTransition, if_pos rfl]; rfl
  unfold State.toFree
  dsimp only
  rw [State.entry_setChan, (unbindShutters_only _ _ _).entry, (dropLevel_only _ _ _).entry,
    State.entry_foldl (State.entry_dropClaim h) (Channel.footprint_nodup _),
    State.entry_foldl (State.entry_handOverEntry h doomed) (Channel.footprint_nodup _), State.entry_dropTransition, hfp]
  split <;> rfl

/-! ### The other tables after a return to FREE -/

/-- A state with the entries of a channel's footprint handed over, released and unclaimed. -/
def State.releaseEntries (s : State) (h : Handle) (doomed : List Handle) (fp : List EntryRef) : State :=
  fp.foldl (State.dropClaim h) (fp.foldl (State.handOverEntry h doomed) s)

theorem State.toFree_eq (s : State) (h : Handle) (doomed : List Handle) :
    s.toFree h doomed = ((((s.dropTransition h).releaseEntries h doomed (s.chan h).footprint).dropLevel (s.chan h).dstSite h).unbindShutters
      (s.chan h).dstSite h).setChan h {} := by
  have hfp : ((s.dropTransition h).chan h).footprint = (s.chan h).footprint := by
    rw [chan_dropTransition, if_pos rfl]; rfl
  have hdst : ((s.dropTransition h).chan h).dstSite = (s.chan h).dstSite := by
    rw [chan_dropTransition, if_pos rfl]; rfl
  unfold State.toFree State.releaseEntries
  rw [← hfp, ← hdst]

/-- Two states differ at most in their maps and the pass due. -/
def SameButMaps (s t : State) : Prop :=
  t = { s with maps := t.maps, addCells := t.addCells, dropCells := t.dropCells, passDue := t.passDue }

theorem SameButMaps.trans {s t u : State} (h : SameButMaps s t) (g : SameButMaps t u) : SameButMaps s u := by
  unfold SameButMaps at *
  rw [g, h]

theorem SameButMaps.foldl {α : Type} {f : State → α → State} (hf : ∀ s a, SameButMaps s (f s a)) (l : List α) (s : State) :
    SameButMaps s (l.foldl f s) := by
  induction l generalizing s with
  | nil => exact rfl
  | cons a l ih => exact (hf s a).trans (ih _)

theorem setEntry_only (s : State) (r : EntryRef) (e : Entry) : SameButMaps s (s.setEntry r e) := by
  cases r <;> exact rfl

theorem handOverEntry_only (h : Handle) (doomed : List Handle) (s : State) (r : EntryRef) :
    SameButMaps s (State.handOverEntry h doomed s r) := by
  unfold State.handOverEntry
  dsimp only
  split
  · split
    · exact (setEntry_only s _ _).trans rfl
    · exact setEntry_only s _ _
  · exact rfl

theorem dropClaim_only (h : Handle) (s : State) (r : EntryRef) : SameButMaps s (State.dropClaim h s r) := by
  unfold State.dropClaim
  dsimp only
  split
  · exact setEntry_only s _ _
  · exact rfl

theorem releaseEntries_only (s : State) (h : Handle) (doomed : List Handle) (fp : List EntryRef) :
    SameButMaps s (s.releaseEntries h doomed fp) :=
  (SameButMaps.foldl (handOverEntry_only h doomed) fp s).trans (.foldl (dropClaim_only h) fp _)

section
variable {s t : State} (h : SameButMaps s t)
include h

theorem SameButMaps.waitList : t.waitList = s.waitList := by rw [h]
theorem SameButMaps.slots : t.slots = s.slots := by rw [h]
theorem SameButMaps.committed : t.committed = s.committed := by rw [h]
theorem SameButMaps.slot (k : SlotId) : t.slot k = s.slot k := by rw [h]; rfl
theorem SameButMaps.link (m : SiteId) : t.link m = s.link m := by rw [h]; rfl
theorem SameButMaps.swingOf (d : Fin 8) : t.swingOf d = s.swingOf d := by rw [h]; rfl

end

@[simp] theorem State.dropLevel_slots (s : State) (m : SiteId) (h : Handle) : (s.dropLevel m h).slots = s.slots := rfl
@[simp] theorem State.dropLevel_waitList (s : State) (m : SiteId) (h : Handle) : (s.dropLevel m h).waitList = s.waitList := rfl
@[simp] theorem State.dropLevel_committed (s : State) (m : SiteId) (h : Handle) : (s.dropLevel m h).committed = s.committed := rfl
@[simp] theorem State.dropLevel_passDue (s : State) (m : SiteId) (h : Handle) : (s.dropLevel m h).passDue = s.passDue := rfl
@[simp] theorem State.unbindShutters_slots (s : State) (m : SiteId) (h : Handle) : (s.unbindShutters m h).slots = s.slots := rfl
@[simp] theorem State.unbindShutters_waitList (s : State) (m : SiteId) (h : Handle) : (s.unbindShutters m h).waitList = s.waitList := rfl
@[simp] theorem State.unbindShutters_committed (s : State) (m : SiteId) (h : Handle) : (s.unbindShutters m h).committed = s.committed := rfl
@[simp] theorem State.unbindShutters_passDue (s : State) (m : SiteId) (h : Handle) : (s.unbindShutters m h).passDue = s.passDue := rfl
@[simp] theorem State.slot_dropLevel (s : State) (m : SiteId) (h : Handle) (k : SlotId) : (s.dropLevel m h).slot k = s.slot k := rfl
@[simp] theorem State.swingOf_dropLevel (s : State) (m : SiteId) (h : Handle) (d : Fin 8) : (s.dropLevel m h).swingOf d = s.swingOf d := rfl
@[simp] theorem State.slot_unbindShutters (s : State) (m : SiteId) (h : Handle) (k : SlotId) : (s.unbindShutters m h).slot k = s.slot k := rfl
@[simp] theorem State.swingOf_unbindShutters (s : State) (m : SiteId) (h : Handle) (d : Fin 8) : (s.unbindShutters m h).swingOf d = s.swingOf d := rfl

@[simp] theorem State.slot_toFree (s : State) (h : Handle) (doomed : List Handle) (k : SlotId) :
    (s.toFree h doomed).slot k = (s.dropTransition h).slot k := by
  rw [State.toFree_eq, State.slot_setChan, State.slot_unbindShutters, State.slot_dropLevel, (releaseEntries_only _ _ _ _).slot]

@[simp] theorem State.slots_toFree (s : State) (h : Handle) (doomed : List Handle) :
    (s.toFree h doomed).slots = (s.dropTransition h).slots := by
  rw [State.toFree_eq, State.setChan_slots, State.unbindShutters_slots, State.dropLevel_slots, (releaseEntries_only _ _ _ _).slots]

@[simp] theorem State.waitList_toFree (s : State) (h : Handle) (doomed : List Handle) :
    (s.toFree h doomed).waitList = (s.dropTransition h).waitList := by
  rw [State.toFree_eq, State.setChan_waitList, State.unbindShutters_waitList, State.dropLevel_waitList, (releaseEntries_only _ _ _ _).waitList]

@[simp] theorem State.committed_toFree (s : State) (h : Handle) (doomed : List Handle) :
    (s.toFree h doomed).committed = (s.dropTransition h).committed := by
  rw [State.toFree_eq, State.setChan_committed, State.unbindShutters_committed, State.dropLevel_committed, (releaseEntries_only _ _ _ _).committed]

@[simp] theorem State.swingOf_toFree (s : State) (h : Handle) (doomed : List Handle) (d : Fin 8) :
    (s.toFree h doomed).swingOf d = (s.dropTransition h).swingOf d := by
  rw [State.toFree_eq, State.swingOf_setChan, State.swingOf_unbindShutters, State.swingOf_dropLevel, (releaseEntries_only _ _ _ _).swingOf]

/-- A module's side of the Switch Link without the LEVEL work of a channel (R117). -/
def Link.withoutLevel (l : Link) (h : Handle) : Link :=
  { l with queue := l.queue.filter fun r => !r.isLevelOf h,
           out := l.out.map fun o => o.detachIf (decide (o.bind = .channel h ∧ o.msg.cls = .level)) }

/-- A module's side of the Switch Link with the shutter work of a channel unbound (R118, R119). -/
def Link.withUnbound (l : Link) (h : Handle) : Link :=
  { l with shutters := l.shutters.map fun e => if e.handle = h then { e with bound := false } else e,
           out := l.out.map fun o => o.detachIf (decide (o.bind = .channel h ∧ o.msg.cls = .shutter)) }

theorem State.link_dropLevel (s : State) (n : SiteId) (h : Handle) (m : SiteId) :
    (s.dropLevel n h).link m = if m = n then (s.link m).withoutLevel h else s.link m := by
  unfold State.dropLevel State.withdrawLevel State.detachLevel
  dsimp only
  rw [State.link_setLink]
  split
  · rename_i h; simp [h, Link.withoutLevel]
  · rename_i h; exact State.link_setLink_of_ne _ _ _ h

theorem State.link_unbindShutters (s : State) (n : SiteId) (h : Handle) (m : SiteId) :
    (s.unbindShutters n h).link m = if m = n then (s.link m).withUnbound h else s.link m := by
  unfold State.unbindShutters
  dsimp only
  rw [State.link_setLink]
  split
  · rename_i h; simp [h, Link.withUnbound]
  · rfl

theorem State.link_toFree (s : State) (h : Handle) (doomed : List Handle) (m : SiteId) :
    (s.toFree h doomed).link m =
      if m = (s.chan h).dstSite then (((s.dropTransition h).link m).withoutLevel h).withUnbound h
      else (s.dropTransition h).link m := by
  rw [State.toFree_eq, State.link_setChan, State.link_unbindShutters, State.link_dropLevel, (releaseEntries_only _ _ _ _).link]
  split <;> rfl

/-! ### The pass due after a return to FREE (R22, R90) -/

/-- Does an entry pass from a channel to a claimant that is not freed in the same event (R22, R23)? -/
def Entry.passes (h : Handle) (doomed : List Handle) (e : Entry) : Bool :=
  decide (e.owner = some h) && e.claimant.any fun g => !doomed.contains g

theorem State.passDue_handOverEntry (h : Handle) (doomed : List Handle) (s : State) (r : EntryRef) :
    (State.handOverEntry h doomed s r).passDue = (s.passDue || (s.entry r).passes h doomed) := by
  unfold State.handOverEntry Entry.passes
  dsimp only
  split
  · rename_i ho
    split <;> rename_i hc <;> simp [ho, hc]
  · rename_i ho
    simp [ho]

theorem State.passDue_handOverEntries (h : Handle) (doomed : List Handle) {l : List EntryRef} (hl : l.Nodup) (s : State) :
    (l.foldl (State.handOverEntry h doomed) s).passDue = (s.passDue || l.any fun x => (s.entry x).passes h doomed) := by
  induction l generalizing s with
  | nil => simp
  | cons r l ih =>
    obtain ⟨hr, hl⟩ := List.nodup_cons.mp hl
    rw [List.foldl_cons, ih hl, State.passDue_handOverEntry, List.any_cons, Bool.or_assoc]
    congr 2
    rw [Bool.eq_iff_iff, List.any_eq_true, List.any_eq_true]
    refine exists_congr fun x => and_congr_right fun hx => ?_
    rw [State.entry_handOverEntry, if_neg (by rintro rfl; exact hr hx)]

theorem State.passDue_dropClaim (h : Handle) (s : State) (r : EntryRef) : (State.dropClaim h s r).passDue = s.passDue := by
  unfold State.dropClaim
  dsimp only
  split
  · exact State.setEntry_passDue _ _ _
  · rfl

theorem State.passDue_toFree (s : State) (h : Handle) (doomed : List Handle) :
    (s.toFree h doomed).passDue =
      (s.passDue || s.dropDue h || (s.chan h).footprint.any fun x => (s.entry x).passes h doomed) := by
  rw [State.toFree_eq, State.setChan_passDue, State.unbindShutters_passDue, State.dropLevel_passDue]
  unfold State.releaseEntries
  rw [foldl_keeps _ State.passDue (State.passDue_dropClaim h), State.passDue_handOverEntries h doomed (Channel.footprint_nodup _),
    State.passDue_dropTransition]
  simp only [State.entry_dropTransition]

end Sys2Proof.Machine
end

section
/-!
SUPPORT. The decisions of the walker: a decision command with its descriptor fetched decides in the state its burst leaves, which differs
in the memory path, the walker and the journal alone (R67, R175); what each check of Tables 4-2 and 4-3 refuses (R59).
-/

namespace Sys2Proof.Machine

open Sys2Proof

/-! ### The state a decision is made in (R67, R175) -/

/-- Two states differ at most in the Posting Queue, the journal, the port and the walker. -/
def SameButPlacing (s t : State) : Prop :=
  t = { s with queue := t.queue, journal := t.journal, port := t.port, walker := t.walker }

theorem writerPlaces_placing (s : State) : SameButPlacing s s.writerPlaces :=
  writerPlaces_induct (P := SameButPlacing s) (fun t ht => by unfold SameButPlacing at *; rw [placeHandOver_only, ht]) rfl

/-- The completion of a walker burst touches the memory path, the walker and the journal, and nothing else. -/
theorem enterDeciding_placing (s : State) : SameButPlacing s s.enterDeciding := by
  have h := writerPlaces_placing s
  unfold SameButPlacing at *
  unfold State.enterDeciding State.endGrant
  dsimp only
  rw [h]

section
variable {s t : State} (h : SameButPlacing s t)
include h

theorem SameButPlacing.tick : t.tick = s.tick := by rw [h]
theorem SameButPlacing.inFlight : t.inFlight = s.inFlight := by rw [h]
theorem SameButPlacing.waitList : t.waitList = s.waitList := by rw [h]
theorem SameButPlacing.slots : t.slots = s.slots := by rw [h]
theorem SameButPlacing.links : t.links = s.links := by rw [h]
theorem SameButPlacing.committed : t.committed = s.committed := by rw [h]
theorem SameButPlacing.passDue : t.passDue = s.passDue := by rw [h]
theorem SameButPlacing.chan (g : Handle) : t.chan g = s.chan g := by rw [h]; rfl
theorem SameButPlacing.entry (x : EntryRef) : t.entry x = s.entry x := by rw [h]; cases x <;> rfl
theorem SameButPlacing.slot (k : SlotId) : t.slot k = s.slot k := by rw [h]; rfl
theorem SameButPlacing.link (m : SiteId) : t.link m = s.link m := by rw [h]; rfl
theorem SameButPlacing.site (n : SiteId) : t.site n = s.site n := by rw [h]; rfl
theorem SameButPlacing.siteOn (n : SiteId) : t.siteOn n = s.siteOn n := by rw [h]; rfl
theorem SameButPlacing.params (n : SiteId) : t.params n = s.params n := by rw [h]; rfl
theorem SameButPlacing.isHeld (g : Handle) : t.isHeld g = s.isHeld g := by rw [h]; rfl
theorem SameButPlacing.freeSlot : t.freeSlot = s.freeSlot := by rw [h]; rfl
theorem SameButPlacing.entryOf (g : Handle) : t.entryOf g = s.entryOf g := by rw [h]; rfl
theorem SameButPlacing.waits (g : Handle) (k : TransKind) : t.waits g k = s.waits g k := by rw [h]; rfl
theorem SameButPlacing.target (c : Channel) (p : Option Nat) : t.target c p = s.target c p := by rw [h]; rfl
theorem SameButPlacing.filled (d : Desc) (off : Half) (a b : End) (k : ConnKind) :
    t.filled d off a b k = s.filled d off a b k := by rw [h]; rfl

theorem SameButPlacing.classOf (x : EntryRef) : t.classOf x = s.classOf x := by
  unfold State.classOf
  simp only [h.entry, h.chan]

theorem SameButPlacing.checkNew (d : Desc) (b : Bool) : t.checkNew d b = s.checkNew d b := by
  unfold State.checkNew
  simp only [h.chan, h.siteOn]

theorem SameButPlacing.checkMaps (c : Channel) (pass : EntryClass → Bool) : t.checkMaps c pass = s.checkMaps c pass := by
  unfold State.checkMaps
  simp only [h.classOf]

end

/-! ### Decisions (R59) -/

/-- A decision command whose descriptor is fetched and is its own decides in the state the burst leaves. -/
theorem State.decideStep_of_fetched {s : State} {off : Half} {d : Desc} (hf : s.fetchedDesc = some (off, d))
    {applies : Half → Desc → Bool} (ha : applies off d = true) (decision : State → Half → Desc → Decision) :
    s.decideStep applies decision = s.enterDeciding.settle (decision s.enterDeciding off d) := by
  simp [State.decideStep, hf, ha]

theorem State.isKind_of {s : State} {off : Half} {d : Desc} {code : Byte} (hin : off ∉ s.inFlight) (hk : d.kind = code) :
    s.isKind code off d = true := by
  simp [State.isKind, hin, hk]

section
variable {s u : State} {off : Half} {d : Desc} {items : List Item} (hf : s.fetchedDesc = some (off, d)) (hin : off ∉ s.inFlight)
include hf hin

theorem State.decides_setup (hk : d.kind = 1) (h : s.enterDeciding.decideSetup off d = (u, items)) : s.decides .setup u items := by
  show Host.Outcome.next _ = _
  rw [State.decideStep_of_fetched hf (State.isKind_of hin hk), h]

theorem State.decides_adopt (hk : d.kind = 2) (h : s.enterDeciding.decideAdopt off d = (u, items)) : s.decides .adopt u items := by
  show Host.Outcome.next _ = _
  rw [State.decideStep_of_fetched hf (State.isKind_of hin hk), h]

theorem State.decides_retarget (hk : d.kind = 3) (h : s.enterDeciding.decideRetarget off d = (u, items)) :
    s.decides .retarget u items := by
  show Host.Outcome.next _ = _
  rw [State.decideStep_of_fetched hf (State.isKind_of hin hk), h]

theorem State.decides_release (hk : d.kind = 4) (h : s.enterDeciding.decideRelease off d = (u, items)) :
    s.decides .release u items := by
  show Host.Outcome.next _ = _
  rw [State.decideStep_of_fetched hf (State.isKind_of hin hk), h]

end

/-- A refusal leaves the state and requires the postings of R56 and R58. -/
theorem State.refuse_eq (s : State) (off : Half) (d : Desc) (r : Reason) :
    s.refuse off d r = (s, refusal s.tick off d r.code) := rfl

theorem State.refuse_enterDeciding (s : State) (off : Half) (d : Desc) (r : Reason) :
    s.enterDeciding.refuse off d r = (s.enterDeciding, refusal s.tick off d r.code) := by
  rw [State.refuse_eq, (enterDeciding_placing s).tick]

/-! ### The checks of a SETUP and an ADOPT (Table 4-2) -/

section
variable {s : State} {d : Desc} {a b : End} {kind : ConnKind} {need : Bool}

theorem State.checkNew_badState (h : (s.chan d.handle).state ≠ .free) : s.checkNew d need = .error .badState := by
  simp [State.checkNew, h]

variable (hfree : (s.chan d.handle).state = .free)
include hfree

theorem State.checkNew_badEnd (h : d.ends = none) : s.checkNew d need = .error .badEnd := by
  simp [State.checkNew, hfree, h]

variable (hends : d.ends = some (a, b, kind))
include hends

theorem State.checkNew_badRange (h : d.count = 0 ∨ 16 < d.count ∨ 320 < d.first + d.count) :
    s.checkNew d need = .error .badRange := by
  have : d.rangeOk = false := by simp only [Desc.rangeOk, decide_eq_false_iff_not]; omega
  simp [State.checkNew, hfree, hends, this]

variable (hrange : 1 ≤ d.count ∧ d.count ≤ 16 ∧ d.first + d.count ≤ 320)
include hrange

theorem State.checkNew_siteOff (h : (s.site a.site).state ≠ .enabled ∨ (s.site b.site).state ≠ .enabled) :
    s.checkNew d need = .error .siteOff := by
  have hr : d.rangeOk = true := by simpa [Desc.rangeOk] using hrange
  have ho : (s.siteOn a.site && s.siteOn b.site) = false := by
    simp only [State.siteOn, Bool.and_eq_false_iff, decide_eq_false_iff_not]; exact h
  simp [State.checkNew, hfree, hends, hr, ho]

variable (ha : (s.site a.site).state = .enabled) (hb : (s.site b.site).state = .enabled)
include ha hb

theorem State.checkNew_badField (h1 : 200 < d.presetRaw) (h2 : d.presetRaw ≠ 255) : s.checkNew d need = .error .badField := by
  have hr : d.rangeOk = true := by simpa [Desc.rangeOk] using hrange
  have hp : d.presetOk = false := by simp only [Desc.presetOk, decide_eq_false_iff_not]; omega
  simp [State.checkNew, hfree, hends, hr, State.siteOn, ha, hb, hp]

theorem State.checkNew_noPreset (h : d.presetRaw = 255) : s.checkNew d true = .error .badField := by
  have hr : d.rangeOk = true := by simpa [Desc.rangeOk] using hrange
  simp [State.checkNew, hfree, hends, hr, State.siteOn, ha, hb, Desc.presetOk, Desc.preset, h]

/-- Every check passes. -/
theorem State.checkNew_ok (h : d.presetRaw ≤ 200 ∨ need = false ∧ d.presetRaw = 255) : s.checkNew d need = .ok (a, b, kind) := by
  have hr : d.rangeOk = true := by simpa [Desc.rangeOk] using hrange
  rcases h with h | ⟨rfl, h⟩ <;>
    simp [State.checkNew, hfree, hends, hr, State.siteOn, ha, hb, Desc.presetOk, Desc.preset, h]

end

/-! ### The map checks (R20, R21) -/

theorem State.checkMaps_conflict {s : State} {c : Channel} {pass : EntryClass → Bool}
    (h : ∃ r ∈ c.slicesOf, pass (s.classOf r) = false) : s.checkMaps c pass = some .conflict := by
  simp only [State.checkMaps, Bool.not_eq_true', List.all_eq_false, Bool.not_eq_true, if_pos h]

theorem State.checkMaps_portBusy {s : State} {c : Channel} {pass : EntryClass → Bool}
    (h : ∀ r ∈ c.slicesOf, pass (s.classOf r) = true) (hc : ∃ r ∈ c.cellOf, pass (s.classOf r) = false) :
    s.checkMaps c pass = some .portBusy := by
  have h1 : (c.slicesOf.all fun r => pass (s.classOf r)) = true := List.all_eq_true.mpr h
  have h2 : (c.cellOf.toList.all fun r => pass (s.classOf r)) = false := by
    simpa [List.all_eq_false] using hc
  simp [State.checkMaps, h1, h2]

theorem State.checkMaps_none {s : State} {c : Channel} {pass : EntryClass → Bool}
    (h : ∀ r ∈ c.footprint, pass (s.classOf r) = true) : s.checkMaps c pass = none := by
  have h1 : (c.slicesOf.all fun r => pass (s.classOf r)) = true :=
    List.all_eq_true.mpr fun r hr => h r (List.mem_append_left _ hr)
  have h2 : (c.cellOf.toList.all fun r => pass (s.classOf r)) = true :=
    List.all_eq_true.mpr fun r hr => h r (List.mem_append_right _ hr)
  simp [State.checkMaps, h1, h2]

/-- The classes of an entry, by its owner and claimant (R20). -/
theorem State.classOf_free {s : State} {x : EntryRef} : s.classOf x = .free ↔ (s.entry x).owner = none := by
  unfold State.classOf
  dsimp only
  split
  · rename_i h; simp [h]
  · rename_i h
    split
    · split <;> simp [h]
    · simp [h]

theorem State.classOf_claimable {s : State} {x : EntryRef} :
    s.classOf x = .claimable ↔
      (∃ h, (s.entry x).owner = some h ∧ (s.chan h).state = .falling) ∧ (s.entry x).claimant = none := by
  unfold State.classOf
  dsimp only
  split
  · rename_i h; simp [h]
  · rename_i h
    split
    · rename_i hs
      split <;> rename_i hc <;> simp [h, hs, hc]
    · rename_i hs
      simp [h, hs]

theorem State.classOf_blocking {s : State} {x : EntryRef} :
    s.classOf x = .blocking ↔
      (∃ h, (s.entry x).owner = some h ∧ (s.chan h).state ≠ .falling) ∨
        (∃ h, (s.entry x).owner = some h ∧ (s.chan h).state = .falling) ∧ (s.entry x).claimant ≠ none := by
  unfold State.classOf
  dsimp only
  split
  · rename_i h; simp [h]
  · rename_i h
    split
    · rename_i hs
      split <;> rename_i hc <;> simp [h, hs, hc]
    · rename_i hs
      simp [h, hs]

/-! ### The fields of a descriptor (R3, R4, R193) -/

theorem bits_toNat (w : Word) (hi lo : Nat) : bits w hi lo = w.toNat / 2 ^ lo % 2 ^ (hi - lo + 1) := by
  simp [bits, Nat.shiftRight_eq_div_pow]

theorem lowHalf_toNat (w : Word) : (lowHalf w).toNat = w.toNat % 2 ^ 16 := by
  simp [lowHalf]

theorem highHalf_toNat (w : Word) : (highHalf w).toNat = w.toNat / 2 ^ 16 % 2 ^ 16 := by
  simp [highHalf, Nat.shiftRight_eq_div_pow]

theorem lowHalf_toInt (w : Word) :
    (lowHalf w).toInt = if w.toNat % 2 ^ 16 < 32768 then ((w.toNat % 2 ^ 16 : Nat) : Int)
      else ((w.toNat % 2 ^ 16 : Nat) : Int) - 65536 := by
  rw [BitVec.toInt_eq_toNat_cond, lowHalf_toNat]
  split <;> split <;> omega

/-- The parts of an end field (R193). -/
theorem endField_toNat (raw : Half) :
    (raw.extractLsb 3 0).toNat = raw.toNat % 16 ∧ (raw.extractLsb 7 4).toNat = raw.toNat / 16 % 16 ∧
      (raw.extractLsb 11 8).toNat = raw.toNat / 256 % 16 := by
  refine ⟨?_, ?_, ?_⟩ <;> simp [Nat.shiftRight_eq_div_pow]

theorem decodeEnd_degree (raw : Half) (i : Fin 8) :
    decodeEnd raw = some (.degree i) ↔ raw.toNat % 16 = 1 ∧ raw.toNat / 256 % 16 = i.val := by
  obtain ⟨h1, h2, h3⟩ := endField_toNat raw
  unfold decodeEnd
  simp only [h1, h2, h3]
  split
  · rename_i hf
    simp only [Option.dite_none_right_eq_some, Option.some.injEq, End.degree.injEq, Fin.ext_iff, exists_prop, hf, true_and]
    omega
  · rename_i hf
    split
    · simp [hf]
    · split <;> simp [hf]

theorem decodeEnd_addPort (raw : Half) (g : Fin 2) (p : Fin 12) :
    decodeEnd raw = some (.addPort g p) ↔
      raw.toNat % 16 = 2 ∧ raw.toNat / 16 % 16 = g.val ∧ raw.toNat / 256 % 16 = p.val := by
  obtain ⟨h1, h2, h3⟩ := endField_toNat raw
  unfold decodeEnd
  simp only [h1, h2, h3]
  split
  · rename_i hf
    simp [hf]
  · split
    · rename_i hf
      simp only [Option.dite_none_right_eq_some, Option.some.injEq, End.addPort.injEq, Fin.ext_iff, hf, true_and]
      constructor
      · rintro ⟨_, h⟩; exact h
      · intro h; exact ⟨by omega, h⟩
    · rename_i hf
      split <;> simp [hf]

theorem decodeEnd_dropPort (raw : Half) (g : Fin 2) (p : Fin 12) :
    decodeEnd raw = some (.dropPort g p) ↔
      raw.toNat % 16 = 3 ∧ raw.toNat / 16 % 16 = g.val ∧ raw.toNat / 256 % 16 = p.val := by
  obtain ⟨h1, h2, h3⟩ := endField_toNat raw
  unfold decodeEnd
  simp only [h1, h2, h3]
  split
  · rename_i hf
    simp [hf]
  · split
    · rename_i hf
      simp [hf]
    · split
      · rename_i hf
        simp only [Option.dite_none_right_eq_some, Option.some.injEq, End.dropPort.injEq, Fin.ext_iff, hf, true_and]
        constructor
        · rintro ⟨_, h⟩; exact h
        · intro h; exact ⟨by omega, h⟩
      · rename_i hf
        simp [hf]

/-- The kind follows from the pair of ends (R4). -/
theorem kindOf_eq_some (a b : End) (kind : ConnKind) :
    kindOf a b = some kind ↔ match kind with
      | .express => ∃ i j, a = .degree i ∧ b = .degree j ∧ i ≠ j
      | .add => ∃ g p j, a = .addPort g p ∧ b = .degree j
      | .drop => ∃ i g p, a = .degree i ∧ b = .dropPort g p := by
  cases a <;> cases b <;> cases kind <;> simp [kindOf]

theorem Desc.ends_eq_some (d : Desc) (a b : End) (kind : ConnKind) :
    d.ends = some (a, b, kind) ↔ decodeEnd d.src = some a ∧ decodeEnd d.dst = some b ∧ kindOf a b = some kind := by
  unfold Desc.ends
  split
  · rename_i a' b' ha hb
    rw [ha, hb]
    simp only [Option.map_eq_some_iff, Prod.mk.injEq, Option.some.injEq]
    constructor
    · rintro ⟨k, hk, rfl, rfl, rfl⟩; exact ⟨rfl, rfl, hk⟩
    · rintro ⟨rfl, rfl, hk⟩; exact ⟨kind, hk, rfl, rfl, rfl⟩
  · rename_i hn
    simp only [reduceCtorEq, false_iff]
    rintro ⟨ha, hb, -⟩
    exact hn a b ha hb

/-! ### Refusals in the check order (R59) -/

/-- The refusals of Table 4-2 that a SETUP and an ADOPT share: BAD_STATE, BAD_END, BAD_RANGE, SITE_OFF, BAD_FIELD. -/
theorem State.refuses_new {s : State} {off : Half} {d : Desc} {x : Instr} {need : Bool}
    (hx : ∀ {r code}, s.checkNew d need = .error r → r.code = code → s.refuses x off d code) :
    ((s.chan d.handle).state ≠ .free → s.refuses x off d 2) ∧
    ((s.chan d.handle).state = .free → d.ends = none → s.refuses x off d 3) ∧
    ∀ a b kind, (s.chan d.handle).state = .free → d.ends = some (a, b, kind) →
      ((d.count = 0 ∨ 16 < d.count ∨ 320 < d.first + d.count) → s.refuses x off d 5) ∧
      (1 ≤ d.count ∧ d.count ≤ 16 ∧ d.first + d.count ≤ 320 →
        (((s.site a.site).state ≠ .enabled ∨ (s.site b.site).state ≠ .enabled) → s.refuses x off d 4) ∧
        ((s.site a.site).state = .enabled → (s.site b.site).state = .enabled →
          200 < d.presetRaw → d.presetRaw ≠ 255 → s.refuses x off d 11)) :=
  ⟨fun h => hx (State.checkNew_badState h) rfl, fun hfree h => hx (State.checkNew_badEnd hfree h) rfl, fun _ _ _ hfree hends =>
    ⟨fun h => hx (State.checkNew_badRange hfree hends h) rfl, fun hr =>
      ⟨fun h => hx (State.checkNew_siteOff hfree hends hr h) rfl, fun ha hb h1 h2 =>
        hx (State.checkNew_badField hfree hends hr ha hb h1 h2) rfl⟩⟩⟩

section
variable {s : State} {off : Half} {d : Desc} (hf : s.fetchedDesc = some (off, d)) (hin : off ∉ s.inFlight)
include hf hin

theorem State.setup_refuses_check (hk : d.kind = 1) {r : Reason} {code : Byte} (h : s.checkNew d false = .error r) (hr : r.code = code) :
    s.refuses .setup off d code := by
  subst hr
  refine State.decides_setup hf hin hk ?_
  rw [← (enterDeciding_placing s).checkNew] at h
  rw [← State.refuse_enterDeciding]
  unfold State.decideSetup
  rw [h]

theorem State.adopt_refuses_check (hk : d.kind = 2) {r : Reason} {code : Byte} (h : s.checkNew d true = .error r) (hr : r.code = code) :
    s.refuses .adopt off d code := by
  subst hr
  refine State.decides_adopt hf hin hk ?_
  rw [← (enterDeciding_placing s).checkNew] at h
  rw [← State.refuse_enterDeciding]
  unfold State.decideAdopt
  rw [h]

theorem State.setup_refuses_maps (hk : d.kind = 1) {a b : End} {kind : ConnKind} {r : Reason} {code : Byte}
    (h : s.checkNew d false = .ok (a, b, kind))
    (hm : s.checkMaps (s.filled d off a b kind) (fun x => decide (x ≠ .blocking)) = some r) (hr : r.code = code) :
    s.refuses .setup off d code := by
  subst hr
  refine State.decides_setup hf hin hk ?_
  rw [← (enterDeciding_placing s).checkNew] at h
  rw [← (enterDeciding_placing s).filled, ← (enterDeciding_placing s).checkMaps] at hm
  rw [← State.refuse_enterDeciding]
  unfold State.decideSetup
  rw [h]
  dsimp only
  rw [hm]

theorem State.adopt_refuses_maps (hk : d.kind = 2) {a b : End} {kind : ConnKind} {r : Reason} {code : Byte}
    (h : s.checkNew d true = .ok (a, b, kind))
    (hm : s.checkMaps (s.filled d off a b kind) (fun x => decide (x = .free)) = some r) (hr : r.code = code) :
    s.refuses .adopt off d code := by
  subst hr
  refine State.decides_adopt hf hin hk ?_
  rw [← (enterDeciding_placing s).checkNew] at h
  rw [← (enterDeciding_placing s).filled, ← (enterDeciding_placing s).checkMaps] at hm
  rw [← State.refuse_enterDeciding]
  unfold State.decideAdopt
  rw [h]
  dsimp only
  rw [hm]

theorem State.adopt_refuses_noSlot (hk : d.kind = 2) {a b : End} {kind : ConnKind}
    (h : s.checkNew d true = .ok (a, b, kind))
    (hm : s.checkMaps (s.filled d off a b kind) (fun x => decide (x = .free)) = none) (hs : s.freeSlot = none) :
    s.refuses .adopt off d 10 := by
  refine State.decides_adopt hf hin hk ?_
  rw [← (enterDeciding_placing s).checkNew] at h
  rw [← (enterDeciding_placing s).filled, ← (enterDeciding_placing s).checkMaps] at hm
  rw [← (enterDeciding_placing s).freeSlot] at hs
  refine Eq.trans ?_ (State.refuse_enterDeciding s off d .noSlot)
  unfold State.decideAdopt
  rw [h]
  dsimp only
  rw [hm]
  dsimp only
  rw [hs]

/-- The refusals of a RETARGET (Table 4-3). -/
theorem State.retarget_refuses (hk : d.kind = 3) :
    let c := s.chan d.handle
    ((c.state = .free ∨ c.state = .dark) → s.refuses .retarget off d 2) ∧
    ((c.state = .rising ∨ c.state = .adjusting ∨ c.state = .falling ∨ c.state = .active ∧ c.pending ≠ none) →
      s.refuses .retarget off d 8) ∧
    (c.state = .active → c.pending = none → 200 < d.presetRaw → d.presetRaw ≠ 255 → s.refuses .retarget off d 11) := by
  intro c
  have hc : s.enterDeciding.chan d.handle = c := (enterDeciding_placing s).chan _
  have refuses {r : Reason} {code : Byte} (hr : r.code = code)
      (h : s.enterDeciding.decideRetarget off d = s.enterDeciding.refuse off d r) : s.refuses .retarget off d code :=
    hr ▸ State.decides_retarget hf hin hk (h.trans (State.refuse_enterDeciding s off d r))
  refine ⟨fun h => refuses (r := .badState) rfl ?_, fun h => refuses (r := .pending) rfl ?_,
    fun ha hp h1 h2 => refuses (r := .badField) rfl ?_⟩
  · rcases h with h | h <;> simp [State.decideRetarget, hc, h]
  · rcases h with h | h | h | ⟨h, hp⟩ <;> simp [State.decideRetarget, hc, h]
    intro he
    exact absurd he hp
  · have : d.presetOk = false := by simp only [Desc.presetOk, decide_eq_false_iff_not]; omega
    simp [State.decideRetarget, hc, ha, hp, this]

/-- The refusals of a RELEASE (Table 4-3). -/
theorem State.release_refuses (hk : d.kind = 4) :
    let c := s.chan d.handle
    ((c.state = .free ∨ c.state = .falling) → s.refuses .release off d 2) ∧
    (∀ e, c.state = .active → c.pending = some .waiting → s.entryOf d.handle = some e → e.kind = .fall →
      s.refuses .release off d 8) := by
  intro c
  have hc : s.enterDeciding.chan d.handle = c := (enterDeciding_placing s).chan _
  have refuses {r : Reason} {code : Byte} (hr : r.code = code)
      (h : s.enterDeciding.decideRelease off d = s.enterDeciding.refuse off d r) : s.refuses .release off d code :=
    hr ▸ State.decides_release hf hin hk (h.trans (State.refuse_enterDeciding s off d r))
  refine ⟨fun h => refuses (r := .badState) rfl ?_, fun e ha hp he hfall => refuses (r := .pending) rfl ?_⟩
  · rcases h with h | h <;> simp [State.decideRelease, hc, h]
  · have hw : s.enterDeciding.waits d.handle .fall = true := by
      rw [(enterDeciding_placing s).waits]
      show (decide (c.pending = some .waiting) && _) = true
      simp [hp, he, hfall]
    simp [State.decideRelease, hc, ha, hw]

end

/-- Settles O39: the fields bit by bit, the classes by owner and claimant, and each refusal by the check that is first to fail. -/
theorem refusalsFollowTheCheckOrder : Obligations.RefusalsFollowTheCheckOrder := by
  refine ⟨fun f => ?fields, fun raw => ⟨decodeEnd_degree raw, fun g p => ⟨decodeEnd_addPort raw g p, decodeEnd_dropPort raw g p⟩⟩,
    fun d a b kind => (d.ends_eq_some a b kind).trans (and_congr Iff.rfl (and_congr Iff.rfl (kindOf_eq_some a b kind))),
    fun s x => ⟨State.classOf_free, State.classOf_claimable, State.classOf_blocking⟩, fun s off d hf hin => ?refusals⟩
  case fields =>
    refine ⟨?_, ?_, ?_, ?_, ?_, ?_, ?_, ?_, ?_, ?_, rfl⟩
    · simp [decodeDesc]
    · simp [decodeDesc, BitVec.getLsbD, Nat.testBit_eq_decide_div_mod_eq]
    · simp [decodeDesc, Nat.shiftRight_eq_div_pow]
    · simp [decodeDesc, lowHalf_toNat]
    · simp [decodeDesc, highHalf_toNat]
    · exact bits_toNat f.w2 8 0
    · exact bits_toNat f.w2 20 16
    · show (lowHalf f.w3).toInt = _
      rw [lowHalf_toInt]
      simp
    · exact bits_toNat f.w3 23 16
    · simp [decodeDesc, lowHalf_toNat]
  case refusals =>
    refine ⟨fun hk => ⟨State.refuses_new (State.setup_refuses_check hf hin hk), ?setup⟩,
      fun hk => ⟨State.refuses_new (State.adopt_refuses_check hf hin hk), ?adopt⟩,
      State.retarget_refuses hf hin, State.release_refuses hf hin⟩
    case setup =>
      rintro a b kind ⟨hfree, hends, h1, h16, h320, ha, hb⟩ hp
      have hok : s.checkNew d false = .ok (a, b, kind) :=
        State.checkNew_ok hfree hends ⟨h1, h16, h320⟩ ha hb (hp.imp_right fun h => ⟨rfl, h⟩)
      refine ⟨fun h => ?_, fun h hc => ?_⟩
      · exact State.setup_refuses_maps hf hin hk hok (State.checkMaps_conflict (by simpa using h)) rfl
      · exact State.setup_refuses_maps hf hin hk hok
          (State.checkMaps_portBusy (by simpa using h) (by simpa using hc)) rfl
    case adopt =>
      rintro a b kind ⟨hfree, hends, h1, h16, h320, ha, hb⟩
      refine ⟨fun hp => ?_, fun hp => ?_⟩
      · exact State.adopt_refuses_check hf hin hk (State.checkNew_noPreset hfree hends ⟨h1, h16, h320⟩ ha hb hp) rfl
      have hok : s.checkNew d true = .ok (a, b, kind) := State.checkNew_ok hfree hends ⟨h1, h16, h320⟩ ha hb (.inl hp)
      refine ⟨fun h => ?_, fun h hc => ?_, fun h hs => ?_⟩
      · exact State.adopt_refuses_maps hf hin hk hok (State.checkMaps_conflict (by simpa [State.classOf_free] using h)) rfl
      · exact State.adopt_refuses_maps hf hin hk hok
          (State.checkMaps_portBusy (by simpa [State.classOf_free] using h) (by simpa [State.classOf_free] using hc)) rfl
      · refine State.adopt_refuses_noSlot hf hin hk hok (State.checkMaps_none (by simpa [State.classOf_free] using h)) ?_
        simpa [State.freeSlot, allSlots] using hs

end Sys2Proof.Machine
end

section
/-!
SUPPORT. Reservation and offers (R20, R88): the maps after a footprint is reserved, the three answers of an offer, and what an admission,
an append and an ADJUST complete at once leave alone. With them the decisions of a SETUP, a RETARGET and a RELEASE.
-/

namespace Sys2Proof.Machine

open Sys2Proof

/-! ### Reservation (R20) -/

/-- An entry as a channel's reservation leaves it: owned if it was free, claimed if it was claimable. -/
def State.reserved (s : State) (h : Handle) (x : EntryRef) : Entry :=
  match s.classOf x with
  | .free => { s.entry x with owner := some h }
  | .claimable => { s.entry x with claimant := some h }
  | .blocking => s.entry x

theorem State.reserveOne_eq (s : State) (h : Handle) (r : EntryRef) :
    (s.reserveOne h r = s.setEntry r (s.reserved h r)) ∨ (s.reserveOne h r = s ∧ s.reserved h r = s.entry r) := by
  unfold State.reserveOne State.reserved
  cases s.classOf r with
  | free => exact .inl rfl
  | claimable => exact .inl rfl
  | blocking => exact .inr ⟨rfl, rfl⟩

theorem State.entry_reserveOne (s : State) (h : Handle) (r x : EntryRef) :
    (s.reserveOne h r).entry x = if x = r then s.reserved h r else s.entry x := by
  rcases s.reserveOne_eq h r with he | ⟨he, hr⟩
  · rw [he, State.entry_setEntry]
  · rw [he]
    split
    · rename_i hx; rw [hx, hr]
    · rfl

theorem State.chan_reserveOne (s : State) (h : Handle) (r : EntryRef) (g : Handle) : (s.reserveOne h r).chan g = s.chan g := by
  rcases s.reserveOne_eq h r with he | ⟨he, -⟩ <;> rw [he]
  exact chan_setEntry _ _ _ g

/-- An entry once reserved by a channel that is not FALLING is blocking, so that reserving it again changes nothing. -/
theorem State.reserved_reserveOne {s : State} {h : Handle} (hh : (s.chan h).state ≠ .falling) (r x : EntryRef) :
    (s.reserveOne h r).reserved h x = s.reserved h x := by
  have hc := s.chan_reserveOne h r
  have he := s.entry_reserveOne h r x
  by_cases hx : x = r
  · subst hx
    rw [if_pos rfl] at he
    have hblock : (s.reserveOne h x).classOf x = .blocking := by
      rw [State.classOf_blocking, he]
      simp only [hc]
      unfold State.reserved
      cases hcl : s.classOf x with
      | free => exact .inl ⟨h, rfl, hh⟩
      | claimable => exact .inr ⟨(State.classOf_claimable.mp hcl).1, by simp⟩
      | blocking => exact State.classOf_blocking.mp hcl
    show (match (s.reserveOne h x).classOf x with
      | .free => _
      | .claimable => _
      | .blocking => (s.reserveOne h x).entry x) = _
    rw [hblock]
    exact he
  · rw [if_neg hx] at he
    unfold State.reserved State.classOf
    simp only [he, hc]

/-- The maps after a reservation. -/
theorem State.entry_reserve {s : State} {h : Handle} (hh : (s.chan h).state ≠ .falling) (fp : List EntryRef) (x : EntryRef) :
    (s.reserve h fp).entry x = if x ∈ fp then s.reserved h x else s.entry x := by
  unfold State.reserve
  induction fp generalizing s with
  | nil => simp
  | cons r fp ih =>
    have hh' : ((s.reserveOne h r).chan h).state ≠ .falling := by rwa [State.chan_reserveOne]
    rw [List.foldl_cons, ih hh', State.reserved_reserveOne hh, State.entry_reserveOne]
    by_cases hx : x = r
    · subst hx; simp
    · simp [hx]

theorem reserveOne_only (h : Handle) (s : State) (r : EntryRef) : SameButMaps s (s.reserveOne h r) := by
  rcases s.reserveOne_eq h r with he | ⟨he, -⟩ <;> rw [he]
  · exact setEntry_only s _ _
  · exact rfl

theorem passDue_reserveOne (h : Handle) (s : State) (r : EntryRef) : (s.reserveOne h r).passDue = s.passDue := by
  rcases s.reserveOne_eq h r with he | ⟨he, -⟩ <;> rw [he]
  exact State.setEntry_passDue _ _ _

/-- A reservation touches the maps, and nothing else. -/
theorem reserve_only (s : State) (h : Handle) (fp : List EntryRef) : SameButMaps s (s.reserve h fp) :=
  .foldl (reserveOne_only h) fp s

section
variable {s t : State} (h : SameButMaps s t)
include h

theorem SameButMaps.links : t.links = s.links := by rw [h]
theorem SameButMaps.inFlight : t.inFlight = s.inFlight := by rw [h]
theorem SameButMaps.tick : t.tick = s.tick := by rw [h]
theorem SameButMaps.chan (g : Handle) : t.chan g = s.chan g := by rw [h]; rfl

end

/-! ### The answers of an offer (R88) -/

theorem State.commit_eq (s : State) (n : SiteId) (w : Nat) : s.commit n w = { s with committed := (s.commit n w).committed } := by
  unfold State.commit
  split <;> rfl

/-- An admission touches records, slots, links and swings, and nothing else (R91). -/
theorem admitEntry_only (s : State) (e : WaitEntry) :
    s.admitEntry e = { s with chans := (s.admitEntry e).chans, slots := (s.admitEntry e).slots, links := (s.admitEntry e).links,
                              committed := (s.admitEntry e).committed } := by
  unfold State.admitEntry
  split
  · rfl
  · rename_i k _
    dsimp only
    rw [placeRamp_only, dropLevel_only, State.commit_eq]
    rfl

@[simp] theorem State.waitList_admitEntry (s : State) (e : WaitEntry) : (s.admitEntry e).waitList = s.waitList := by
  rw [admitEntry_only]

theorem State.adjustMet_of_ne {e : WaitEntry} (h : e.kind ≠ .adjust) (s : State) : s.adjustMet e = false := by
  simp [State.adjustMet, h]

section
variable {s : State} {e : WaitEntry}

/-- An admissible transition that need not complete at once is admitted. -/
theorem State.offer_admitted (ha : s.admissible s.waitList e = true) (hm : s.adjustMet e = false) :
    s.offer e = .admitted { s.admitEntry e with waitList := (s.admitEntry e).raiseSkips e.dest s.waitList } := by
  simp [State.offer, ha, hm]

/-- An admissible ADJUST at its target completes at once. -/
theorem State.offer_complete (ha : s.admissible s.waitList e = true) (hm : s.adjustMet e = true) :
    s.offer e = .complete { s.completeAdjust e with waitList := s.raiseSkips e.dest s.waitList } := by
  simp [State.offer, ha, hm]

/-- An offer that is not admissible joins a Wait List with room. -/
theorem State.offer_appended (ha : s.admissible s.waitList e = false) (hl : s.waitList.length < 64) :
    s.offer e = .appended (s.append e) := by
  simp [State.offer, ha, hl]

theorem State.offer_full (ha : s.admissible s.waitList e = false) (hl : 64 ≤ s.waitList.length) : s.offer e = .full := by
  simp [State.offer, ha, Nat.not_lt.mpr hl]

end

/-- An append touches the Wait List, the channel's record and the pass due, and nothing else (R82). -/
theorem append_only (s : State) (e : WaitEntry) :
    s.append e = { s with waitList := s.waitList ++ [e], chans := (s.append e).chans, passDue := true } := by
  show State.due _ true = _
  simp [State.due, State.setChan, State.append]

@[simp] theorem State.entry_append (s : State) (e : WaitEntry) (x : EntryRef) : (s.append e).entry x = s.entry x := by
  rw [append_only]; cases x <;> rfl

/-- A descriptor offset enters the in-flight set, and nothing else changes (R57). -/
theorem enterFlight_only (s : State) (a : Half) : s.enterFlight a = { s with inFlight := (s.enterFlight a).inFlight } := by
  unfold State.enterFlight
  split <;> rfl

theorem State.mem_enterFlight (s : State) (a : Half) : a ∈ (s.enterFlight a).inFlight := by
  unfold State.enterFlight
  split
  · rename_i h; simpa using h
  · simp

/-- The state an offer leaves when its transition waits: the entry at the tail, the record's reference to it, a pass due, and nothing
else but the descriptor in flight. -/
theorem State.appended_facts (r : State) (e : WaitEntry) (off : Half) :
    let u := (r.append e).enterFlight off
    u.waitList = r.waitList ++ [e] ∧ u.chan e.handle = { r.chan e.handle with pending := some .waiting } ∧
    (∀ h, h ≠ e.handle → u.chan h = r.chan h) ∧ (∀ x, u.entry x = r.entry x) ∧ u.slots = r.slots ∧
    u.committed = r.committed ∧ u.links = r.links ∧ u.passDue = true ∧ off ∈ u.inFlight := by
  intro u
  have hu : u = { r.append e with inFlight := u.inFlight } := enterFlight_only _ _
  have hc (h : Handle) : u.chan h = (r.append e).chan h := by rw [hu]; rfl
  refine ⟨?_, ?_, fun h hh => ?_, fun x => ?_, ?_, ?_, ?_, ?_, State.mem_enterFlight _ _⟩
  · rw [hu, append_only]
  · rw [hc, chan_append, if_pos rfl]
  · rw [hc, chan_append, if_neg hh]
  · rw [← State.entry_append r e x, hu]; cases x <;> rfl
  · rw [hu, append_only]
  · rw [hu, append_only]
  · rw [hu, append_only]
  · rw [hu, append_only]

/-! ### SETUP (R71) -/

/-- The port cell of a channel, by its kind and end (Table 1-2). -/
theorem Channel.cellOf_addCell (c : Channel) (g : Fin 2) (p : Fin 12) :
    c.cellOf = some (.addCell g p) ↔ c.kind = .add ∧ c.src = .addPort g p := by
  unfold Channel.cellOf
  cases c.kind <;> cases c.src <;> cases c.dst <;> simp

theorem Channel.cellOf_dropCell (c : Channel) (g : Fin 2) (p : Fin 12) :
    c.cellOf = some (.dropCell g p) ↔ c.kind = .drop ∧ c.dst = .dropPort g p := by
  unfold Channel.cellOf
  cases c.kind <;> cases c.src <;> cases c.dst <;> simp

theorem Channel.mem_footprint (c : Channel) (x : EntryRef) : x ∈ c.footprint ↔ x ∈ c.slicesOf ∨ c.cellOf = some x := by
  simp [Channel.footprint]

/-- The entries of a footprint (R5, R19, Table 1-2). -/
theorem Channel.footprint_facts (c : Channel) :
    (∀ m n, .slice m n ∈ c.footprint ↔ (m = c.srcTap ∨ m = c.dstTap) ∧ c.first ≤ n.val ∧ n.val < c.first + c.count) ∧
    (∀ g p, (.addCell g p ∈ c.footprint ↔ c.kind = .add ∧ c.src = .addPort g p) ∧
      (.dropCell g p ∈ c.footprint ↔ c.kind = .drop ∧ c.dst = .dropPort g p)) ∧
    ∀ x, (x ∈ c.slicesOf ↔ x ∈ c.footprint ∧ ∃ m n, x = .slice m n) ∧
      (c.cellOf = some x ↔ x ∈ c.footprint ∧ ∀ m n, x ≠ .slice m n) := by
  refine ⟨fun m n => ?_, fun g p => ⟨?_, ?_⟩, fun x => ⟨⟨fun h => ?_, ?_⟩, ⟨fun h => ?_, ?_⟩⟩⟩
  · rw [Channel.mem_footprint, Channel.mem_slicesOf]
    constructor
    · rintro (⟨m', n', h, hm, hn⟩ | h)
      · cases h; exact ⟨hm, hn⟩
      · exact absurd rfl (Channel.cellOf_not_slice h m n)
    · rintro ⟨hm, hn⟩; exact .inl ⟨m, n, rfl, hm, hn⟩
  · rw [Channel.mem_footprint, Channel.mem_slicesOf, Channel.cellOf_addCell]
    simp
  · rw [Channel.mem_footprint, Channel.mem_slicesOf, Channel.cellOf_dropCell]
    simp
  · obtain ⟨m, n, hx, -⟩ := Channel.mem_slicesOf.mp h
    exact ⟨(c.mem_footprint x).mpr (.inl h), m, n, hx⟩
  · rintro ⟨h, m, n, rfl⟩
    exact ((c.mem_footprint _).mp h).resolve_right fun hc => Channel.cellOf_not_slice hc m n rfl
  · exact ⟨(c.mem_footprint x).mpr (.inr h), Channel.cellOf_not_slice h⟩
  · rintro ⟨h, hx⟩
    refine ((c.mem_footprint x).mp h).resolve_left fun hs => ?_
    obtain ⟨m, n, rfl, -⟩ := Channel.mem_slicesOf.mp hs
    exact hx m n rfl

/-- The tap of each end (Table 1-2). -/
theorem Channel.taps_of_ends (c : Channel) :
    (∀ i, c.src = .degree i → c.srcTap.val = i.val) ∧ (∀ g p, c.src = .addPort g p → c.srcTap.val = 16 + g.val) ∧
    (∀ j, c.dst = .degree j → c.dstTap.val = 8 + j.val) ∧ ∀ g p, c.dst = .dropPort g p → c.dstTap.val = 18 + g.val := by
  refine ⟨fun i h => ?_, fun g p h => ?_, fun i h => ?_, fun g p h => ?_⟩ <;>
    simp [Channel.srcTap, Channel.dstTap, Channel.srcSite, Channel.dstSite, ingressTap, egressTap, End.site, degreeSite, groupSite, h]

/-- The record a SETUP or an ADOPT fills (R8, R13). -/
theorem State.filled_eq (s : State) (d : Desc) (off : Half) (a b : End) (kind : ConnKind) :
    let level := max (s.params b.site).lmin (min (s.params b.site).lmax d.target)
    s.filled d off a b kind =
      { state := .dark, kind, src := a, dst := b, first := d.first, count := d.count, target := level,
        clamped := decide (level ≠ d.target), desc := some off } := rfl

/-- With an entry of its footprint owned by another a channel's transition is not admissible (R84, condition 1). -/
theorem State.admissible_of_unowned {r : State} {older : List WaitEntry} {e : WaitEntry} {x : EntryRef}
    (hx : x ∈ (r.chan e.handle).footprint) (ho : (r.entry x).owner ≠ some e.handle) : r.admissible older e = false := by
  have : r.ownsAll e.handle = false := by
    unfold State.ownsAll
    rw [List.all_eq_false]
    exact ⟨x, hx, by simp [ho]⟩
  simp [State.admissible, this]

/-- The decision of a SETUP that passes every check, by the answer to its offer (R71, R88). -/
theorem State.decideSetup_of_ok {s : State} {off : Half} {d : Desc} {a b : End} {kind : ConnKind} {c : Channel} {r : State}
    {e : WaitEntry} (hok : s.checkNew d false = .ok (a, b, kind)) (hc : s.filled d off a b kind = c)
    (hm : s.checkMaps c (fun x => decide (x ≠ .blocking)) = none) (hr : (s.reserve d.handle c.footprint).setChan d.handle c = r)
    (he : { kind := .rise, handle := d.handle, desc := some off, dest := b.site, preset := d.preset } = e) :
    s.decideSetup off d = match r.offer e with
      | .admitted s2 | .complete s2 => (s2.enterFlight off, s.outcomePosts off .taken c.clamped 0 d.handle)
      | .appended s2 => (s2.enterFlight off, s.outcomePosts off .waiting c.clamped 0 d.handle)
      | .full => s.refuse off d .waitFull := by
  subst hc hr he
  unfold State.decideSetup
  rw [hok]
  dsimp only
  rw [hm] <;> rfl

/-- Settles O40: the footprint by Table 1-2, the maps by the reservation, and the three answers of the offer of a RISE. -/
theorem setupReservesAndOffersARise : Obligations.SetupReservesAndOffersARise := by
  refine ⟨fun c => ?_, ?_⟩
  · obtain ⟨h1, h2, h3⟩ := c.footprint_facts
    exact ⟨h1, h2, h3, c.taps_of_ends⟩
  intro s off d a b kind hf hin hk hfree hends h1 h16 h320 ha hb hp level c hpass t r e
  have ht : SameButPlacing s t := enterDeciding_placing s
  have hnotFalling : (t.chan d.handle).state ≠ .falling := by rw [ht.chan, hfree]; simp
  have hok : t.checkNew d false = .ok (a, b, kind) := by
    rw [ht.checkNew]
    exact State.checkNew_ok hfree hends ⟨h1, h16, h320⟩ ha hb (hp.imp_right fun h => ⟨rfl, h⟩)
  have hc : t.filled d off a b kind = c := by rw [ht.filled, State.filled_eq]
  have hm : t.checkMaps c (fun x => decide (x ≠ .blocking)) = none :=
    State.checkMaps_none fun x hx => by rw [ht.classOf]; simpa using hpass x hx
  have hdecide := State.decideSetup_of_ok hok hc hm (r := r) (e := e) rfl rfl
  have hchan (h : Handle) : r.chan h = if h = d.handle then c else s.chan h := by
    rw [State.chan_setChan, chan_reserve, ht.chan]
  have hwait : r.waitList = s.waitList := by
    rw [State.setChan_waitList, (reserve_only _ _ _).waitList, ht.waitList]
  have hentry (x : EntryRef) : r.entry x = if x ∈ c.footprint
      then (if (s.entry x).owner = none then { s.entry x with owner := some d.handle }
            else { s.entry x with claimant := some d.handle })
      else s.entry x := by
    rw [State.entry_setChan, State.entry_reserve hnotFalling, ht.entry]
    split
    · rename_i hx
      unfold State.reserved
      rw [ht.classOf, ht.entry]
      cases hcl : s.classOf x with
      | free => rw [if_pos (State.classOf_free.mp hcl)]
      | claimable =>
        obtain ⟨⟨o, ho, -⟩, -⟩ := State.classOf_claimable.mp hcl
        rw [if_neg (by simp [ho])]
      | blocking => exact absurd hcl (hpass x hx)
    · rfl
  have htick : t.tick = s.tick := ht.tick
  refine ⟨hentry, fun h hh => by rw [hchan, if_neg hh], ?_, ?_, ?_, ?_⟩
  · rintro ⟨x, hx, ho⟩
    have hrc : r.chan e.handle = c := by rw [hchan]; exact if_pos rfl
    refine State.admissible_of_unowned (x := x) (by rw [hrc]; exact hx) ?_
    rw [hentry, if_pos hx, if_neg ho]
    intro hown
    have hcl : s.classOf x = .blocking :=
      State.classOf_blocking.mpr (.inl ⟨d.handle, hown, by rw [hfree]; simp⟩)
    exact hpass x hx hcl
  · intro hadm
    refine State.decides_setup hf hin hk ?_
    rw [← hwait] at hadm ⊢
    rw [hdecide, State.offer_admitted hadm (State.adjustMet_of_ne (by simp [e]) r)]
    dsimp only
    rw [← htick]
    rfl
  · intro hadm hl
    rw [← hwait] at hadm hl
    obtain ⟨h1, h2, h3, h4, h5, h6, h7, h8, h9⟩ := r.appended_facts e off
    refine ⟨_, State.decides_setup hf hin hk (by
      rw [hdecide, State.offer_appended hadm hl, ← htick]
      rfl), by rw [h1, hwait], ?_, fun h hh => ?_, h4, ?_, ?_, ?_, h8, h9⟩
    · rw [h2, hchan, if_pos rfl]
    · rw [h3 h hh, hchan, if_neg hh]
    · rw [h5, State.setChan_slots, (reserve_only _ _ _).slots, ht.slots]
    · rw [h6, State.setChan_committed, (reserve_only _ _ _).committed, ht.committed]
    · rw [h7, State.setChan_links, (reserve_only _ _ _).links, ht.links]
  · intro hadm hl
    rw [← hwait] at hadm hl
    refine State.decides_setup hf hin hk ?_
    rw [hdecide, State.offer_full hadm hl]
    exact State.refuse_enterDeciding s off d .waitFull

end Sys2Proof.Machine
end

section
/-!
SUPPORT. The decisions of a RETARGET and of a RELEASE of a channel at rest (R73, R74): the offers of an ADJUST and of a FALL, and the
return of a DARK channel to FREE.
-/

namespace Sys2Proof.Machine

open Sys2Proof

/-! ### RETARGET (R73) -/

/-- The decision of a RETARGET of an ACTIVE channel at rest, by the answer to its offer (R73, R88). -/
theorem State.decideRetarget_of_ok {s : State} {off : Half} {d : Desc} {c : Channel} {clamped : Bool} {r : State} {e : WaitEntry}
    (hs : (s.chan d.handle).state = .active) (hp : (s.chan d.handle).pending = none) (hpre : d.presetRaw ≤ 200 ∨ d.presetRaw = 255)
    (hcl : (clampTarget (s.params (s.chan d.handle).dstSite) d.target).2 = clamped)
    (hc : { s.chan d.handle with
      target := (clampTarget (s.params (s.chan d.handle).dstSite) d.target).1, clamped, desc := some off } = c)
    (hr : s.setChan d.handle c = r)
    (he : { kind := .adjust, handle := d.handle, desc := some off, dest := (s.chan d.handle).dstSite, preset := d.preset } = e) :
    s.decideRetarget off d = match r.offer e with
      | .admitted s2 => (s2.enterFlight off, s.outcomePosts off .taken clamped 0 d.handle)
      | .complete s2 => (s2, s.doneItems off d c clamped)
      | .appended s2 => (s2.enterFlight off, s.outcomePosts off .waiting clamped 0 d.handle)
      | .full => s.refuse off d .waitFull := by
  have hok : d.presetOk = true := by simpa [Desc.presetOk] using hpre
  subst hr hc he hcl
  unfold State.decideRetarget
  simp only [hs, hp, hok]
  rfl

/-- A channel's range and destination decide its measurements: the target computation reads no more of a record (R31). -/
theorem State.isHeld_setChan_of_ends {s : State} {h : Handle} {c : Channel} (hs : c.src = (s.chan h).src) (hd : c.dst = (s.chan h).dst)
    (g : Handle) : (s.setChan h c).isHeld g = s.isHeld g := by
  have : ((s.setChan h c).chan g).srcSite = (s.chan g).srcSite ∧ ((s.setChan h c).chan g).dstSite = (s.chan g).dstSite := by
    rw [State.chan_setChan]
    split
    · rename_i hg; rw [hg]; exact ⟨congrArg End.site hs, congrArg End.site hd⟩
    · exact ⟨rfl, rfl⟩
  show s.heldBetween _ _ = s.heldBetween _ _
  rw [this.1, this.2]

/-- An ADJUST that completes at once rewrites its record's range flags and references, and nothing else (R92). -/
theorem State.completed_facts (r : State) (e : WaitEntry) :
    let u := { r.completeAdjust e with waitList := r.raiseSkips e.dest r.waitList }
    let g := r.target (r.chan e.handle) e.preset
    u.chan e.handle = { r.chan e.handle with underRange := g.underRange, overRange := g.overRange, pending := none, desc := none } ∧
    (∀ h, h ≠ e.handle → u.chan h = r.chan h) ∧ u.waitList = r.raiseSkips e.dest r.waitList ∧ u.slots = r.slots ∧
    u.committed = r.committed ∧ u.links = r.links ∧ (∀ x, u.entry x = r.entry x) ∧ u.inFlight = r.inFlight :=
  ⟨State.chan_setChan_self _ _ _, fun _ hh => State.chan_setChan_of_ne _ _ _ hh, rfl, rfl, rfl, rfl,
    fun x => by cases x <;> rfl, rfl⟩

theorem State.raiseSkips_congr {s t : State} (h : ∀ g, t.isHeld g = s.isHeld g) (n : SiteId) (l : List WaitEntry) :
    t.raiseSkips n l = s.raiseSkips n l := by
  unfold State.raiseSkips
  simp only [h]

/-- Settles O42: the three answers of the offer of an ADJUST, and its completion at once. -/
theorem retargetOffersAnAdjust : Obligations.RetargetOffersAnAdjust := by
  intro s off d hf hin hk hs hp hpre old n level c preset e r g
  let t := s.enterDeciding
  have ht : SameButPlacing s t := enterDeciding_placing s
  have hold : t.chan d.handle = old := ht.chan _
  have hdecide : t.decideRetarget off d = match r.offer e with
      | .admitted s2 => (s2.enterFlight off, t.outcomePosts off .taken c.clamped 0 d.handle)
      | .complete s2 => (s2, t.doneItems off d c c.clamped)
      | .appended s2 => (s2.enterFlight off, t.outcomePosts off .waiting c.clamped 0 d.handle)
      | .full => t.refuse off d .waitFull := by
    refine State.decideRetarget_of_ok (c := c) (r := r) (e := e) ?_ ?_ hpre ?_ ?_ rfl ?_
    · rw [hold]; exact hs
    · rw [hold]; exact hp
    · rw [hold, ht.params]; rfl
    · rw [hold, ht.params]; rfl
    · rw [hold]; rfl
  have htick : t.tick = s.tick := ht.tick
  have hwait : r.waitList = s.waitList := ht.waitList
  have hchan (h : Handle) : r.chan h = if h = d.handle then c else s.chan h := by
    rw [State.chan_setChan, ht.chan]
  have hself : r.chan e.handle = c := by rw [hchan]; exact if_pos rfl
  have hentry (x : EntryRef) : r.entry x = s.entry x := by rw [State.entry_setChan, ht.entry]
  have htarget : r.target (r.chan e.handle) e.preset = g := by
    rw [hself]
    exact ht.target c preset
  have hmet : r.adjustMet e = decide (c.applied = .att g.att) := by
    unfold State.adjustMet
    dsimp only
    rw [htarget, hself]
    simp [e]
  have hheld (h : Handle) : r.isHeld h = s.isHeld h := by
    rw [← ht.isHeld]
    exact State.isHeld_setChan_of_ends (by rw [hold]) (by rw [hold]) h
  refine ⟨fun hadm happ => ?_, fun hadm happ => ?_, fun hadm hl => ?_, fun hadm hl => ?_⟩
  · obtain ⟨h1, h2, h3, h4, h5, h6, h7, h8⟩ := r.completed_facts e
    rw [← hwait] at hadm
    refine ⟨_, State.decides_retarget hf hin hk (by
      rw [hdecide, State.offer_complete hadm (by rw [hmet]; exact decide_eq_true happ), ← htick]
      rfl), ?_, fun h hh => ?_, ?_, ?_, ?_, ?_, fun x => ?_, ?_⟩
    · rw [h1, htarget, hself]
      show ({ c with underRange := _, overRange := _, pending := none, desc := none } : Channel) = _
      rw [← (show c.pending = none from hp)]
    · rw [h2 h hh, hchan, if_neg hh]
    · rw [h3, State.raiseSkips_congr hheld, hwait]
    · rw [h4, State.setChan_slots, ht.slots]
    · rw [h5, State.setChan_committed, ht.committed]
    · rw [h6, State.setChan_links, ht.links]
    · rw [h7, hentry]
    · rw [h8, State.setChan_inFlight, ht.inFlight]
  · rw [← hwait] at hadm ⊢
    refine State.decides_retarget hf hin hk ?_
    rw [hdecide, State.offer_admitted hadm (by rw [hmet]; exact decide_eq_false happ), ← htick]
    rfl
  · rw [← hwait] at hadm hl
    obtain ⟨h1, h2, h3, h4, h5, h6, h7, h8, h9⟩ := r.appended_facts e off
    refine ⟨_, State.decides_retarget hf hin hk (by
      rw [hdecide, State.offer_appended hadm hl, ← htick]
      rfl), by rw [h1, hwait], ?_, fun h hh => ?_, fun x => ?_, ?_, ?_, ?_, h8, h9⟩
    · rw [h2, hself]
    · rw [h3 h hh, hchan, if_neg hh]
    · rw [h4, hentry]
    · rw [h5, State.setChan_slots, ht.slots]
    · rw [h6, State.setChan_committed, ht.committed]
    · rw [h7, State.setChan_links, ht.links]
  · rw [← hwait] at hadm hl
    refine State.decides_retarget hf hin hk ?_
    rw [hdecide, State.offer_full hadm hl]
    exact State.refuse_enterDeciding s off d .waitFull

/-! ### RELEASE of a channel at rest (R74) -/

theorem finalClamped_eq (k : TransKind) (c : Channel) : finalClamped k c = (decide (k ≠ .fall) && c.clamped) := by
  cases k <;> simp [finalClamped]

/-- The CANCELLED items of a channel's transition, when it has one with a descriptor (R56, R58). -/
theorem State.cancelItems_of_some {s : State} {h : Handle} {k : TransKind} {o : Option Half} (ht : s.transOf h = some (k, o)) :
    s.cancelItems h = cancelled s.tick o (decide (k ≠ .fall) && (s.chan h).clamped) (s.chan h) h := by
  unfold State.cancelItems
  dsimp only
  rw [ht, ← finalClamped_eq]
  cases o <;> rfl

theorem State.cancelItems_of_none {s : State} {h : Handle} (ht : s.transOf h = none) : s.cancelItems h = [] := by
  unfold State.cancelItems
  dsimp only
  rw [ht]

/-- A channel at rest or with a waiting transition: `e` is its entry, if it has one. -/
def State.restsOrWaits (s : State) (h : Handle) (e : Option WaitEntry) : Prop :=
  ((s.chan h).pending = none ∧ e = none) ∨ ((s.chan h).pending = some .waiting ∧ e ≠ none ∧ s.entryOf h = e)

section
variable {s : State} {h : Handle} {e : Option WaitEntry} (hw : s.restsOrWaits h e)
include hw

theorem State.restsOrWaits.unslotted (k : SlotId) : (s.chan h).pending ≠ some (.slot k) := by
  rcases hw with ⟨hp, -⟩ | ⟨hp, -⟩ <;> simp [hp]

theorem State.restsOrWaits.transOf : s.transOf h = e.map fun x => (x.kind, x.desc) := by
  unfold State.transOf
  rcases hw with ⟨hp, rfl⟩ | ⟨hp, -, rfl⟩
  · rw [hp]; rfl
  · rw [hp]

theorem State.restsOrWaits.not_fall (hk : ∀ x, e = some x → x.kind ≠ .fall) : s.waits h .fall = false := by
  unfold State.waits
  rcases hw with ⟨hp, rfl⟩ | ⟨hp, -, rfl⟩
  · simp [hp]
  · cases he : s.entryOf h with
    | none => simp
    | some x => simp [hk x he]

theorem State.restsOrWaits.cancelItems (hk : ∀ x, e = some x → x.kind ≠ .fall) :
    s.cancelItems h = cancelled s.tick (e.bind (·.desc)) (s.chan h).clamped (s.chan h) h := by
  have ht := hw.transOf
  cases e with
  | none => exact State.cancelItems_of_none ht
  | some x =>
    rw [State.cancelItems_of_some ht, decide_eq_true (hk x rfl), Bool.true_and]
    rfl

theorem State.restsOrWaits.waitList :
    (s.dropTransition h).waitList = if e = none then s.waitList else s.waitList.filter fun x => decide (x.handle ≠ h) := by
  rw [State.waitList_dropTransition]
  rcases hw with ⟨hp, rfl⟩ | ⟨hp, he, -⟩
  · simp [hp]
  · rw [if_pos hp, if_neg he]

theorem State.restsOrWaits.dropDue :
    s.dropDue h = true ↔ ∃ x, e = some x ∧ x.barrier = true ∧ s.isHeld h = false := by
  unfold State.dropDue
  rcases hw with ⟨hp, rfl⟩ | ⟨hp, -, rfl⟩
  · simp [hp]
  · rw [hp]
    cases he : s.entryOf h with
    | none => simp
    | some x =>
      have hx : x.handle = h := by
        have := List.find?_some he
        simpa using this
      simp [State.acting, hx]

end

theorem SameButPlacing.restsOrWaits {s t : State} (ht : SameButPlacing s t) {h : Handle} {e : Option WaitEntry}
    (hw : s.restsOrWaits h e) : t.restsOrWaits h e := by
  unfold State.restsOrWaits at *
  rwa [ht.chan, ht.entryOf]

/-- A module's side of the Switch Link after a channel has returned to FREE (R117 to R119). -/
theorem Link.withUnbound_withoutLevel (l : Link) (h : Handle) :
    (l.withoutLevel h).withUnbound h =
      { l with
        queue := l.queue.filter fun q => match q with
          | .level g _ => decide (g ≠ h)
          | .ramp _ => true,
        shutters := l.shutters.map fun f => if f.handle = h then { f with bound := false } else f,
        out := l.out.map fun o =>
          if o.bind = .channel h ∧ (o.msg.cls = .level ∨ o.msg.cls = .shutter) then { o with bind := .detached } else o } := by
  have hq : (fun r : Request => !r.isLevelOf h) = fun q => match q with
      | .level g _ => decide (g ≠ h)
      | .ramp _ => true := by
    funext r
    cases r <;> simp [Request.isLevelOf]
  have ho (o : Outstanding) : (o.detachIf (decide (o.bind = .channel h ∧ o.msg.cls = .level))).detachIf
      (decide ((o.detachIf (decide (o.bind = .channel h ∧ o.msg.cls = .level))).bind = .channel h ∧
        (o.detachIf (decide (o.bind = .channel h ∧ o.msg.cls = .level))).msg.cls = .shutter)) =
      if o.bind = .channel h ∧ (o.msg.cls = .level ∨ o.msg.cls = .shutter) then { o with bind := .detached } else o := by
    unfold Outstanding.detachIf
    by_cases hb : o.bind = .channel h
    · cases hc : o.msg.cls <;> simp [hb, hc]
    · simp [hb]
  unfold Link.withUnbound Link.withoutLevel
  dsimp only
  rw [hq, Option.map_map]
  congr 1
  exact congrArg (fun f => l.out.map f) (funext ho)

/-- An entry passes to a claimant when its owner is freed alone (R22). -/
theorem Entry.passes_nil (h : Handle) (e : Entry) : e.passes h [] = true ↔ e.owner = some h ∧ e.claimant ≠ none := by
  cases hc : e.claimant <;> simp [Entry.passes, hc]

/-- A DARK channel's RELEASE: what it leaves of every table (R17, R22, R23, R74, R117, R118). -/
theorem State.freed_facts {t : State} {h : Handle} {e : Option WaitEntry} (hw : t.restsOrWaits h e) :
    let c := t.chan h
    let u := t.toFree h []
    u.chan h = {} ∧ (∀ g, g ≠ h → u.chan g = t.chan g) ∧
    u.waitList = (if e = none then t.waitList else t.waitList.filter fun x => decide (x.handle ≠ h)) ∧
    u.slots = t.slots ∧ u.committed = t.committed ∧ u.inFlight = t.inFlight ∧
    (u.passDue = true ↔ t.passDue = true ∨ (∃ x, e = some x ∧ x.barrier = true ∧ t.isHeld h = false) ∨
      ∃ y ∈ c.footprint, (t.entry y).owner = some h ∧ (t.entry y).claimant ≠ none) ∧
    (∀ n, u.link n = if n ≠ c.dstSite then t.link n else ((t.link n).withoutLevel h).withUnbound h) ∧
    ∀ x, u.entry x = if x ∈ c.footprint then ((t.entry x).passOn h).unclaim h else t.entry x := by
  obtain ⟨hslots, hlinks, hcommitted⟩ := State.dropTransition_of_unslotted hw.unslotted
  refine ⟨by rw [chan_toFree, if_pos rfl], fun g hg => by rw [chan_toFree, if_neg hg], ?_, ?_, ?_,
    (toFree_channels _ _ _).inFlight, ?_, fun n => ?_, State.entry_toFree t h []⟩
  · rw [State.waitList_toFree, hw.waitList]
  · rw [State.slots_toFree, hslots]
  · rw [State.committed_toFree, hcommitted]
  · rw [State.passDue_toFree, Bool.or_eq_true, Bool.or_eq_true, hw.dropDue, List.any_eq_true, or_assoc]
    simp only [Entry.passes_nil]
  · have hl : (t.dropTransition h).link n = t.link n := congrArg (fun v : Vector Link 10 => v.get n) hlinks
    rw [State.link_toFree, hl, ite_not]

/-- The decision of a RELEASE of a DARK channel (R15, R74). -/
theorem State.decideRelease_of_dark {s : State} {off : Half} {d : Desc} (hs : (s.chan d.handle).state = .dark) :
    s.decideRelease off d = (s.toFree d.handle [],
      s.cancelItems d.handle ++ s.doneItems off d (s.chan d.handle) false) := by
  simp [State.decideRelease, hs]

/-- The decision of a RELEASE of an ACTIVE channel without a waiting FALL (R74, R88). -/
theorem State.decideRelease_of_active {s : State} {off : Half} {d : Desc} {r : State} {f : WaitEntry}
    (hs : (s.chan d.handle).state = .active) (hw : s.waits d.handle .fall = false)
    (hr : (s.dropTransition d.handle).setChan d.handle
      { s.chan d.handle with pending := none, motion := none, desc := some off } = r)
    (hf : { kind := .fall, handle := d.handle, desc := some off, dest := (s.chan d.handle).dstSite } = f) :
    s.decideRelease off d = match r.offer f with
      | .admitted s2 | .complete s2 =>
        (s2.enterFlight off, s.cancelItems d.handle ++ s.outcomePosts off .taken false 0 d.handle)
      | .appended s2 => (s2.enterFlight off, s.cancelItems d.handle ++ s.outcomePosts off .waiting false 0 d.handle)
      | .full => s.refuse off d .waitFull := by
  have hc : (s.dropTransition d.handle).chan d.handle =
      { s.chan d.handle with pending := none, motion := none, desc := none } := by
    rw [chan_dropTransition, if_pos rfl]
  have hrelease : s.decideRelease off d = s.offerFall (s.dropTransition d.handle) off d (s.cancelItems d.handle) := by
    simp [State.decideRelease, hs, hw]
  rw [hrelease]
  unfold State.offerFall
  rw [hc]
  subst hr hf
  rfl

/-- Settles O43: the return of a DARK channel to FREE table by table, and the three answers of the offer of a FALL. -/
theorem releaseFreesOrOffersAFall : Obligations.ReleaseFreesOrOffersAFall := by
  intro s off d hf hin hk h c waiting list acting before
  let t := s.enterDeciding
  have ht : SameButPlacing s t := enterDeciding_placing s
  have hchan (g : Handle) : t.chan g = s.chan g := ht.chan g
  have htick : t.tick = s.tick := ht.tick
  have hbefore {e : Option WaitEntry} (hw : waiting e) (hx : ∀ x, e = some x → x.kind ≠ .fall) :
      t.cancelItems h = before e := by
    have := (ht.restsOrWaits hw).cancelItems hx
    rwa [hchan, htick] at this
  refine ⟨fun e hs hw hx => ?_, fun e hs hw hx => ?_⟩
  · obtain ⟨h1, h2, h3, h4, h5, h6, h7, h8, h9⟩ := State.freed_facts (ht.restsOrWaits hw)
    have hdecide := State.decideRelease_of_dark (s := t) (off := off) (d := d) (by rw [hchan]; exact hs)
    refine ⟨t.toFree h [], State.decides_release hf hin hk ?_, h1, fun g hg => ?_, ?_, ?_, ?_, ?_, ?_, fun n => ?_, fun x => ?_⟩
    · rw [hdecide, ← hbefore hw hx, ← htick, hchan, List.append_assoc]
      rfl
    · rw [h2 g hg, hchan]
    · rw [h3, ht.waitList]
    · rw [h4, ht.slots]
    · rw [h5, ht.committed]
    · rw [h6, ht.inFlight]
    · rw [h7, ht.passDue, ht.isHeld, hchan]
      simp only [ht.entry]
      exact Iff.rfl
    · rw [h8, ht.link, hchan]
      exact if_congr Iff.rfl rfl (Link.withUnbound_withoutLevel _ _)
    · rw [h9, ht.entry, hchan, Entry.unclaim_passOn, ite_not]
  · intro r f
    have hw' := ht.restsOrWaits hw
    obtain ⟨hslots, hlinks, hcommitted⟩ := State.dropTransition_of_unslotted hw'.unslotted
    have hdecide := State.decideRelease_of_active (r := r) (f := f) (off := off) (by rw [hchan]; exact hs) (hw'.not_fall hx)
      (by rw [hchan]) (by rw [hchan])
    have hwait : r.waitList = list e := by
      show (t.dropTransition h).waitList = _
      rw [hw'.waitList, ht.waitList]
    have hrchan (g : Handle) : r.chan g =
        if g = h then { c with pending := none, motion := none, desc := some off } else s.chan g := by
      rw [State.chan_setChan, chan_dropTransition]
      split
      · rfl
      · exact hchan g
    have hrentry (x : EntryRef) : r.entry x = s.entry x := by
      rw [State.entry_setChan, State.entry_dropTransition, ht.entry]
    have hrslots : r.slots = s.slots := hslots.trans ht.slots
    have hrlinks : r.links = s.links := hlinks.trans ht.links
    refine ⟨hwait, hrslots, hrlinks, ?_, fun g hg => by rw [hrchan, if_neg hg], hrentry, fun hadm => ?_, fun hadm hl => ?_,
      fun hadm hl => ?_⟩
    · show (t.dropTransition h).passDue = true ↔ _
      rw [State.passDue_dropTransition, Bool.or_eq_true, hw'.dropDue, ht.passDue, ht.isHeld]
    · rw [← hwait] at hadm ⊢
      refine State.decides_release hf hin hk ?_
      rw [hdecide, State.offer_admitted hadm (State.adjustMet_of_ne (by simp [f]) r), ← hbefore hw hx, ← htick]
      rfl
    · rw [← hwait] at hadm hl
      obtain ⟨h1, h2, h3, h4, h5, h6, h7, h8, h9⟩ := r.appended_facts f off
      refine ⟨_, State.decides_release hf hin hk (by
        rw [hdecide, State.offer_appended hadm hl, ← hbefore hw hx, ← htick]
        rfl), by rw [h1, hwait], ?_, fun g hg => ?_, fun x => ?_, ?_, ?_, ?_, h8, h9⟩
      · rw [h2, hrchan, if_pos rfl]
      · rw [h3 g hg, hrchan, if_neg hg]
      · rw [h4, hrentry]
      · rw [h5, hrslots]
      · rw [h7, hrlinks]
      · rw [h6]; exact hcommitted.trans ht.committed
    · rw [← hwait] at hadm hl
      refine State.decides_release hf hin hk ?_
      rw [hdecide, State.offer_full hadm hl]
      exact State.refuse_enterDeciding s off d .waitFull

end Sys2Proof.Machine
end

section
/-!
SUPPORT. The answer to a RAMP message (R105 to R107, R110, R115): a slot that leaves SENT, a transition that completes, and what is handed
over where there is room.
-/

namespace Sys2Proof.Machine

open Sys2Proof

/-! ### Tables agree when they read alike -/

theorem State.links_ext {s t : State} (h : ∀ m, t.link m = s.link m) : t.links = s.links := by
  ext i hi
  exact h ⟨i, hi⟩

theorem State.slots_ext {s t : State} (h : ∀ k, t.slot k = s.slot k) : t.slots = s.slots := by
  ext i hi : 1
  exact h ⟨i, hi⟩

theorem State.chans_ext {s t : State} (h : ∀ g, t.chan g = s.chan g) : t.chans = s.chans := by
  ext i hi : 1
  exact h ⟨i, hi⟩

theorem State.conds_ext {s t : State} (h : ∀ n, t.cond n = s.cond n) : t.conds = s.conds := by
  ext i hi : 1
  exact h ⟨i, hi⟩

/-! ### Handing over where there is room (R184) -/

theorem recordCount_append (a b : List Item) : recordCount (a ++ b) = recordCount a + recordCount b := by
  simp [recordCount]

theorem recordCount_cons (i : Item) (l : List Item) : recordCount (i :: l) = recordCount [i] + recordCount l :=
  recordCount_append [i] l

/-- Items whose records all find room join the list as they are. -/
theorem State.handOver_of_room {s : State} {items : List Item}
    (h : recordCount s.journal.handOver + recordCount items ≤ 256) :
    s.handOver items = { s with journal := { s.journal with handOver := s.journal.handOver ++ items } } := by
  unfold State.handOver
  induction items generalizing s with
  | nil => simp
  | cons i items ih =>
    rw [recordCount_cons] at h
    have hone : s.handOne i = { s with journal := { s.journal with handOver := s.journal.handOver ++ [i] } } := by
      cases i with
      | word a w f => rfl
      | record r =>
        have : recordCount s.journal.handOver < 256 := by
          have : recordCount [Item.record r] = 1 := rfl
          omega
        simp [State.handOne, this]
    rw [List.foldl_cons, hone, ih (by dsimp only; rw [recordCount_append]; omega)]
    simp

/-- The postings of an outcome are no records. -/
theorem recordCount_postings (tick : Word) (desc : Half) (o : Outc) (b : Bool) (r : Byte) (h : Handle) (f : Bool) :
    recordCount (postings tick desc o b r h f) = 0 := rfl

/-- Handing over touches the journal alone. -/
theorem handOver_journal (s : State) (items : List Item) : s.handOver items = { s with journal := (s.handOver items).journal } := by
  rw [handOver_only]

@[simp] theorem State.slot_handOver (s : State) (l : List Item) (k : SlotId) : (s.handOver l).slot k = s.slot k := by
  rw [handOver_journal]; rfl
@[simp] theorem State.link_handOver (s : State) (l : List Item) (m : SiteId) : (s.handOver l).link m = s.link m := by
  rw [handOver_journal]; rfl
@[simp] theorem State.entry_handOver (s : State) (l : List Item) (x : EntryRef) : (s.handOver l).entry x = s.entry x := by
  rw [handOver_journal]; cases x <;> rfl
@[simp] theorem State.cond_handOver (s : State) (l : List Item) (n : SiteId) : (s.handOver l).cond n = s.cond n := by
  rw [handOver_journal]; rfl
@[simp] theorem State.site_handOver (s : State) (l : List Item) (n : SiteId) : (s.handOver l).site n = s.site n := by
  rw [handOver_journal]; rfl
@[simp] theorem State.swingOf_handOver (s : State) (l : List Item) (d : Fin 8) : (s.handOver l).swingOf d = s.swingOf d := by
  rw [handOver_journal]; rfl
@[simp] theorem State.handOver_links (s : State) (l : List Item) : (s.handOver l).links = s.links := by
  rw [handOver_journal]
@[simp] theorem State.handOver_slots (s : State) (l : List Item) : (s.handOver l).slots = s.slots := by
  rw [handOver_journal]
@[simp] theorem State.handOver_chans (s : State) (l : List Item) : (s.handOver l).chans = s.chans := by
  rw [handOver_journal]
@[simp] theorem State.handOver_waitList (s : State) (l : List Item) : (s.handOver l).waitList = s.waitList := by
  rw [handOver_journal]
@[simp] theorem State.handOver_conds (s : State) (l : List Item) : (s.handOver l).conds = s.conds := by
  rw [handOver_journal]
@[simp] theorem State.handOver_sites (s : State) (l : List Item) : (s.handOver l).sites = s.sites := by
  rw [handOver_journal]
@[simp] theorem State.handOver_taps (s : State) (l : List Item) : (s.handOver l).taps = s.taps := by
  rw [handOver_journal]
@[simp] theorem State.handOver_committed (s : State) (l : List Item) : (s.handOver l).committed = s.committed := by
  rw [handOver_journal]
@[simp] theorem State.handOver_passDue (s : State) (l : List Item) : (s.handOver l).passDue = s.passDue := by
  rw [handOver_journal]

/-! ### A slot that leaves SENT (R105, R110) -/

section
variable {s : State} {k : SlotId} {x : Slot} (hx : s.slot k = some x)
include hx

theorem State.leaveSent_held (hh : x.held = true) :
    s.leaveSent k = s.setSlot k (some { x with drive := .stopped, takeover := false }) := by
  simp [State.leaveSent, hx, hh]

theorem State.leaveSent_takeover (hh : x.held = false) (ht : x.takeover = true) : s.leaveSent k = s.placeRamp k := by
  simp [State.leaveSent, hx, hh, ht]

theorem State.leaveSent_pacing (hh : x.held = false) (ht : x.takeover = false) :
    s.leaveSent k = s.setSlot k (some { x with drive := .pacing (s.params x.dest).pacing }) := by
  simp [State.leaveSent, hx, hh, ht]

/-- No other slot changes when one leaves SENT toward a busy module. -/
theorem State.slot_leaveSent_of_ne (hb : (s.link x.dest).out ≠ none) {j : SlotId} (hj : j ≠ k) :
    (s.leaveSent k).slot j = s.slot j := by
  cases hh : x.held with
  | true => rw [State.leaveSent_held hx hh, State.slot_setSlot_of_ne _ _ _ hj]
  | false =>
    cases ht : x.takeover with
    | true =>
      rw [State.leaveSent_takeover hx hh ht, State.placeRamp_of_busy hx hb, State.slot_setSlot_of_ne _ _ _ hj, State.slot_setLink]
    | false => rw [State.leaveSent_pacing hx hh ht, State.slot_setSlot_of_ne _ _ _ hj]

end

/-! ### Completion (R107) -/

/-- A completed transition's channel, before anything is handed over: FREE after a FALL, else ACTIVE at rest (R107, step 1). -/
def State.completed (s : State) (x : Slot) : State :=
  if x.kind = .fall then s.toFree x.handle []
  else (s.dropTransition x.handle).setChan x.handle { (s.dropTransition x.handle).chan x.handle with state := .active }

theorem State.complete_eq (s : State) (x : Slot) :
    s.complete x = ((s.completed x).handOver (s.doneLater x)).rerunDeferred := rfl

theorem completed_channels (s : State) (x : Slot) : SameButChannels s (s.completed x) := by
  unfold State.completed
  split
  · exact toFree_channels _ _ _
  · exact (dropTransition_channels _ _).trans (setChan_channels _ _ _)

theorem State.slot_completed (s : State) (x : Slot) (j : SlotId) :
    (s.completed x).slot j = (s.dropTransition x.handle).slot j := by
  unfold State.completed
  split
  · exact State.slot_toFree _ _ _ _
  · rfl

theorem State.swingOf_completed (s : State) (x : Slot) (d : Fin 8) :
    (s.completed x).swingOf d = (s.dropTransition x.handle).swingOf d := by
  unfold State.completed
  split
  · exact State.swingOf_toFree _ _ _ _
  · rfl

theorem State.waitList_completed (s : State) (x : Slot) : (s.completed x).waitList = (s.dropTransition x.handle).waitList := by
  unfold State.completed
  split
  · exact State.waitList_toFree _ _ _
  · rfl

theorem State.chan_completed (s : State) (x : Slot) (g : Handle) :
    (s.completed x).chan g =
      if g = x.handle then
        if x.kind = .fall then {}
        else { s.chan x.handle with state := .active, pending := none, motion := none, desc := none }
      else s.chan g := by
  unfold State.completed
  split
  · rw [chan_toFree]
  · rw [State.chan_setChan, chan_dropTransition, if_pos rfl, chan_dropTransition]
    split
    · rfl
    · rfl

/-- What a completed transition hands over: DONE with its postings, or RESTORED (R107, step 3). -/
theorem State.doneLater_of_desc {s : State} {x : Slot} {d : Half} (hd : x.desc = some d) :
    s.doneLater x = postings s.tick d .done (decide (x.kind ≠ .fall) && (s.chan x.handle).clamped) 0 x.handle true ++
      [.record { kind := .done, site := some (s.chan x.handle).dstSite, handle := some (BitVec.ofNat 8 x.handle.val), code := 3,
                 tick := s.tick, desc := some d }] := by
  unfold State.doneLater
  dsimp only
  rw [hd, ← finalClamped_eq]
  rfl

theorem State.doneLater_of_restore {s : State} {x : Slot} (hd : x.desc = none) (hk : x.kind = .restore) :
    s.doneLater x = [.record { kind := .restored, site := x.restoreSite, handle := some (BitVec.ofNat 8 x.handle.val), code := 3,
                               tick := s.tick }] := by
  unfold State.doneLater
  simp only [hd, hk, ↓reduceIte]
  rfl

theorem recordCount_doneLater (s : State) (x : Slot) : recordCount (s.doneLater x) ≤ 1 := by
  cases hd : x.desc with
  | some d =>
    rw [State.doneLater_of_desc hd, recordCount_append, recordCount_postings]
    exact le_refl 1
  | none =>
    unfold State.doneLater
    simp only [hd]
    split
    · exact le_refl 1
    · exact Nat.zero_le 1

/-! ### A matched OK (R115) -/

theorem State.exec_ackReceived_ok {s : State} {m : SiteId} {o : Outstanding} (hr : s.inReset = false) (ho : (s.link m).out = some o) :
    exec (.ackReceived m (BitVec.ofNat 8 m.val) o.msg.seq 1) s =
      .next (s.closeAnswer (((s.busy m).classAnswer o true).faultAnswer m true) m) := by
  have hm : (BitVec.ofNat 8 m.val).toNat = m.val := by
    rw [BitVec.toNat_ofNat, Nat.mod_eq_of_lt (by omega)]
  have hmatch : s.ackMatches m (BitVec.ofNat 8 m.val) o.msg.seq = true := by
    simp only [State.ackMatches, hm, ho, decide_true, Bool.true_and, Option.any_some]
  have hack : s.takeAck m (BitVec.ofNat 8 m.val) o.msg.seq 1 = s.messageEnds m true := by
    simp [State.takeAck, hr, ackOutcome, hmatch]
  show Host.Outcome.next _ = _
  rw [hack, State.messageEnds, ho]

/-- The state of a matched RAMP OK after the setting is applied: the message bound to nothing, the record moved (R106). -/
def State.confirmed (s : State) (m : SiteId) (o : Outstanding) (h : Handle) : State :=
  (s.busy m).setChan h { s.chan h with applied := o.msg.setting, unconfirmed := false }

theorem State.classAnswer_ramp_ok {s : State} {m : SiteId} {o : Outstanding} {k : SlotId} {x : Slot} (hb : o.bind = .slot k)
    (hx : s.slot k = some x) :
    (s.busy m).classAnswer o true =
      if (s.chan x.handle).motion = some o.msg.setting then (s.confirmed m o x.handle).complete x
      else (s.confirmed m o x.handle).leaveSent k := by
  unfold State.classAnswer
  rw [hb]
  dsimp only
  unfold State.rampAnswer
  rw [show (s.busy m).slot k = some x from hx]
  rfl

section
variable {s : State} {m : SiteId} {o : Outstanding} (ho : (s.link m).out = some o)
include ho

theorem State.link_confirmed (h : Handle) (n : SiteId) :
    (s.confirmed m o h).link n =
      if n = m then { s.link m with out := some { o with bind := .detached } } else s.link n := by
  show (s.busy m).link n = _
  unfold State.busy
  rw [State.link_setLink, ho]
  rfl

/-- The end of a SENT slot detaches nothing more: the message that was its own is bound to nothing already (R111). -/
theorem State.link_dropTransition_confirmed {k : SlotId} {x : Slot} (hx : s.slot k = some x)
    (hm : x.dest = m) (hp : (s.chan x.handle).pending = some (.slot k)) (hd : x.drive = .sent) (n : SiteId) :
    ((s.confirmed m o x.handle).dropTransition x.handle).link n = (s.confirmed m o x.handle).link n := by
  have hp' : ((s.confirmed m o x.handle).chan x.handle).pending = some (.slot k) := by
    rw [State.confirmed, State.chan_setChan_self]
    exact hp
  rw [State.link_dropTransition, hp']
  dsimp only
  rw [State.link_endSlot (show (s.confirmed m o x.handle).slot k = some x from hx), hd, hm]
  split
  · rename_i hn
    rw [hn, State.link_confirmed ho, if_pos rfl]
    simp [Link.withoutSlot, Outstanding.detachIf]
  · rfl

end

/-- Settles O52: short of the motion target by how the slot leaves SENT, at it by the completion of the transition. -/
theorem rampOkStepsOrCompletes : Obligations.RampOkStepsOrCompletes := by
  intro s m o k x hr ho hb hx hm c moved ack ended
  let b := s.confirmed m o x.handle
  have hexec := State.exec_ackReceived_ok hr ho
  rw [State.classAnswer_ramp_ok hb hx] at hexec
  have hbx : b.slot k = some x := hx
  have hblink (n : SiteId) : b.link n = if n = m then { s.link m with out := some { o with bind := .detached } } else s.link n :=
    State.link_confirmed ho x.handle n
  have hblinks : b.links = (ended (s.link m).queue).links := State.links_ext fun n => by
    rw [hblink, State.link_setLink]
  have hbchan (g : Handle) : b.chan g = if g = x.handle then moved else s.chan g := State.chan_setChan _ _ _ _
  refine ⟨fun hmo => ?_, fun hmo hp hd => ?_⟩
  · rw [if_neg hmo] at hexec
    have honly : SameButLinks b (b.leaveSent k) := leaveSent_only b k
    have hbusy : (b.link x.dest).out ≠ none := by rw [hblink, if_pos hm]; simp
    refine ⟨b.leaveSent k, hexec, State.outer_leaveSent _ _, by rw [honly]; rfl, by rw [honly]; rfl, ?_, fun h hh => ?_,
      fun j hj => ?_, fun hh => ?_, fun hh ht => ?_, fun hh ht => ?_⟩
    · rw [honly.chan, hbchan, if_pos rfl]
    · rw [honly.chan, hbchan, if_neg hh]
    · rw [State.slot_leaveSent_of_ne hbx hbusy hj]; rfl
    · rw [State.leaveSent_held hbx hh]
      exact ⟨State.slot_setSlot_self _ _ _, hblinks⟩
    · rw [State.leaveSent_takeover hbx hh ht, State.placeRamp_of_busy hbx hbusy]
      refine ⟨State.slot_setSlot_self _ _ _, State.links_ext fun n => ?_⟩
      rw [State.link_setSlot, State.link_setLink, State.link_setLink, hm, hblink, hblink, if_pos rfl]
      split
      · rfl
      · rfl
    · rw [State.leaveSent_pacing hbx hh ht, hm]
      exact ⟨State.slot_setSlot_self _ _ _, hblinks⟩
  · rw [if_pos hmo, State.complete_eq] at hexec
    let w := b.completed x
    let v := w.handOver (b.doneLater x)
    have hw : SameButChannels b w := completed_channels b x
    have hbp : (b.chan x.handle).pending = some (.slot k) := by rw [hbchan, if_pos rfl]; exact hp
    have hdrop (n : SiteId) : (b.dropTransition x.handle).link n = b.link n :=
      State.link_dropTransition_confirmed ho hx hm hp hd n
    have hslot (j : SlotId) : v.slot j = if k = j then none else s.slot j := by
      rw [State.slot_handOver, State.slot_completed, State.slot_dropTransition, hbp]
      simp only [Option.some.injEq, TransRef.slot.injEq]
      rfl
    have hchan (g : Handle) : v.chan g = if g = x.handle then
          if x.kind = .fall then {} else { moved with state := .active, motion := none, pending := none, desc := none }
        else s.chan g := by
      rw [chan_handOver, State.chan_completed, hbchan, if_pos rfl, hbchan]
      split
      · rfl
      · rfl
    have hdue : v.passDue = true := by
      rw [State.handOver_passDue]
      have : b.dropDue x.handle = true := by
        unfold State.dropDue
        rw [hbp]
        dsimp only
        rw [hbx]; rfl
      show (b.completed x).passDue = true
      unfold State.completed
      split
      · rw [State.passDue_toFree, this]; simp
      · rw [State.setChan_passDue, State.passDue_dropTransition, this]; simp
    refine ⟨v, hexec, ?_, ?_, fun j hj => ?_, fun h hh => ?_, fun q => ?_, ?_, ?_, ?_, ?_, hdue, fun hk hdst n => ?_, fun hk => ?_,
      fun hk => ?_, fun hroom => ?_⟩
    · rw [State.outer_handOver]
      have : w.outer = b.outer := by rw [hw]; rfl
      rw [this]; rfl
    · rw [hslot, if_pos rfl]
    · rw [hslot, if_neg (Ne.symm hj)]
    · rw [hchan, if_neg hh]
    · rw [State.swingOf_handOver, State.swingOf_completed, State.swingOf_dropTransition, hbp]
      dsimp only
      rw [State.swingOf_endSlot hbx, hm]
      rfl
    · rw [State.handOver_waitList, State.waitList_completed, State.waitList_dropTransition, hbp]
      rfl
    · rw [State.handOver_conds, hw.conds]; rfl
    · rw [State.handOver_sites, hw.sites]; rfl
    · rw [State.handOver_taps, hw.taps]; rfl
    · have hdst' : (b.chan x.handle).dstSite = m := by rw [hbchan, if_pos rfl]; exact hdst
      rw [State.link_handOver]
      show (b.completed x).link n = _
      rw [State.completed, if_pos hk, State.link_toFree, hdst', hdrop, hblink]
      by_cases hn : n = m
      · rw [if_pos hn, if_neg (not_not.mpr hn), if_pos hn, Link.withUnbound_withoutLevel]
        simp <;> rfl
      · rw [if_neg hn, if_pos hn, if_neg hn]
    · refine ⟨?_, fun y => ?_, by rw [hchan, if_pos rfl, if_neg hk]⟩
      · rw [State.handOver_links, ← hblinks]
        refine State.links_ext fun n => ?_
        show (b.completed x).link n = _
        rw [State.completed, if_neg hk, State.link_setChan, hdrop]
      · rw [State.entry_handOver]
        show (b.completed x).entry y = _
        rw [State.completed, if_neg hk, State.entry_setChan, State.entry_dropTransition]
        exact State.entry_setChan _ _ _ _
    · refine ⟨by rw [hchan, if_pos rfl, if_pos hk], fun y => ?_⟩
      have hbentry : b.entry y = s.entry y := (State.entry_setChan _ _ _ _).trans (State.entry_setLink _ _ _ _)
      have hfp : (b.chan x.handle).footprint = c.footprint := by rw [hbchan, if_pos rfl]; rfl
      rw [State.entry_handOver]
      show (b.completed x).entry y = _
      rw [State.completed, if_pos hk, State.entry_toFree, hfp, hbentry, Entry.unclaim_passOn, ite_not]
    · have hjournal : w.journal = s.journal := hw.journal
      have hitems : v.journal.handOver = s.journal.handOver ++ b.doneLater x := by
        have := recordCount_doneLater b x
        show (w.handOver (b.doneLater x)).journal.handOver = _
        rw [State.handOver_of_room (by rw [hjournal]; omega), hjournal]
      have hself : b.chan x.handle = moved := by rw [hbchan, if_pos rfl]
      refine ⟨fun d hdesc => ?_, fun hdesc hk => ?_⟩
      · rw [hitems, State.doneLater_of_desc hdesc, hself, Bool.decide_and, Bool.decide_eq_true]
        rfl
      · rw [hitems, State.doneLater_of_restore hdesc hk]
        rfl

end Sys2Proof.Machine
end

section
/-!
SUPPORT. Coherence taken apart (R10, R12, R18, R19, R81, R142, R143): what a record must be among the maps, and the whole but for some
channels that no slot and no entry refers to. A transition is taken from a channel, its record rewritten, and the channel joined again;
each of these is one lemma.
-/

namespace Sys2Proof.Machine

open Sys2Proof

/-! ### One record -/

/-- A record's own fields agree: no transition in FREE, shuttered-by in DARK alone, a motion target exactly in a slot (R10, R12). -/
structure Channel.fits (c : Channel) : Prop where
  free : c.state = .free → c.pending = none
  dark : c.state = .dark → c.pending = none → c.shutteredBy ≠ none
  lit : c.state ≠ .dark → c.shutteredBy = none
  resting : c.pending = none → c.desc = none
  slot : (∃ k, c.pending = some (.slot k)) ↔ (c.state = .rising ∨ c.state = .adjusting ∨ c.state = .falling)
  motion : (∃ k, c.pending = some (.slot k)) ↔ c.motion ≠ none

/-- A record `c` of channel `h` agrees with the maps and the sites (R12, R18, R19, R164). -/
structure State.mapped (s : State) (h : Handle) (c : Channel) : Prop where
  filled : c.state ≠ .free → kindOf c.src c.dst = some c.kind ∧ 1 ≤ c.count ∧ c.count ≤ 16 ∧ c.first + c.count ≤ 320 ∧
    (s.site c.srcSite).state = .enabled ∧ (s.site c.dstSite).state = .enabled
  owns : c.state ≠ .free → ∀ r ∈ c.footprint, (s.entry r).owner = some h ∨ (c.state = .dark ∧ (s.entry r).claimant = some h)
  reserved : ∀ r, (s.entry r).owner = some h ∨ (s.entry r).claimant = some h → c.state ≠ .free ∧ r ∈ c.footprint
  claims : ∀ r, (s.entry r).claimant = some h → c.state = .dark
  claimed : ∀ r, (s.entry r).owner = some h → (s.entry r).claimant ≠ none → c.state = .falling

/-- Coherence but for the channels of `D`, which no slot and no entry refers to; and the held flags when `p` asks for them. -/
structure State.wellBut (p : Prop) (s : State) (D : Handle → Prop) : Prop where
  mapped : ∀ h, ¬D h → s.mapped h (s.chan h)
  fits : ∀ h, ¬D h → (s.chan h).fits
  apart : ∀ r g, (s.entry r).claimant = some g → (s.entry r).owner ≠ none ∧ (s.entry r).owner ≠ some g
  slots : ∀ k x, s.slot k = some x → ¬D x.handle ∧ (s.chan x.handle).pending = some (.slot k) ∧
    (s.chan x.handle).state = x.kind.slotState ∧ x.dest = (s.chan x.handle).dstSite ∧
    x.desc = (s.chan x.handle).desc ∧ (x.desc = none ↔ x.kind = .restore)
  slotOf : ∀ h, ¬D h → ∀ k, (s.chan h).pending = some (.slot k) → ∃ x, s.slot k = some x ∧ x.handle = h
  waits : ∀ e ∈ s.waitList, ¬D e.handle ∧ (s.chan e.handle).pending = some .waiting ∧ (s.chan e.handle).waitsAs e ∧
    e.dest = (s.chan e.handle).dstSite ∧ e.desc = (s.chan e.handle).desc ∧ (e.desc = none ↔ e.kind = .restore)
  once : (s.waitList.map (·.handle)).Nodup
  waitOf : ∀ h, ¬D h → (s.chan h).pending = some .waiting → ∃ e ∈ s.waitList, e.handle = h
  held : p → s.heldOk

/-- Coherence, and the held flags when `p` asks for them. -/
def State.well (p : Prop) (s : State) : Prop := s.wellBut p fun _ => False

theorem State.well_iff (p : Prop) (s : State) : s.well p ↔ s.coherent ∧ (p → s.heldOk) := by
  constructor
  · intro w
    refine ⟨?_, w.held⟩
    have mapped (h : Handle) := w.mapped h not_false
    have fits (h : Handle) := w.fits h not_false
    exact {
      filled := fun h => (mapped h).filled
      footprint := fun h => (mapped h).owns
      reserved := fun r h => (mapped h).reserved r
      claimed := fun r g hg => by
        refine ⟨(mapped g).claims r hg, ?_⟩
        obtain ⟨h, hh⟩ := Option.ne_none_iff_exists'.mp (w.apart r g hg).1
        exact ⟨h, hh, (mapped h).claimed r hh (by rw [hg]; exact Option.some_ne_none g)⟩
      resting := fun h => ⟨(fits h).free, (fits h).dark, (fits h).lit, (fits h).resting⟩
      moving := fun h => ⟨(fits h).slot, (fits h).motion⟩
      slots := fun k x hx => (w.slots k x hx).2
      slotOf := fun h k => w.slotOf h not_false k
      waits := fun e he => (w.waits e he).2
      waitOf := ⟨w.once, fun h => w.waitOf h not_false⟩ }
  · rintro ⟨co, hh⟩
    exact {
      mapped := fun h _ => {
        filled := co.filled h
        owns := co.footprint h
        reserved := fun r => co.reserved r h
        claims := fun r hr => (co.claimed r h hr).1
        claimed := fun r ho hc => by
          obtain ⟨g, hg⟩ := Option.ne_none_iff_exists'.mp hc
          obtain ⟨-, h', ho', hs⟩ := co.claimed r g hg
          rw [ho] at ho'
          cases ho'
          exact hs }
      fits := fun h _ => ⟨(co.resting h).1, (co.resting h).2.1, (co.resting h).2.2.1, (co.resting h).2.2.2, (co.moving h).1, (co.moving h).2⟩
      apart := fun r g hg => by
        obtain ⟨hdark, h, ho, hs⟩ := co.claimed r g hg
        rw [ho]
        refine ⟨Option.some_ne_none h, fun he => ?_⟩
        cases he
        rw [hdark] at hs
        cases hs
      slots := fun k x hx => ⟨not_false, co.slots k x hx⟩
      slotOf := fun h _ => co.slotOf h
      waits := fun e he => ⟨not_false, co.waits e he⟩
      once := co.waitOf.1
      waitOf := fun h _ => co.waitOf.2 h
      held := hh }

/-- The claims of R18 hold of every coherent state. -/
theorem State.wellBut.claimsOk {p : Prop} {s : State} {D : Handle → Prop} (w : s.wellBut p D) : s.claimsOk := by
  intro r hr
  obtain ⟨g, hg⟩ := Option.ne_none_iff_exists'.mp hr
  exact (w.apart r g hg).1

/-- With the same set named otherwise. -/
theorem State.wellBut.congr {p : Prop} {s : State} {D E : Handle → Prop} (w : s.wellBut p D) (h : ∀ g, D g ↔ E g) : s.wellBut p E := by
  have : D = E := funext fun g => propext (h g)
  rwa [← this]

/-! ### What a record says of the maps -/

section
variable {s : State} {h : Handle} {c : Channel} (m : s.mapped h c)
include m

/-- A channel beyond DARK owns its footprint and claims nothing. -/
theorem State.mapped.owner (hf : c.state ≠ .free) (hd : c.state ≠ .dark) (r : EntryRef) (hr : r ∈ c.footprint) :
    (s.entry r).owner = some h :=
  (m.owns hf r hr).resolve_right fun hc => hd hc.1

theorem State.mapped.not_claimant (hd : c.state ≠ .dark) (r : EntryRef) : (s.entry r).claimant ≠ some h :=
  fun hc => hd (m.claims r hc)

/-- No entry of a channel that is not FALLING is claimed. -/
theorem State.mapped.unclaimed (hf : c.state ≠ .falling) (r : EntryRef) (ho : (s.entry r).owner = some h) :
    (s.entry r).claimant = none :=
  by_contra fun hc => hf (m.claimed r ho hc)

/-- A record with the same ends and range in another state stays mapped, when the maps agree with that state. -/
theorem State.mapped.restate {c' : Channel} (hk : c'.kind = c.kind) (hsrc : c'.src = c.src) (hdst : c'.dst = c.dst)
    (hfirst : c'.first = c.first) (hcount : c'.count = c.count) (hf : c.state ≠ .free) (hf' : c'.state ≠ .free)
    (owns : ∀ r ∈ c.footprint, (s.entry r).owner = some h ∨ (c'.state = .dark ∧ (s.entry r).claimant = some h))
    (claims : ∀ r, (s.entry r).claimant = some h → c'.state = .dark)
    (claimed : ∀ r, (s.entry r).owner = some h → (s.entry r).claimant ≠ none → c'.state = .falling) : s.mapped h c' := by
  have hss : c'.srcSite = c.srcSite := congrArg End.site hsrc
  have hds : c'.dstSite = c.dstSite := congrArg End.site hdst
  have hfp : c'.footprint = c.footprint := by
    simp only [Channel.footprint, Channel.slicesOf, Channel.cellOf, Channel.srcTap, Channel.dstTap, hss, hds, hk, hsrc, hdst, hfirst,
      hcount]
  refine ⟨fun _ => ?_, fun _ => by rw [hfp]; exact owns, fun r hr => ⟨hf', by rw [hfp]; exact (m.reserved r hr).2⟩, claims, claimed⟩
  rw [hk, hsrc, hdst, hfirst, hcount, hss, hds]
  exact m.filled hf

/-- A channel beyond DARK, not FALLING, may take any state. -/
theorem State.mapped.restate_unclaimed {c' : Channel} (hk : c'.kind = c.kind) (hsrc : c'.src = c.src) (hdst : c'.dst = c.dst)
    (hfirst : c'.first = c.first) (hcount : c'.count = c.count) (hf : c.state ≠ .free) (hd : c.state ≠ .dark)
    (hfall : c.state ≠ .falling) (hf' : c'.state ≠ .free) : s.mapped h c' :=
  m.restate hk hsrc hdst hfirst hcount hf hf' (fun r hr => .inl (m.owner hf hd r hr))
    (fun r hr => absurd hr (m.not_claimant hd r)) (fun r ho hc => absurd (m.unclaimed hfall r ho) hc)

/-- A channel keeps its place in the maps while its state stands. -/
theorem State.mapped.restate_same {c' : Channel} (hk : c'.kind = c.kind) (hsrc : c'.src = c.src) (hdst : c'.dst = c.dst)
    (hfirst : c'.first = c.first) (hcount : c'.count = c.count) (hs : c'.state = c.state) (hf : c.state ≠ .free) : s.mapped h c' :=
  m.restate hk hsrc hdst hfirst hcount hf (hs ▸ hf) (fun r hr => hs ▸ m.owns hf r hr) (fun r hr => hs ▸ m.claims r hr)
    (fun r ho hc => hs ▸ m.claimed r ho hc)

end

/-- A record stays mapped where the entries stand and ENABLED sites stay ENABLED. -/
theorem State.mapped.move {s t : State} {h : Handle} {c : Channel} (he : ∀ r, t.entry r = s.entry r)
    (hn : ∀ n, (s.site n).state = .enabled → (t.site n).state = .enabled) (m : s.mapped h c) : t.mapped h c := by
  obtain ⟨h1, h2, h3, h4, h5⟩ := m
  refine ⟨fun hf => ?_, by simpa only [he] using h2, by simpa only [he] using h3, by simpa only [he] using h4,
    by simpa only [he] using h5⟩
  obtain ⟨hkind, hlow, hhigh, hrange, hsrc, hdst⟩ := h1 hf
  exact ⟨hkind, hlow, hhigh, hrange, hn _ hsrc, hn _ hdst⟩

/-! ### Likeness -/

/-- A record without the values that coherence says nothing of. -/
def Channel.core (c : Channel) : Channel :=
  { c with target := 0, applied := .blocked, underRange := false, overRange := false, noLightOut := false, unconfirmed := false,
           clamped := false }

/-- A slot without its drive state, its swing and its held flag. -/
def Slot.core (x : Slot) : Slot := { x with swing := 0, held := false, drive := .stopped, takeover := false }

/-- An entry without its preset and its counts. -/
def WaitEntry.core (e : WaitEntry) : WaitEntry := { e with preset := none, skip := 0, barrier := false }

theorem Channel.eq_of_core {α : Type} (f : Channel → α) {c d : Channel} (h : d.core = c.core)
    (hf : ∀ x : Channel, f x.core = f x := by exact fun _ => rfl) : f d = f c :=
  (hf d).symm.trans ((congrArg f h).trans (hf c))

theorem Slot.eq_of_core {α : Type} (f : Slot → α) {x y : Slot} (h : y.core = x.core)
    (hf : ∀ z : Slot, f z.core = f z := by exact fun _ => rfl) : f y = f x :=
  (hf y).symm.trans ((congrArg f h).trans (hf x))

theorem WaitEntry.eq_of_core {α : Type} (f : WaitEntry → α) {x y : WaitEntry} (h : y.core = x.core)
    (hf : ∀ z : WaitEntry, f z.core = f z := by exact fun _ => rfl) : f y = f x :=
  (hf y).symm.trans ((congrArg f h).trans (hf x))

/-- Two states agree in everything coherence speaks of, but that a site may have become ENABLED. -/
structure State.Alike (s t : State) : Prop where
  chan : ∀ h, (t.chan h).core = (s.chan h).core
  entry : ∀ r, t.entry r = s.entry r
  slot : ∀ k, (t.slot k).map Slot.core = (s.slot k).map Slot.core
  waits : t.waitList.map WaitEntry.core = s.waitList.map WaitEntry.core
  site : ∀ n, (s.site n).state = .enabled → (t.site n).state = .enabled

theorem State.Alike.refl (s : State) : s.Alike s := ⟨fun _ => rfl, fun _ => rfl, fun _ => rfl, rfl, fun _ => id⟩

theorem State.Alike.trans {s t u : State} (h : s.Alike t) (g : t.Alike u) : s.Alike u :=
  ⟨fun x => (g.chan x).trans (h.chan x), fun x => (g.entry x).trans (h.entry x), fun x => (g.slot x).trans (h.slot x),
    g.waits.trans h.waits, fun x hx => g.site x (h.site x hx)⟩

theorem State.mapped.alike {s t : State} (A : s.Alike t) {h : Handle} {c c' : Channel} (hc : c'.core = c.core) (m : s.mapped h c) :
    t.mapped h c' := by
  have hstate : c'.state = c.state := Channel.eq_of_core Channel.state hc
  have hkind : c'.kind = c.kind := Channel.eq_of_core Channel.kind hc
  have hsrc : c'.src = c.src := Channel.eq_of_core Channel.src hc
  have hdst : c'.dst = c.dst := Channel.eq_of_core Channel.dst hc
  have hfirst : c'.first = c.first := Channel.eq_of_core Channel.first hc
  have hcount : c'.count = c.count := Channel.eq_of_core Channel.count hc
  have hss : c'.srcSite = c.srcSite := Channel.eq_of_core Channel.srcSite hc
  have hds : c'.dstSite = c.dstSite := Channel.eq_of_core Channel.dstSite hc
  have hfp : c'.footprint = c.footprint := Channel.eq_of_core Channel.footprint hc
  constructor
  · rw [hstate, hkind, hsrc, hdst, hfirst, hcount, hss, hds]
    intro hf
    obtain ⟨hkind, hlow, hhigh, hrange, hson, hdon⟩ := m.filled hf
    exact ⟨hkind, hlow, hhigh, hrange, A.site _ hson, A.site _ hdon⟩
  · rw [hstate, hfp]; simp only [A.entry]; exact m.owns
  · rw [hstate, hfp]; simp only [A.entry]; exact m.reserved
  · rw [hstate]; simp only [A.entry]; exact m.claims
  · rw [hstate]; simp only [A.entry]; exact m.claimed

theorem Channel.fits.core {c c' : Channel} (hc : c'.core = c.core) (f : c.fits) : c'.fits := by
  have hstate : c'.state = c.state := Channel.eq_of_core Channel.state hc
  have hpend : c'.pending = c.pending := Channel.eq_of_core Channel.pending hc
  have hshut : c'.shutteredBy = c.shutteredBy := Channel.eq_of_core Channel.shutteredBy hc
  have hdesc : c'.desc = c.desc := Channel.eq_of_core Channel.desc hc
  have hmotion : c'.motion = c.motion := Channel.eq_of_core Channel.motion hc
  obtain ⟨h1, h2, h3, h4, h5, h6⟩ := f
  refine ⟨?_, ?_, ?_, ?_, ?_, ?_⟩
  · rw [hstate, hpend]; exact h1
  · rw [hstate, hpend, hshut]; exact h2
  · rw [hstate, hshut]; exact h3
  · rw [hpend, hdesc]; exact h4
  · rw [hpend, hstate]; exact h5
  · rw [hpend, hmotion]; exact h6

theorem State.Alike.slot_some {s t : State} (A : s.Alike t) {k : SlotId} {x : Slot} (hx : t.slot k = some x) :
    ∃ y, s.slot k = some y ∧ x.core = y.core := by
  have := A.slot k
  rw [hx, Option.map_some, eq_comm, Option.map_eq_some_iff] at this
  obtain ⟨y, hy, hxy⟩ := this
  exact ⟨y, hy, hxy.symm⟩

theorem State.Alike.slot_back {s t : State} (A : s.Alike t) {k : SlotId} {y : Slot} (hy : s.slot k = some y) :
    ∃ x, t.slot k = some x ∧ x.core = y.core := by
  have := A.slot k
  rwa [hy, Option.map_some, Option.map_eq_some_iff] at this

theorem State.Alike.mem_waits {s t : State} (A : s.Alike t) {e : WaitEntry} (he : e ∈ t.waitList) :
    ∃ f ∈ s.waitList, e.core = f.core := by
  have : e.core ∈ s.waitList.map WaitEntry.core := A.waits ▸ List.mem_map_of_mem he
  obtain ⟨f, hf, hfe⟩ := List.mem_map.mp this
  exact ⟨f, hf, hfe.symm⟩

theorem State.Alike.waits_back {s t : State} (A : s.Alike t) {f : WaitEntry} (hf : f ∈ s.waitList) :
    ∃ e ∈ t.waitList, e.core = f.core := by
  have : f.core ∈ t.waitList.map WaitEntry.core := A.waits ▸ List.mem_map_of_mem hf
  exact List.mem_map.mp this

theorem State.Alike.handles {s t : State} (A : s.Alike t) : t.waitList.map (·.handle) = s.waitList.map (·.handle) := by
  have := congrArg (List.map WaitEntry.handle) A.waits
  simpa [List.map_map, Function.comp_def, WaitEntry.core] using this

theorem Channel.waitsAs_core {c c' : Channel} {e e' : WaitEntry} (hc : c'.core = c.core) (he : e'.core = e.core) (h : c.waitsAs e) :
    c'.waitsAs e' := by
  have hstate : c'.state = c.state := Channel.eq_of_core Channel.state hc
  have hshut : c'.shutteredBy = c.shutteredBy := Channel.eq_of_core Channel.shutteredBy hc
  have hkind : e'.kind = e.kind := WaitEntry.eq_of_core WaitEntry.kind he
  have hsite : e'.restoreSite = e.restoreSite := WaitEntry.eq_of_core WaitEntry.restoreSite he
  unfold Channel.waitsAs at *
  rw [hkind, hstate, hshut, hsite]
  exact h

/-- Coherence passes between states alike. -/
theorem State.wellBut.alike {p : Prop} {s t : State} {D : Handle → Prop} (A : s.Alike t) (hh : p → s.heldOk → t.heldOk)
    (w : s.wellBut p D) : t.wellBut p D := by
  have pending (h : Handle) : (t.chan h).pending = (s.chan h).pending := Channel.eq_of_core Channel.pending (A.chan h)
  constructor
  · exact fun h hD => (w.mapped h hD).alike A (A.chan h)
  · exact fun h hD => (w.fits h hD).core (A.chan h)
  · simp only [A.entry]; exact w.apart
  · intro k x hx
    obtain ⟨y, hy, hxy⟩ := A.slot_some hx
    have hhandle : x.handle = y.handle := Slot.eq_of_core Slot.handle hxy
    have hkind : x.kind = y.kind := Slot.eq_of_core Slot.kind hxy
    have hdest : x.dest = y.dest := Slot.eq_of_core Slot.dest hxy
    have hdesc : x.desc = y.desc := Slot.eq_of_core Slot.desc hxy
    have hc := A.chan y.handle
    have hstate : (t.chan y.handle).state = (s.chan y.handle).state := Channel.eq_of_core Channel.state hc
    have hds : (t.chan y.handle).dstSite = (s.chan y.handle).dstSite := Channel.eq_of_core Channel.dstSite hc
    have hcd : (t.chan y.handle).desc = (s.chan y.handle).desc := Channel.eq_of_core Channel.desc hc
    rw [hhandle, hkind, hdest, hdesc, pending, hstate, hds, hcd]
    exact w.slots k y hy
  · intro h hD k hk
    rw [pending] at hk
    obtain ⟨x, hx, hxh⟩ := w.slotOf h hD k hk
    obtain ⟨y, hy, hyx⟩ := A.slot_back hx
    exact ⟨y, hy, (Slot.eq_of_core Slot.handle hyx).trans hxh⟩
  · intro e he
    obtain ⟨f, hf, hef⟩ := A.mem_waits he
    have hhandle : e.handle = f.handle := WaitEntry.eq_of_core WaitEntry.handle hef
    have hkind : e.kind = f.kind := WaitEntry.eq_of_core WaitEntry.kind hef
    have hdest : e.dest = f.dest := WaitEntry.eq_of_core WaitEntry.dest hef
    have hdesc : e.desc = f.desc := WaitEntry.eq_of_core WaitEntry.desc hef
    have hc := A.chan f.handle
    have hds : (t.chan f.handle).dstSite = (s.chan f.handle).dstSite := Channel.eq_of_core Channel.dstSite hc
    have hcd : (t.chan f.handle).desc = (s.chan f.handle).desc := Channel.eq_of_core Channel.desc hc
    obtain ⟨hD, hp, has, hd, hde, hiff⟩ := w.waits f hf
    rw [hhandle, hkind, hdest, hdesc, pending, hds, hcd]
    exact ⟨hD, hp, Channel.waitsAs_core hc hef has, hd, hde, hiff⟩
  · rw [A.handles]; exact w.once
  · intro h hD hp
    rw [pending] at hp
    obtain ⟨e, he, heh⟩ := w.waitOf h hD hp
    obtain ⟨f, hf, hfe⟩ := A.waits_back he
    exact ⟨f, hf, (WaitEntry.eq_of_core WaitEntry.handle hfe).trans heh⟩
  · exact fun hp => hh hp (w.held hp)

/-! ### Taking a transition away -/

section
variable {p : Prop} {s : State} {D : Handle → Prop} (w : s.wellBut p D)
include w

/-- A channel whose slot and entry are gone stands apart from the rest. -/
theorem State.wellBut.detach {t : State} (h : Handle) (chan : ∀ g, g ≠ h → t.chan g = s.chan g) (entry : ∀ r, t.entry r = s.entry r)
    (site : ∀ n, (t.site n).state = (s.site n).state) (slot : ∀ k x, t.slot k = some x ↔ s.slot k = some x ∧ x.handle ≠ h)
    (waits : t.waitList = s.waitList.filter fun e => decide (e.handle ≠ h)) (hh : s.heldOk → t.heldOk) :
    t.wellBut p fun g => D g ∨ g = h := by
  have mem_waits (e : WaitEntry) : e ∈ t.waitList ↔ e ∈ s.waitList ∧ e.handle ≠ h := by
    rw [waits, List.mem_filter, decide_eq_true_iff]
  constructor
  · intro g hg
    rw [not_or] at hg
    rw [chan g hg.2]
    obtain ⟨h1, h2, h3, h4, h5⟩ := w.mapped g hg.1
    constructor
    · rw [site, site]; exact h1
    all_goals simp only [entry]; assumption
  · intro g hg
    rw [not_or] at hg
    rw [chan g hg.2]
    exact w.fits g hg.1
  · simp only [entry]; exact w.apart
  · intro k x hx
    obtain ⟨hx, hne⟩ := (slot k x).mp hx
    rw [chan _ hne]
    obtain ⟨hD, hrest⟩ := w.slots k x hx
    exact ⟨not_or.mpr ⟨hD, hne⟩, hrest⟩
  · intro g hg k hk
    rw [not_or] at hg
    rw [chan g hg.2] at hk
    obtain ⟨x, hx, hxg⟩ := w.slotOf g hg.1 k hk
    exact ⟨x, (slot k x).mpr ⟨hx, hxg ▸ hg.2⟩, hxg⟩
  · intro e he
    obtain ⟨he, hne⟩ := (mem_waits e).mp he
    rw [chan _ hne]
    obtain ⟨hD, hrest⟩ := w.waits e he
    exact ⟨not_or.mpr ⟨hD, hne⟩, hrest⟩
  · rw [waits]
    exact w.once.sublist (List.filter_sublist.map _)
  · intro g hg hp
    rw [not_or] at hg
    rw [chan g hg.2] at hp
    obtain ⟨e, he, heg⟩ := w.waitOf g hg.1 hp
    exact ⟨e, (mem_waits e).mpr ⟨he, heg ▸ hg.2⟩, heg⟩
  · exact fun hp => hh (w.held hp)

/-- No slot refers to a channel whose pending transition is not that slot. -/
theorem State.wellBut.slot_handle_ne {h : Handle} {k : SlotId} {x : Slot} (hx : s.slot k = some x)
    (hp : (s.chan h).pending ≠ some (.slot k)) : x.handle ≠ h := by
  rintro rfl
  exact hp (w.slots k x hx).2.1

/-- No entry refers to a channel whose pending transition does not wait. -/
theorem State.wellBut.wait_handle_ne {h : Handle} {e : WaitEntry} (he : e ∈ s.waitList) (hp : (s.chan h).pending ≠ some .waiting) :
    e.handle ≠ h := by
  rintro rfl
  exact hp (w.waits e he).2.1

theorem State.wellBut.filter_waits {h : Handle} (hp : (s.chan h).pending ≠ some .waiting) :
    s.waitList.filter (fun e => decide (e.handle ≠ h)) = s.waitList :=
  List.filter_eq_self.mpr fun _ he => decide_eq_true (w.wait_handle_ne he hp)

/-- A channel without a transition stands apart as it is. -/
theorem State.wellBut.detach_resting {h : Handle} (hp : (s.chan h).pending = none) : s.wellBut p fun g => D g ∨ g = h := by
  refine w.detach h (fun _ _ => rfl) (fun _ => rfl) (fun _ => rfl) (fun k x => ⟨fun hx => ⟨hx, ?_⟩, And.left⟩) ?_ id
  · exact w.slot_handle_ne hx (by simp [hp])
  · exact (w.filter_waits (by simp [hp])).symm

/-- The slot of a channel's transition is its channel's, and no other's. -/
theorem State.wellBut.slot_handle_iff {h : Handle} (hD : ¬D h) {k : SlotId} {x : Slot} (hx : s.slot k = some x) :
    (s.chan h).pending = some (.slot k) ↔ x.handle = h := by
  constructor
  · intro hp
    obtain ⟨y, hy, hyh⟩ := w.slotOf h hD k hp
    rw [hx] at hy
    cases hy
    exact hyh
  · rintro rfl
    exact (w.slots k x hx).2.1

end

theorem SameButChannels.isHeld {s t : State} (hs : SameButChannels s t) {g : Handle} (hsrc : (t.chan g).src = (s.chan g).src)
    (hdst : (t.chan g).dst = (s.chan g).dst) : t.isHeld g = s.isHeld g := by
  have h1 : (t.chan g).srcSite = (s.chan g).srcSite := congrArg End.site hsrc
  have h2 : (t.chan g).dstSite = (s.chan g).dstSite := congrArg End.site hdst
  show t.heldBetween _ _ = s.heldBetween _ _
  rw [h1, h2, hs]
  rfl

theorem State.ends_dropTransition (s : State) (h g : Handle) :
    ((s.dropTransition h).chan g).src = (s.chan g).src ∧ ((s.dropTransition h).chan g).dst = (s.chan g).dst := by
  rw [chan_dropTransition]
  split
  · rename_i hg; rw [hg]; exact ⟨rfl, rfl⟩
  · exact ⟨rfl, rfl⟩

@[simp] theorem State.isHeld_dropTransition (s : State) (h g : Handle) : (s.dropTransition h).isHeld g = s.isHeld g :=
  (dropTransition_channels s h).isHeld (s.ends_dropTransition h g).1 (s.ends_dropTransition h g).2

/-- A slot of the state after a removal was there before. -/
theorem State.slot_of_dropTransition {s : State} {h : Handle} {k : SlotId} {x : Slot} (hx : (s.dropTransition h).slot k = some x) :
    s.slot k = some x := by
  rw [State.slot_dropTransition] at hx
  split at hx
  · cases hx
  · exact hx

theorem State.heldOk_dropTransition {s : State} (hh : s.heldOk) (h : Handle) : (s.dropTransition h).heldOk := fun k x hx => by
  rw [State.isHeld_dropTransition]
  exact hh k x (State.slot_of_dropTransition hx)

/-- A channel whose transition has been removed stands apart. -/
theorem State.wellBut.dropTransition {p : Prop} {s : State} {D : Handle → Prop} (w : s.wellBut p D) {h : Handle} (hD : ¬D h) :
    (s.dropTransition h).wellBut p fun g => D g ∨ g = h := by
  refine w.detach h (fun g hg => by rw [chan_dropTransition, if_neg hg]) (State.entry_dropTransition s h)
    (fun n => by rw [(dropTransition_channels s h).site]) (fun k x => ?_) ?_ fun hh => State.heldOk_dropTransition hh h
  · rw [State.slot_dropTransition]
    constructor
    · intro hx
      split at hx
      · cases hx
      · rename_i hp
        exact ⟨hx, w.slot_handle_ne hx hp⟩
    · rintro ⟨hx, hne⟩
      rw [if_neg (fun hp => hne ((w.slot_handle_iff hD hx).mp hp)), hx]
  · rw [State.waitList_dropTransition]
    split
    · rfl
    · rename_i hp
      exact (w.filter_waits hp).symm

/-! ### Joining a channel again -/

theorem State.heldOk_setChan {s : State} (hh : s.heldOk) {h : Handle} {c : Channel}
    (hc : ∀ k x, s.slot k = some x → x.handle = h → c.src = (s.chan h).src ∧ c.dst = (s.chan h).dst) : (s.setChan h c).heldOk := by
  intro k x hx
  rw [hh k x hx]
  refine ((setChan_channels s h c).isHeld ?_ ?_).symm
  · rw [State.chan_setChan]
    split
    · rename_i hxh; rw [(hc k x hx hxh).1, hxh]
    · rfl
  · rw [State.chan_setChan]
    split
    · rename_i hxh; rw [(hc k x hx hxh).2, hxh]
    · rfl

section
variable {p : Prop} {s : State} {D : Handle → Prop} {h : Handle} (w : s.wellBut p fun g => D g ∨ g = h)
include w

theorem State.wellBut.slot_ne {k : SlotId} {x : Slot} (hx : s.slot k = some x) : x.handle ≠ h :=
  fun he => (w.slots k x hx).1 (.inr he)

theorem State.wellBut.wait_ne {e : WaitEntry} (he : e ∈ s.waitList) : e.handle ≠ h :=
  fun hh => (w.waits e he).1 (.inr hh)

/-- The records of the other channels stand when one is rewritten and the maps and sites are left alone. -/
theorem State.wellBut.mapped_join {c : Channel} (m : s.mapped h c) {t : State} (he : ∀ r, t.entry r = s.entry r)
    (hn : ∀ n, (s.site n).state = .enabled → (t.site n).state = .enabled) (g : Handle) (hg : ¬D g) : t.mapped g (if g = h then c else s.chan g) := by
  split
  · rename_i hgh; subst hgh; exact m.move he hn
  · rename_i hgh; exact (w.mapped g (not_or.mpr ⟨hg, hgh⟩)).move he hn

theorem State.wellBut.fits_setChan {c : Channel} (f : c.fits) (g : Handle) (hg : ¬D g) : ((s.setChan h c).chan g).fits := by
  rw [State.chan_setChan]
  split
  · exact f
  · rename_i hgh; exact w.fits g (not_or.mpr ⟨hg, hgh⟩)

theorem State.wellBut.apart_setChan (c : Channel) (r : EntryRef) (g : Handle) (hr : ((s.setChan h c).entry r).claimant = some g) :
    ((s.setChan h c).entry r).owner ≠ none ∧ ((s.setChan h c).entry r).owner ≠ some g := by
  rw [State.entry_setChan] at *
  exact w.apart r g hr

/-- A channel joins the rest without a transition. -/
theorem State.wellBut.join_resting {c : Channel} (m : s.mapped h c) (f : c.fits) (hp : c.pending = none) :
    (s.setChan h c).wellBut p D where
  mapped g hg := by
    rw [State.chan_setChan]
    exact w.mapped_join m (fun _ => State.entry_setChan ..) (fun _ => id) g hg
  fits := w.fits_setChan f
  apart := w.apart_setChan c
  slots k x hx := by
    obtain ⟨hD, hrest⟩ := w.slots k x hx
    rw [not_or] at hD
    rw [State.chan_setChan_of_ne _ _ _ hD.2]
    exact ⟨hD.1, hrest⟩
  slotOf g hg k hk := by
    rw [State.chan_setChan] at hk
    split at hk
    · rw [hp] at hk; cases hk
    · rename_i hgh; exact w.slotOf g (not_or.mpr ⟨hg, hgh⟩) k hk
  waits e he := by
    obtain ⟨hD, hrest⟩ := w.waits e he
    rw [not_or] at hD
    rw [State.chan_setChan_of_ne _ _ _ hD.2]
    exact ⟨hD.1, hrest⟩
  once := w.once
  waitOf g hg hk := by
    rw [State.chan_setChan] at hk
    split at hk
    · rw [hp] at hk; cases hk
    · rename_i hgh; exact w.waitOf g (not_or.mpr ⟨hg, hgh⟩) hk
  held hq := State.heldOk_setChan (w.held hq) fun k x hx hxh => absurd hxh (w.slot_ne hx)

/-- A channel joins the rest with a transition in a slot that was free. -/
theorem State.wellBut.join_slot {c : Channel} {k : SlotId} {x : Slot} (hD : ¬D h) (m : s.mapped h c) (f : c.fits)
    (hp : c.pending = some (.slot k)) (hk : s.slot k = none) (hxh : x.handle = h) (hstate : c.state = x.kind.slotState)
    (hdest : x.dest = c.dstSite) (hdesc : x.desc = c.desc) (hiff : x.desc = none ↔ x.kind = .restore)
    (hheld : p → x.held = s.heldBetween c.srcSite c.dstSite) : ((s.setSlot k (some x)).setChan h c).wellBut p D where
  mapped g hg := by
    rw [State.chan_setChan]
    exact w.mapped_join (t := (s.setSlot k (some x)).setChan h c) m (fun _ => rfl) (fun _ => id) g hg
  fits g hg := w.fits_setChan f g hg
  apart r g hr := by
    rw [State.entry_setChan, State.entry_setSlot] at *
    exact w.apart r g hr
  slots j y hy := by
    rw [State.slot_setChan, State.slot_setSlot] at hy
    split at hy
    · rename_i hj
      cases hy
      subst hj hxh
      rw [State.chan_setChan_self]
      exact ⟨hD, hp, hstate, hdest, hdesc, hiff⟩
    · obtain ⟨hDy, hrest⟩ := w.slots j y hy
      rw [not_or] at hDy
      rw [State.chan_setChan_of_ne _ _ _ hDy.2]
      exact ⟨hDy.1, hrest⟩
  slotOf g hg j hj := by
    rw [State.chan_setChan] at hj
    split at hj
    · rename_i hgh
      rw [hp] at hj
      cases hj
      exact ⟨x, State.slot_setSlot_self _ _ _, hxh.trans hgh.symm⟩
    · rename_i hgh
      obtain ⟨y, hy, hyg⟩ := w.slotOf g (not_or.mpr ⟨hg, hgh⟩) j hj
      refine ⟨y, ?_, hyg⟩
      rw [State.slot_setChan, State.slot_setSlot_of_ne, hy]
      rintro rfl
      rw [hk] at hy
      cases hy
  waits e he := by
    obtain ⟨hDe, hrest⟩ := w.waits e he
    rw [not_or] at hDe
    rw [State.chan_setChan_of_ne _ _ _ hDe.2]
    exact ⟨hDe.1, hrest⟩
  once := w.once
  waitOf g hg hj := by
    rw [State.chan_setChan] at hj
    split at hj
    · rw [hp] at hj; cases hj
    · rename_i hgh; exact w.waitOf g (not_or.mpr ⟨hg, hgh⟩) hj
  held hq j y hy := by
    rw [State.slot_setChan, State.slot_setSlot] at hy
    split at hy
    · cases hy
      rw [hheld hq, hxh]
      show _ = (s.setChan h c).isHeld h
      unfold State.isHeld
      dsimp only
      rw [State.chan_setChan_self]
      rfl
    · exact State.heldOk_setChan (w.held hq) (c := c) (fun k x hx hxh => absurd hxh (w.slot_ne hx)) j y hy

/-- A channel joins the rest with an entry at the tail of the Wait List. -/
theorem State.wellBut.join_waiting {c : Channel} {e : WaitEntry} (hD : ¬D h) (m : s.mapped h c) (f : c.fits)
    (hp : c.pending = some .waiting) (heh : e.handle = h) (has : c.waitsAs e) (hdest : e.dest = c.dstSite) (hdesc : e.desc = c.desc)
    (hiff : e.desc = none ↔ e.kind = .restore) : ({ s with waitList := s.waitList ++ [e] }.setChan h c).wellBut p D where
  mapped g hg := by
    rw [State.chan_setChan]
    exact w.mapped_join (t := { s with waitList := s.waitList ++ [e] }.setChan h c) m (fun _ => rfl) (fun _ => id) g hg
  fits g hg := w.fits_setChan f g hg
  apart r g hr := w.apart_setChan c r g hr
  slots k x hx := by
    obtain ⟨hDx, hrest⟩ := w.slots k x hx
    rw [not_or] at hDx
    rw [State.chan_setChan_of_ne _ _ _ hDx.2]
    exact ⟨hDx.1, hrest⟩
  slotOf g hg k hk := by
    rw [State.chan_setChan] at hk
    split at hk
    · rw [hp] at hk; cases hk
    · rename_i hgh; exact w.slotOf g (not_or.mpr ⟨hg, hgh⟩) k hk
  waits e' he' := by
    rw [State.setChan_waitList, List.mem_append, List.mem_singleton] at he'
    rcases he' with he' | rfl
    · obtain ⟨hDe, hrest⟩ := w.waits e' he'
      rw [not_or] at hDe
      rw [State.chan_setChan_of_ne _ _ _ hDe.2]
      exact ⟨hDe.1, hrest⟩
    · rw [heh, State.chan_setChan_self]
      exact ⟨hD, hp, has, hdest, hdesc, hiff⟩
  once := by
    rw [State.setChan_waitList, List.map_append]
    refine w.once.append (by simp) ?_
    simp only [List.map_cons, List.map_nil, List.disjoint_singleton, List.mem_map, not_exists, not_and]
    intro e' he'
    rw [heh]
    exact w.wait_ne he'
  waitOf g hg hk := by
    rw [State.chan_setChan] at hk
    split at hk
    · rename_i hgh
      exact ⟨e, List.mem_append_right _ (List.mem_singleton_self e), heh.trans hgh.symm⟩
    · rename_i hgh
      obtain ⟨e', he', heg⟩ := w.waitOf g (not_or.mpr ⟨hg, hgh⟩) hk
      exact ⟨e', List.mem_append_left _ he', heg⟩
  held hq := State.heldOk_setChan (s := s) (w.held hq) fun k x hx hxh => absurd hxh (w.slot_ne hx)

end

end Sys2Proof.Machine
end

section
/-!
SUPPORT. What leaves coherence and the held flags as they stand: the Switch Link's operations, which move the drive state of a slot and
nothing else of it (R101, R105, R109), and the recomputation of the held flags after the holds of some sites have changed (R143).
-/

namespace Sys2Proof.Machine

open Sys2Proof

/-! ### Steady changes -/

/-- Nothing that coherence speaks of changes, and the held flags, if right, stay right. -/
structure Steady (s t : State) : Prop where
  alike : s.Alike t
  held : s.heldOk → t.heldOk

theorem Steady.refl (s : State) : Steady s s := ⟨.refl s, id⟩

theorem Steady.trans {s t u : State} (h : Steady s t) (g : Steady t u) : Steady s u :=
  ⟨h.alike.trans g.alike, fun hs => g.held (h.held hs)⟩

theorem Steady.foldl {α : Type} {f : State → α → State} (hf : ∀ s a, Steady s (f s a)) (l : List α) (s : State) :
    Steady s (l.foldl f s) := by
  induction l generalizing s with
  | nil => exact .refl s
  | cons a l ih => exact (hf s a).trans (ih _)

theorem State.wellBut.steady {p : Prop} {s t : State} {D : Handle → Prop} (w : s.wellBut p D) (h : Steady s t) : t.wellBut p D :=
  w.alike h.alike fun _ => h.held

theorem State.Alike.isHeld {s t : State} (A : s.Alike t) (hb : ∀ a b, t.heldBetween a b = s.heldBetween a b) (h : Handle) :
    t.isHeld h = s.isHeld h := by
  show t.heldBetween _ _ = s.heldBetween _ _
  rw [hb, Channel.eq_of_core Channel.srcSite (A.chan h), Channel.eq_of_core Channel.dstSite (A.chan h)]

/-- The holds come from the live flags, the active parameters and the freeze flags (R142). -/
theorem State.heldBetween_congr {s t : State} (live : ∀ n d, ((t.cond n).flag d).live = ((s.cond n).flag d).live)
    (active : ∀ n, (t.site n).active = (s.site n).active) (frozen : ∀ n, (t.site n).frozen = (s.site n).frozen) (a b : SiteId) :
    t.heldBetween a b = s.heldBetween a b := by
  have holding (n : SiteId) (d : Cond) : t.holding n d = s.holding n d := by
    unfold State.holding State.params
    rw [live, active]
  unfold State.heldBetween State.sourceHold State.destHold State.frozen
  rw [holding, holding, holding, holding, frozen, frozen]

/-- A slot without its drive state: what the held flags' rule speaks of stands in it. -/
def Slot.still (x : Slot) : Slot := { x with drive := .stopped, takeover := false }

theorem Slot.core_of_still {o o' : Option Slot} (h : o'.map Slot.still = o.map Slot.still) : o'.map Slot.core = o.map Slot.core := by
  have key (o : Option Slot) : o.map Slot.core = (o.map Slot.still).map Slot.core := by cases o <;> rfl
  rw [key o, key o', h]

theorem Slot.some_of_still {o : Option Slot} {o' : Option Slot} (h : o'.map Slot.still = o.map Slot.still) {x : Slot} (hx : o' = some x) :
    ∃ y, o = some y ∧ x.held = y.held ∧ x.handle = y.handle := by
  rw [hx, Option.map_some, eq_comm, Option.map_eq_some_iff] at h
  obtain ⟨y, hy, hyx⟩ := h
  exact ⟨y, hy, (congrArg Slot.held hyx).symm, (congrArg Slot.handle hyx).symm⟩

/-- The records as coherence reads them, the maps, the Wait List, the sites and the holds stand, and each slot but for its drive state. -/
theorem Steady.of_still {s t : State} (chan : ∀ h, (t.chan h).core = (s.chan h).core) (entry : ∀ r, t.entry r = s.entry r)
    (slot : ∀ k, (t.slot k).map Slot.still = (s.slot k).map Slot.still)
    (waits : t.waitList.map WaitEntry.core = s.waitList.map WaitEntry.core)
    (site : ∀ n, (t.site n).state = (s.site n).state) (holds : ∀ a b, t.heldBetween a b = s.heldBetween a b) : Steady s t := by
  have A : s.Alike t := ⟨chan, entry, fun k => Slot.core_of_still (slot k), waits, fun n hn => (site n).trans hn⟩
  refine ⟨A, fun hh k x hx => ?_⟩
  obtain ⟨y, hy, hheld, hhandle⟩ := Slot.some_of_still (slot k) hx
  rw [hheld, hhandle, A.isHeld holds, hh k y hy]

/-- A change outside the transition engine, or in its hand-over list, its links, its swings and its pass due. -/
theorem Steady.of_tables {s t : State} (chans : t.chans = s.chans) (maps : t.maps = s.maps) (adds : t.addCells = s.addCells)
    (drops : t.dropCells = s.dropCells) (slots : t.slots = s.slots) (waits : t.waitList = s.waitList) (sites : t.sites = s.sites)
    (conds : t.conds = s.conds) : Steady s t := by
  have site (n : SiteId) : t.site n = s.site n := congrArg (·.get n) sites
  have cond (n : SiteId) : t.cond n = s.cond n := congrArg (·.get n) conds
  refine .of_still (fun h => congrArg (fun v => (Vector.get v h).core) chans) (fun r => ?_)
    (fun k => congrArg (fun v => (Vector.get v k).map Slot.still) slots) (by rw [waits]) (fun n => by rw [site])
    (State.heldBetween_congr (fun n d => by rw [cond]) (fun n => by rw [site]) fun n => by rw [site])
  cases r <;> simp only [State.entry, maps, adds, drops]

theorem Steady.of_engine {s t : State} (h : t.engine = s.engine) : Steady s t :=
  .of_tables (congrArg Engine.chans h) (congrArg Engine.maps h) (congrArg Engine.addCells h) (congrArg Engine.dropCells h)
    (congrArg Engine.slots h) (congrArg Engine.waitList h) (congrArg Engine.sites h) (congrArg Engine.conds h)

theorem Steady.handOver (s : State) (items : List Item) : Steady s (s.handOver items) := by
  rw [handOver_only]
  exact .of_engine rfl

theorem Steady.due (s : State) (b : Bool) : Steady s (s.due b) := .of_tables rfl rfl rfl rfl rfl rfl rfl rfl

theorem Steady.setTap (s : State) (t : TapId) (x : Tap) : Steady s (s.setTap t x) := .of_tables rfl rfl rfl rfl rfl rfl rfl rfl

theorem Steady.setLink (s : State) (m : SiteId) (l : Link) : Steady s (s.setLink m l) := .of_tables rfl rfl rfl rfl rfl rfl rfl rfl

theorem Steady.setSwing (s : State) (d : Fin 8) (w : Nat) : Steady s (s.setSwing d w) := .of_tables rfl rfl rfl rfl rfl rfl rfl rfl

theorem Steady.commit (s : State) (n : SiteId) (w : Nat) : Steady s (s.commit n w) := by
  unfold State.commit
  split
  · exact .refl s
  · exact .setSwing s _ _

theorem Steady.releaseSwing (s : State) (n : SiteId) (w : Nat) : Steady s (s.releaseSwing n w) := by
  unfold State.releaseSwing
  split
  · exact .refl s
  · exact (Steady.setSwing s _ _).trans (.due _ _)

/-- A record is written again with other values, but for what coherence speaks of. -/
theorem Steady.setChan {s : State} {h : Handle} {c : Channel} (hc : c.core = (s.chan h).core) : Steady s (s.setChan h c) := by
  refine .of_still (fun g => ?_) (State.entry_setChan s h c) (fun _ => rfl) rfl (fun _ => rfl) fun _ _ => rfl
  rw [State.chan_setChan]
  split
  · rename_i hg; rw [hc, hg]
  · rfl

/-- A site's record is written again with the same state and holds. -/
theorem Steady.setSite {s : State} {n : SiteId} {x : Site} (hstate : x.state = (s.site n).state) (hactive : x.active = (s.site n).active)
    (hfrozen : x.frozen = (s.site n).frozen) : Steady s (s.setSite n x) := by
  have site (m : SiteId) : ((s.setSite n x).site m).state = (s.site m).state ∧ ((s.setSite n x).site m).active = (s.site m).active ∧
      ((s.setSite n x).site m).frozen = (s.site m).frozen := by
    rw [State.site_setSite]
    split
    · rename_i hm; subst hm; exact ⟨hstate, hactive, hfrozen⟩
    · exact ⟨rfl, rfl, rfl⟩
  exact .of_still (fun _ => rfl) (State.entry_setSite s n x) (fun _ => rfl) rfl (fun m => (site m).1)
    (State.heldBetween_congr (fun _ _ => rfl) (fun m => (site m).2.1) fun m => (site m).2.2)

/-- A site's condition record is written again with the same live flags. -/
theorem Steady.setCond {s : State} {n : SiteId} {c : CondRec} (h : ∀ d, (c.flag d).live = ((s.cond n).flag d).live) :
    Steady s (s.setCond n c) := by
  have cond (m : SiteId) (d : Cond) : (((s.setCond n c).cond m).flag d).live = ((s.cond m).flag d).live := by
    rw [State.cond_setCond]
    split
    · rename_i hm; subst hm; exact h d
    · rfl
  exact .of_still (fun _ => rfl) (State.entry_setCond s n c) (fun _ => rfl) rfl (fun _ => rfl)
    (State.heldBetween_congr cond (fun _ => rfl) fun _ => rfl)

/-- The Wait List may be what it will. -/
theorem Steady.withWaits {s t : State} (h : Steady s t) {l m : List WaitEntry} (hl : m.map WaitEntry.core = l.map WaitEntry.core) :
    Steady { s with waitList := l } { t with waitList := m } :=
  ⟨⟨h.alike.chan, fun r => by cases r with
      | slice t n => exact h.alike.entry (.slice t n)
      | addCell g i => exact h.alike.entry (.addCell g i)
      | dropCell g i => exact h.alike.entry (.dropCell g i), h.alike.slot, hl, h.alike.site⟩, h.held⟩

/-! ### The Switch Link and the drive states -/

/-- The links change, and each slot in its drive state alone. -/
structure SameButDrives (s t : State) : Prop where
  only : SameButLinks s t
  slot : ∀ k, (t.slot k).map Slot.still = (s.slot k).map Slot.still

theorem SameButDrives.refl (s : State) : SameButDrives s s := ⟨.refl s, fun _ => rfl⟩

theorem SameButDrives.trans {s t u : State} (h : SameButDrives s t) (g : SameButDrives t u) : SameButDrives s u :=
  ⟨h.only.trans g.only, fun k => (g.slot k).trans (h.slot k)⟩

theorem SameButLinks.waitList {s t : State} (h : SameButLinks s t) : t.waitList = s.waitList := by rw [h]

theorem SameButLinks.heldBetween {s t : State} (h : SameButLinks s t) (a b : SiteId) : t.heldBetween a b = s.heldBetween a b := by
  rw [h]; rfl

theorem SameButDrives.steady {s t : State} (h : SameButDrives s t) : Steady s t :=
  .of_still (fun g => by rw [h.only.chan]) h.only.entry h.slot (by rw [h.only.waitList]) (fun n => by rw [h.only.channels.site])
    h.only.heldBetween

theorem setLink_drives (s : State) (m : SiteId) (l : Link) : SameButDrives s (s.setLink m l) := ⟨rfl, fun _ => rfl⟩

theorem setSlot_drives {s : State} {k : SlotId} {x y : Slot} (hx : s.slot k = some x) (hy : y.still = x.still) :
    SameButDrives s (s.setSlot k (some y)) := by
  refine ⟨rfl, fun j => ?_⟩
  rw [State.slot_setSlot]
  split
  · rename_i hj; rw [hj, hx, Option.map_some, Option.map_some, hy]
  · rfl

theorem sendNext_drives (s : State) (m : SiteId) : SameButDrives s (s.sendNext m) := by
  unfold State.sendNext
  dsimp only
  split
  · exact ⟨rfl, fun _ => rfl⟩
  · split
    · exact .refl s
    · split
      · exact setLink_drives _ _ _
      · rename_i x hx
        exact ((setLink_drives s m _).trans (setSlot_drives hx (y := { x with drive := .sent }) rfl)).trans (setLink_drives _ m _)
    · exact ⟨rfl, fun _ => rfl⟩

theorem kick_drives (s : State) (m : SiteId) : SameButDrives s (s.kick m) := by
  unfold State.kick
  split
  · exact .refl s
  · exact sendNext_drives s m

theorem placeRamp_drives (s : State) (k : SlotId) : SameButDrives s (s.placeRamp k) := by
  unfold State.placeRamp
  split
  · exact .refl s
  · rename_i x hx
    exact ((setLink_drives s _ _).trans (setSlot_drives hx (y := { x with drive := .queued, takeover := false }) rfl)).trans
      (kick_drives _ _)

theorem stopSlot_drives (s : State) (k : SlotId) : SameButDrives s (s.stopSlot k) := by
  unfold State.stopSlot
  split
  · exact .refl s
  · rename_i hx
    split
    · exact (setLink_drives s _ _).trans (setSlot_drives hx rfl)
    · exact setSlot_drives hx rfl
    all_goals exact .refl s

theorem restartSlot_drives (s : State) (k : SlotId) : SameButDrives s (s.restartSlot k) := by
  unfold State.restartSlot
  split
  · exact .refl s
  · split
    · exact placeRamp_drives s k
    · exact .refl s

theorem leaveSent_drives (s : State) (k : SlotId) : SameButDrives s (s.leaveSent k) := by
  unfold State.leaveSent
  split
  · exact .refl s
  · rename_i hx
    split
    · exact setSlot_drives hx rfl
    · split
      · exact placeRamp_drives s k
      · exact setSlot_drives hx rfl

theorem placeLevel_drives (s : State) (m : SiteId) (h : Handle) (a : Nat) : SameButDrives s (s.placeLevel m h a) := by
  unfold State.placeLevel
  dsimp only
  split
  · exact setLink_drives _ _ _
  · split
    · exact (setLink_drives s _ _).trans (kick_drives _ _)
    · exact .refl s

theorem dropLevel_drives (s : State) (m : SiteId) (h : Handle) : SameButDrives s (s.dropLevel m h) := ⟨rfl, fun _ => rfl⟩

theorem addShutter_drives {s t : State} {m : SiteId} {e : ShutterEntry} (h : s.addShutter m e = some t) : SameButDrives s t := by
  unfold State.addShutter at h
  dsimp only at h
  split at h
  · cases h; exact .refl s
  · split at h
    · cases h; exact (setLink_drives s _ _).trans (kick_drives _ _)
    · cases h

/-! ### The recomputation of the held flags (R143) -/

/-- A slot's held flag is what the holds give. -/
def State.heldRight (s : State) (k : SlotId) : Prop := ∀ x, s.slot k = some x → x.held = s.isHeld x.handle

theorem SameButLinks.slotAt {s t : State} (h : SameButLinks s t) (x : Slot) (sites : List SiteId) : t.slotAt x sites = s.slotAt x sites := by
  unfold State.slotAt
  rw [h.chan]

theorem SameButLinks.isHeld {s t : State} (h : SameButLinks s t) (g : Handle) : t.isHeld g = s.isHeld g := by
  unfold State.isHeld
  rw [h.chan, h.heldBetween]

theorem SameButDrives.heldRight {s t : State} (h : SameButDrives s t) {k : SlotId} (hk : s.heldRight k) : t.heldRight k := by
  intro x hx
  obtain ⟨y, hy, hheld, hhandle⟩ := Slot.some_of_still (h.slot k) hx
  rw [hheld, hhandle, h.only.isHeld, hk y hy]

/-- What the recomputation of one slot does, when its flag changes: the flag is rewritten, and then drive states alone move. -/
theorem reholdSlot_cases (sites : List SiteId) (s : State) (k : SlotId) :
    (State.reholdSlot sites s k = s ∧ ∀ x, s.slot k = some x → s.slotAt x sites = true → x.held = s.isHeld x.handle) ∨
    ∃ x, s.slot k = some x ∧ SameButDrives (s.setSlot k (some { x with held := s.isHeld x.handle })) (State.reholdSlot sites s k) := by
  unfold State.reholdSlot
  split
  · rename_i hx
    exact .inl ⟨rfl, fun x hx' => by rw [hx] at hx'; cases hx'⟩
  · rename_i x hx
    split
    · dsimp only
      split
      · rename_i hnow
        exact .inl ⟨rfl, fun y hy _ => by rw [hx] at hy; cases hy; exact hnow.symm⟩
      · refine .inr ⟨x, hx, ?_⟩
        split
        · exact stopSlot_drives _ _
        · exact restartSlot_drives _ _
    · rename_i hat
      exact .inl ⟨rfl, fun y hy hyat => by rw [hx] at hy; cases hy; exact absurd hyat hat⟩

theorem setSlot_held_right {s : State} {k : SlotId} {x : Slot} : (s.setSlot k (some { x with held := s.isHeld x.handle })).heldRight k := by
  intro y hy
  rw [State.slot_setSlot_self] at hy
  cases hy
  rfl

theorem reholdSlot_keeps_right (sites : List SiteId) (s : State) (k : SlotId) {j : SlotId} (hj : s.heldRight j) :
    (State.reholdSlot sites s k).heldRight j := by
  rcases reholdSlot_cases sites s k with ⟨heq, -⟩ | ⟨x, hx, hd⟩
  · rw [heq]; exact hj
  · refine hd.heldRight ?_
    rcases eq_or_ne j k with rfl | hne
    · exact setSlot_held_right
    · intro y hy
      rw [State.slot_setSlot_of_ne _ _ _ hne] at hy
      exact hj y hy

/-- The slots that have no end at the sites have the right flags. -/
def State.rightBut (sites : List SiteId) (s : State) : Prop :=
  ∀ k x, s.slot k = some x → s.slotAt x sites = false → x.held = s.isHeld x.handle

theorem reholdSlot_rightBut (sites : List SiteId) {s : State} (k : SlotId) (h : s.rightBut sites) :
    (State.reholdSlot sites s k).rightBut sites ∧ (State.reholdSlot sites s k).heldRight k := by
  rcases reholdSlot_cases sites s k with ⟨heq, hk⟩ | ⟨x, hx, hd⟩
  · rw [heq]
    refine ⟨h, fun x hx => ?_⟩
    cases hat : s.slotAt x sites
    · exact h k x hx hat
    · exact hk x hx hat
  · refine ⟨fun j y hy hat => ?_, hd.heldRight setSlot_held_right⟩
    refine hd.heldRight (k := j) ?_ y hy
    intro z hz
    rcases eq_or_ne j k with rfl | hne
    · exact setSlot_held_right z hz
    · obtain ⟨z', hz', -, hh⟩ := Slot.some_of_still (hd.slot j) hy
      rw [hz] at hz'
      cases hz'
      rw [State.slot_setSlot_of_ne _ _ _ hne] at hz
      refine h j z hz ?_
      rw [hd.only.slotAt] at hat
      unfold State.slotAt at hat ⊢
      rw [← hh]
      exact hat

theorem foldl_reholdSlot (sites : List SiteId) (l : List SlotId) {s : State} (h : s.rightBut sites) :
    (∀ j, s.heldRight j ∨ j ∈ l → (l.foldl (State.reholdSlot sites) s).heldRight j) := by
  induction l generalizing s with
  | nil => intro j hj; simpa using hj
  | cons k l ih =>
    obtain ⟨hr, hk⟩ := reholdSlot_rightBut sites k h
    intro j hj
    rw [List.foldl_cons]
    refine ih hr j ?_
    rcases hj with hj | hj
    · exact .inl (reholdSlot_keeps_right sites s k hj)
    · rcases List.mem_cons.mp hj with rfl | hj
      · exact .inl hk
      · exact .inr hj

/-- After the recomputation at the sites whose holds changed, every held flag is right. -/
theorem State.heldOk_rehold {s : State} {sites : List SiteId} (h : s.rightBut sites) : (s.rehold sites).heldOk := fun k =>
  foldl_reholdSlot sites _ h k (.inr ((slotsByHandle_perm s).mem_iff.mpr (List.mem_finRange k)))

theorem reholdSlot_core (sites : List SiteId) (s : State) (k j : SlotId) :
    ((State.reholdSlot sites s k).slot j).map Slot.core = (s.slot j).map Slot.core := by
  rcases reholdSlot_cases sites s k with ⟨heq, -⟩ | ⟨x, hx, hd⟩
  · rw [heq]
  · rw [Slot.core_of_still (hd.slot j), State.slot_setSlot]
    split
    · rename_i hj; rw [hj, hx]; rfl
    · rfl

theorem State.alike_rehold (s : State) (sites : List SiteId) : s.Alike (s.rehold sites) where
  chan h := by rw [(rehold_only s sites).chan]
  entry := (rehold_only s sites).entry
  slot k := by
    unfold State.rehold
    generalize s.slotsByHandle = l
    induction l generalizing s with
    | nil => rfl
    | cons j l ih => rw [List.foldl_cons, ih, reholdSlot_core]
  waits := by rw [(rehold_only s sites).waitList]
  site n hn := by rwa [(rehold_only s sites).channels.site]

/-- The holds of the sites outside a list stand. -/
def HoldsBut (sites : List SiteId) (s t : State) : Prop :=
  ∀ n, n ∉ sites → t.sourceHold n = s.sourceHold n ∧ t.destHold n = s.destHold n ∧ t.frozen n = s.frozen n

/-- The holds of some sites change, and the held flags are computed again there (R143). -/
theorem Steady.rehold {s t : State} {sites : List SiteId} (A : s.Alike t) (slots : ∀ k, t.slot k = s.slot k) (hb : HoldsBut sites s t) :
    Steady s (t.rehold sites) := by
  refine ⟨A.trans (t.alike_rehold sites), fun hh => State.heldOk_rehold fun k x hx hat => ?_⟩
  rw [slots] at hx
  rw [hh k x hx]
  have hsrc := Channel.eq_of_core Channel.srcSite (A.chan x.handle)
  have hdst := Channel.eq_of_core Channel.dstSite (A.chan x.handle)
  simp only [State.slotAt, Bool.or_eq_false_iff, List.contains_eq_mem, decide_eq_false_iff_not, hsrc, hdst] at hat
  obtain ⟨hs1, -, hf1⟩ := hb _ hat.1
  obtain ⟨-, hd2, hf2⟩ := hb _ hat.2
  show s.heldBetween _ _ = t.heldBetween _ _
  rw [hsrc, hdst]
  unfold State.heldBetween
  rw [hs1, hf1, hd2, hf2]

end Sys2Proof.Machine
end

section
/-!
SUPPORT. Coherence through the Condition Unit and the return to FREE: rises and falls (R140), shutter placings (R118), a channel left DARK
(R146), one freed (R17), one whose transition completes (R107), and a waiting RESTORE (R149).
-/

namespace Sys2Proof.Machine

open Sys2Proof

/-! ### Rises, falls, swaps and shutter placings -/

theorem State.Alike.setCond (s : State) (n : SiteId) (c : CondRec) : s.Alike (s.setCond n c) :=
  ⟨fun _ => rfl, State.entry_setCond s n c, fun _ => rfl, rfl, fun _ => id⟩

theorem HoldsBut.of_tables {s t : State} {sites : List SiteId} (hc : ∀ n, n ∉ sites → t.cond n = s.cond n)
    (hs : ∀ n, n ∉ sites → t.site n = s.site n) : HoldsBut sites s t := by
  intro n hn
  unfold State.sourceHold State.destHold State.holding State.frozen State.params
  rw [hc n hn, hs n hn]
  exact ⟨rfl, rfl, rfl⟩

/-- A site's condition record changes, items are handed over, and the held flags are computed again at the site. -/
theorem Steady.condChange (s : State) (n : SiteId) (c : CondRec) (items : List Item) :
    Steady s (((s.setCond n c).handOver items).rehold [n]) := by
  refine .rehold ((State.Alike.setCond s n c).trans (Steady.handOver _ _).alike) (fun k => by simp) (.of_tables (fun m hm => ?_) fun m _ => by simp)
  rw [List.mem_singleton] at hm
  rw [State.cond_handOver, State.cond_setCond_of_ne _ _ _ hm]

theorem riseBase_steady (s : State) (n : SiteId) (c : Cond) (l : Level) : Steady s (s.riseBase n c l) := .condChange s n _ _

theorem fallBase_steady (s : State) (n : SiteId) (c : Cond) (l : Level) : Steady s (s.fallBase n c l) :=
  (Steady.condChange s n _ _).trans (.due _ _)

theorem raiseModFault_steady (s : State) (n : SiteId) : Steady s (s.raiseModFault n) := by
  unfold State.raiseModFault
  split
  · exact riseBase_steady s _ _ _
  · exact .refl s

theorem clearModFault_steady (s : State) (n : SiteId) : Steady s (s.clearModFault n) := by
  unfold State.clearModFault
  split
  · exact fallBase_steady s _ _ _
  · exact .refl s

theorem judgeInHigh_steady (s : State) (n : SiteId) (l : Level) : Steady s (s.judgeInHigh n l) := by
  unfold State.judgeInHigh
  dsimp only
  split
  · split
    · exact fallBase_steady s _ _ _
    · exact .refl s
  · split
    · exact riseBase_steady s _ _ _
    · exact .refl s

theorem judgeMonStale_steady (s : State) (n : SiteId) : Steady s (s.judgeMonStale n) := by
  unfold State.judgeMonStale
  dsimp only
  split
  · split
    · exact .refl s
    · exact fallBase_steady s _ _ _
  · split
    · exact riseBase_steady s _ _ _
    · exact .refl s

theorem placeShutter_steady (s : State) (h : Handle) (b : Bool) : Steady s (s.placeShutter h b) := by
  unfold State.placeShutter
  dsimp only
  split
  · rename_i t ht
    have hd := (addShutter_drives ht).steady
    split
    · exact hd.trans (.setChan (h := h) rfl)
    · exact hd
  · have hc : Steady s (s.setChan h { s.chan h with applied := .blocked, unconfirmed := true }) := .setChan rfl
    exact hc.trans (raiseModFault_steady _ _)

/-- A site's record changes in its active parameters, its copy and its fetch state, and the held flags are computed again there. -/
theorem swap_steady (s : State) (n : SiteId) : Steady s (s.swap n) := by
  unfold State.swap
  dsimp only
  split
  · exact .refl s
  · rename_i q _
    refine Steady.trans (Steady.rehold (State.Alike.trans ?_ (Steady.handOver _ _).alike) (fun k => by simp)
      (.of_tables (fun m _ => by simp) fun m hm => ?_)) (.due _ _)
    · refine ⟨fun _ => rfl, State.entry_setSite s n _, fun _ => rfl, rfl, fun m hm => ?_⟩
      rw [State.site_setSite]
      split
      · rename_i h; rw [h] at hm; exact hm
      · exact hm
    · rw [List.mem_singleton] at hm
      rw [State.site_handOver, State.site_setSite_of_ne _ _ _ hm]

/-! ### A channel that stands apart -/

/-- The record of a channel that stands apart may be what it will. -/
theorem State.wellBut.setChan_apart {p : Prop} {s : State} {D : Handle → Prop} {h : Handle} (w : s.wellBut p D) (hD : D h) (c : Channel) :
    (s.setChan h c).wellBut p D := by
  have ne {g : Handle} (hg : ¬D g) : g ≠ h := fun he => hg (he ▸ hD)
  constructor
  · intro g hg
    rw [State.chan_setChan_of_ne _ _ _ (ne hg)]
    exact (w.mapped g hg).move (State.entry_setChan s h c) fun _ => id
  · intro g hg
    rw [State.chan_setChan_of_ne _ _ _ (ne hg)]
    exact w.fits g hg
  · intro r g hr
    rw [State.entry_setChan] at *
    exact w.apart r g hr
  · intro k x hx
    rw [State.chan_setChan_of_ne _ _ _ (ne (w.slots k x hx).1)]
    exact w.slots k x hx
  · intro g hg k hk
    rw [State.chan_setChan_of_ne _ _ _ (ne hg)] at hk
    exact w.slotOf g hg k hk
  · intro e he
    rw [State.chan_setChan_of_ne _ _ _ (ne (w.waits e he).1)]
    exact w.waits e he
  · exact w.once
  · intro g hg hk
    rw [State.chan_setChan_of_ne _ _ _ (ne hg)] at hk
    exact w.waitOf g hg hk
  · exact fun hp => State.heldOk_setChan (w.held hp) fun k x hx hxh => absurd hxh (ne (w.slots k x hx).1)

/-! ### The return to FREE (R17, R22, R23) -/

/-- An entry after a channel has handed it over or released it, and dropped its claim on it (R22, R23). -/
def Entry.release (h : Handle) (e : Entry) : Entry := (e.passOn h).unclaim h

section
variable {h g : Handle} {e : Entry}

theorem Entry.release_of_owner (ho : e.owner = some h) (hc : e.claimant ≠ some h) :
    e.release h = { owner := e.claimant, claimant := none } := by
  unfold Entry.release
  rw [Entry.unclaim_passOn, if_pos ⟨ho, hc⟩]

theorem Entry.release_of_claimant (ho : e.owner ≠ some h) (hc : e.claimant = some h) : e.release h = { e with claimant := none } := by
  unfold Entry.release
  rw [Entry.unclaim_passOn, if_neg (fun hn => ho hn.1), if_pos hc]

theorem Entry.release_of_other (ho : e.owner ≠ some h) (hc : e.claimant ≠ some h) : e.release h = e := by
  unfold Entry.release
  rw [Entry.unclaim_passOn, if_neg (fun hn => ho hn.1), if_neg hc]

/-- What a release leaves: nothing of the channel; the owner another had, or its claimant where the channel owned; the claims of others
where it did not. -/
theorem Entry.release_facts (ha : ∀ g, e.claimant = some g → e.owner ≠ none ∧ e.owner ≠ some g) :
    ((e.release h).owner ≠ some h ∧ (e.release h).claimant ≠ some h) ∧
    (∀ g, g ≠ h → ((e.release h).owner = some g ↔ e.owner = some g ∨ (e.owner = some h ∧ e.claimant = some g))) ∧
    (∀ g, (e.release h).claimant = some g → e.claimant = some g ∧ (e.release h).owner = e.owner) ∧
    (∀ g, g ≠ h → e.claimant = some g → e.owner ≠ some h → (e.release h).claimant = some g) := by
  by_cases ho : e.owner = some h
  · have hc : e.claimant ≠ some h := fun hc => (ha h hc).2 ho
    rw [Entry.release_of_owner ho hc]
    refine ⟨⟨hc, by simp⟩, fun g hg => ?_, by simp, fun g _ _ hn => absurd ho hn⟩
    simp [ho, Ne.symm hg]
  · by_cases hc : e.claimant = some h
    · rw [Entry.release_of_claimant ho hc]
      refine ⟨⟨ho, by simp⟩, fun g _ => by simp [ho], by simp, fun g hg hcg _ => ?_⟩
      rw [hc] at hcg
      exact absurd (Option.some.inj hcg).symm hg
    · rw [Entry.release_of_other ho hc]
      exact ⟨⟨ho, hc⟩, fun g _ => by simp [ho], fun g hg => ⟨hg, rfl⟩, fun g _ hcg _ => hcg⟩

end

/-- A channel's entries are in the footprint of its record. -/
def State.reservesWithin (s : State) (h : Handle) : Prop :=
  ∀ r, (s.entry r).owner = some h ∨ (s.entry r).claimant = some h → r ∈ (s.chan h).footprint

theorem State.mapped.reservesWithin {s : State} {h : Handle} (m : s.mapped h (s.chan h)) : s.reservesWithin h :=
  fun r hr => (m.reserved r hr).2

theorem State.entry_toFree_within {s : State} {h : Handle} (hr : s.reservesWithin h) (doomed : List Handle) (x : EntryRef) :
    (s.toFree h doomed).entry x = (s.entry x).release h := by
  rw [State.entry_toFree]
  split
  · rfl
  · rename_i hx
    rw [Entry.release_of_other (fun ho => hx (hr x (.inl ho))) (fun hc => hx (hr x (.inr hc)))]

theorem State.mapped.release {s t : State} {h g : Handle} {c : Channel} (m : s.mapped g c) (hg : g ≠ h)
    (ha : ∀ r f, (s.entry r).claimant = some f → (s.entry r).owner ≠ none ∧ (s.entry r).owner ≠ some f)
    (he : ∀ r, t.entry r = (s.entry r).release h) (hn : ∀ n, t.site n = s.site n) : t.mapped g c := by
  constructor
  · rw [hn, hn]; exact m.filled
  · intro hf r hr
    obtain ⟨-, owner, -, claimant⟩ := Entry.release_facts (h := h) (ha r)
    rw [he, owner g hg]
    rcases m.owns hf r hr with ho | ⟨hdark, hc⟩
    · exact .inl (.inl ho)
    · by_cases hoh : (s.entry r).owner = some h
      · exact .inl (.inr ⟨hoh, hc⟩)
      · exact .inr ⟨hdark, claimant g hg hc hoh⟩
  · intro r hr
    obtain ⟨-, owner, back, -⟩ := Entry.release_facts (h := h) (ha r)
    rw [he, owner g hg] at hr
    rcases hr with (ho | ⟨-, hc⟩) | hc
    · exact m.reserved r (.inl ho)
    · exact m.reserved r (.inr hc)
    · exact m.reserved r (.inr (back g hc).1)
  · intro r hr
    rw [he] at hr
    exact m.claims r ((Entry.release_facts (ha r)).2.2.1 g hr).1
  · intro r ho hc
    obtain ⟨-, -, back, -⟩ := Entry.release_facts (h := h) (ha r)
    rw [he] at ho hc
    obtain ⟨f, hf⟩ := Option.ne_none_iff_exists'.mp hc
    obtain ⟨hcf, hof⟩ := back f hf
    rw [hof] at ho
    exact m.claimed r ho (by rw [hcf]; exact Option.some_ne_none f)

/-- A record that is FREE agrees with maps that know nothing of it. -/
theorem State.mapped_free {s : State} {h : Handle} (he : ∀ r, (s.entry r).owner ≠ some h ∧ (s.entry r).claimant ≠ some h) :
    s.mapped h {} where
  filled hf := absurd rfl hf
  owns hf := absurd rfl hf
  reserved r hr := hr.elim (fun ho => absurd ho (he r).1) fun hc => absurd hc (he r).2
  claims r hr := absurd hr (he r).2
  claimed r ho := absurd ho (he r).1

theorem Channel.fits_free : ({} : Channel).fits := by constructor <;> simp

section
variable {p : Prop} {s : State} {D : Handle → Prop} {h : Handle}

/-- A channel whose transition has been removed returns to FREE. -/
theorem State.wellBut.toFree_of_dropped (w : (s.dropTransition h).wellBut p fun g => D g ∨ g = h) (hr : s.reservesWithin h)
    (doomed : List Handle) : (s.toFree h doomed).wellBut p D := by
  have entry (r : EntryRef) : (s.toFree h doomed).entry r = ((s.dropTransition h).entry r).release h := by
    rw [State.entry_toFree_within hr, State.entry_dropTransition]
  have chan (g : Handle) : (s.toFree h doomed).chan g = if g = h then {} else (s.dropTransition h).chan g := by
    rw [chan_toFree, chan_dropTransition]
    split <;> rfl
  have site (n : SiteId) : (s.toFree h doomed).site n = (s.dropTransition h).site n := by
    rw [(toFree_channels s h doomed).site, (dropTransition_channels s h).site]
  have facts (r : EntryRef) := Entry.release_facts (h := h) (w.apart r)
  have isHeld {g : Handle} (hg : g ≠ h) : (s.toFree h doomed).isHeld g = (s.dropTransition h).isHeld g := by
    have hc : (s.toFree h doomed).chan g = s.chan g := by rw [chan_toFree, if_neg hg]
    rw [State.isHeld_dropTransition]
    exact (toFree_channels s h doomed).isHeld (by rw [hc]) (by rw [hc])
  have live {g : Handle} (hg : ¬D g) (hne : g ≠ h) : ¬(D g ∨ g = h) := not_or.mpr ⟨hg, hne⟩
  constructor
  · intro g hg
    rw [chan]
    split
    · rename_i hgh
      subst hgh
      exact State.mapped_free fun r => by rw [entry]; exact (facts r).1
    · rename_i hgh
      exact (w.mapped g (live hg hgh)).release hgh w.apart entry site
  · intro g hg
    rw [chan]
    split
    · exact Channel.fits_free
    · rename_i hgh; exact w.fits g (live hg hgh)
  · intro r g hr
    rw [entry] at hr ⊢
    obtain ⟨hc, ho⟩ := (facts r).2.2.1 g hr
    rw [ho]
    exact w.apart r g hc
  · intro k x hx
    rw [State.slot_toFree] at hx
    obtain ⟨hD, hrest⟩ := w.slots k x hx
    rw [not_or] at hD
    rw [chan, if_neg hD.2]
    exact ⟨hD.1, hrest⟩
  · intro g hg k hk
    rw [chan] at hk
    split at hk
    · cases hk
    · rename_i hgh; rw [State.slot_toFree]; exact w.slotOf g (live hg hgh) k hk
  · intro e he
    rw [State.waitList_toFree] at he
    obtain ⟨hD, hrest⟩ := w.waits e he
    rw [not_or] at hD
    rw [chan, if_neg hD.2]
    exact ⟨hD.1, hrest⟩
  · rw [State.waitList_toFree]; exact w.once
  · intro g hg hk
    rw [chan] at hk
    split at hk
    · cases hk
    · rename_i hgh; rw [State.waitList_toFree]; exact w.waitOf g (live hg hgh) hk
  · intro hp k x hx
    rw [State.slot_toFree] at hx
    rw [isHeld (w.slot_ne hx)]
    exact w.held hp k x hx

theorem State.wellBut.toFree (w : s.wellBut p D) (hD : ¬D h) (doomed : List Handle) : (s.toFree h doomed).wellBut p D :=
  (w.dropTransition hD).toFree_of_dropped (w.mapped h hD).reservesWithin doomed

theorem State.dropTransition_of_none (hp : (s.chan h).pending = none) :
    s.dropTransition h = s.setChan h { s.chan h with pending := none, motion := none, desc := none } := by
  unfold State.dropTransition
  rw [hp]

/-- A channel that stands apart, without a transition, returns to FREE. -/
theorem State.wellBut.toFree_apart (w : s.wellBut p fun g => D g ∨ g = h) (hp : (s.chan h).pending = none) (hr : s.reservesWithin h)
    (doomed : List Handle) : (s.toFree h doomed).wellBut p D := by
  refine State.wellBut.toFree_of_dropped ?_ hr doomed
  rw [State.dropTransition_of_none hp]
  exact w.setChan_apart (.inr rfl) _

end

end Sys2Proof.Machine
end

section
/-!
SUPPORT. The events that keep coherence, first part: what waits (R82), the SHUTTER action (R145, R146), restores (R148 to R150), and the
completion of a transition (R107).
-/

namespace Sys2Proof.Machine

open Sys2Proof

/-! ### What is kept -/

/-- The claims of R18 are kept from every state, and coherence with what `p` asks for. -/
structure Kept (s t : State) : Prop where
  claims : s.claimsOk → t.claimsOk
  well : ∀ p, s.well p → t.well p

theorem Kept.refl (s : State) : Kept s s := ⟨id, fun _ => id⟩

theorem Kept.trans {s t u : State} (h : Kept s t) (g : Kept t u) : Kept s u :=
  ⟨fun hs => g.claims (h.claims hs), fun p hs => g.well p (h.well p hs)⟩

theorem Kept.foldl {α : Type} {f : State → α → State} (hf : ∀ s a, Kept s (f s a)) (l : List α) (s : State) : Kept s (l.foldl f s) := by
  induction l generalizing s with
  | nil => exact .refl s
  | cons a l ih => exact (hf s a).trans (ih _)

theorem State.claimsOk.of_entry {s t : State} (hs : s.claimsOk) (he : ∀ r, t.entry r = s.entry r) : t.claimsOk := fun r => by
  rw [he]; exact hs r

theorem Steady.kept {s t : State} (h : Steady s t) : Kept s t :=
  ⟨fun hs => hs.of_entry h.alike.entry, fun _ w => w.steady h⟩

theorem State.claimsOk.toFree {s : State} (hs : s.claimsOk) (h : Handle) (doomed : List Handle) : (s.toFree h doomed).claimsOk := by
  intro r
  rw [State.entry_toFree]
  split
  · unfold Entry.unclaim Entry.passOn
    have := hs r
    split <;> split <;> simp_all
  · exact hs r

/-! ### Offers -/

/-- What a record is while its transition is offered or waits (R12, R81). -/
structure State.offered (s : State) (e : WaitEntry) : Prop where
  mapped : s.mapped e.handle (s.chan e.handle)
  lit : (s.chan e.handle).state ≠ .dark → (s.chan e.handle).shutteredBy = none
  motion : (s.chan e.handle).motion = none
  waitsAs : (s.chan e.handle).waitsAs e
  dest : e.dest = (s.chan e.handle).dstSite
  desc : e.desc = (s.chan e.handle).desc
  restore : e.desc = none ↔ e.kind = .restore

/-- A channel with a transition waiting is DARK or ACTIVE. -/
theorem Channel.waitsAs.state {c : Channel} {e : WaitEntry} (h : c.waitsAs e) : c.state = .dark ∨ c.state = .active := by
  unfold Channel.waitsAs at h
  split at h
  · exact .inl h.1
  · exact .inl h.1
  · exact .inr h
  · exact .inr h
  · exact h.elim

section
variable {p : Prop} {s : State} {D : Handle → Prop} {e : WaitEntry} (w : s.wellBut p fun g => D g ∨ g = e.handle) (hD : ¬D e.handle)
  (o : s.offered e)
include w hD o

theorem State.wellBut.append : (s.append e).wellBut p D := by
  have hfits : ({ s.chan e.handle with pending := some .waiting } : Channel).fits := by
    obtain h | h := o.waitsAs.state <;> refine ⟨?_, ?_, o.lit, ?_, ?_, ?_⟩ <;> simp [h, o.motion]
  have hne : (s.chan e.handle).state ≠ .free := by obtain h | h := o.waitsAs.state <;> simp [h]
  have hjoin := w.join_waiting (c := { s.chan e.handle with pending := some .waiting }) hD
    (o.mapped.restate_same rfl rfl rfl rfl rfl rfl hne) hfits rfl rfl o.waitsAs o.dest o.desc o.restore
  exact hjoin.steady (.due _ _)

end

/-! ### Restores (R148 to R150) -/

theorem restoreOne_kept (site : SiteId) (s : State) (h : Handle) : Kept s (s.restoreOne site h) := by
  unfold State.restoreOne
  dsimp only
  split
  · rename_i hc
    obtain ⟨hshut, hpend⟩ := hc
    split
    · refine ⟨fun hs => hs.of_entry (State.entry_append s _), fun p w => ?_⟩
      have f := w.fits h not_false
      have hdark : (s.chan h).state = .dark := by
        by_contra hn
        rw [f.lit hn] at hshut
        cases hshut
      have hmotion : (s.chan h).motion = none := by
        by_contra hn
        obtain ⟨k, hk⟩ := f.motion.mpr hn
        rw [hpend] at hk
        cases hk
      exact (w.detach_resting hpend).append not_false {
        mapped := w.mapped h not_false
        lit := f.lit
        motion := hmotion
        waitsAs := ⟨hdark, by rw [hshut]; exact Option.some_ne_none site, hshut⟩
        dest := rfl
        desc := (f.resting hpend).symm
        restore := ⟨fun _ => rfl, fun _ => rfl⟩ }
    · exact (Steady.setCond fun d => by cases d <;> rfl).kept
  · exact .refl s

theorem restoreAll_kept (s : State) (site : SiteId) : Kept s (s.restoreAll site) :=
  (Steady.setCond fun d => by cases d <;> rfl).kept.trans (.foldl (restoreOne_kept site) _ _)

theorem expireHoldOff_kept (s : State) (site : SiteId) : Kept s (s.expireHoldOff site) :=
  (Steady.setCond fun d => by cases d <;> rfl).kept.trans (restoreAll_kept _ site)

theorem startHoldOff_kept (s : State) (n : SiteId) : Kept s (s.startHoldOff n) := by
  unfold State.startHoldOff
  dsimp only
  split
  · exact expireHoldOff_kept s n
  · exact (Steady.setCond fun d => by cases d <;> rfl).kept

theorem rerunDeferred_kept (s : State) : Kept s s.rerunDeferred :=
  .foldl (fun t n => by
    unfold State.rerunOne
    split
    · exact restoreAll_kept t n
    · exact .refl t) _ s

/-! ### The SHUTTER action (R145, R146) -/

/-- A record whose transition has been removed. -/
def Channel.rested (c : Channel) : Channel := { c with pending := none, motion := none, desc := none }

theorem State.chan_dropTransition_self (s : State) (h : Handle) : (s.dropTransition h).chan h = (s.chan h).rested := by
  rw [chan_dropTransition, if_pos rfl]; rfl

theorem State.mapped.dropTransition {s : State} {h g : Handle} {c : Channel} (m : s.mapped g c) : (s.dropTransition h).mapped g c :=
  m.move (State.entry_dropTransition s h) fun n hn => by rwa [(dropTransition_channels s h).site]

theorem entry_darken (s : State) (site : SiteId) (h : Handle) (b : Bool) (r : EntryRef) : (s.darken site h b).entry r = s.entry r := by
  unfold State.darken
  dsimp only
  rw [State.entry_handOver]
  split
  · rw [(placeShutter_steady _ h true).alike.entry, State.entry_setChan, (dropLevel_only _ _ _).entry, State.entry_dropTransition]
  · rw [State.entry_setChan, (dropLevel_only _ _ _).entry, State.entry_dropTransition]

/-- A channel that is not FALLING is left DARK. -/
theorem State.wellBut.darken {p : Prop} {s : State} {D : Handle → Prop} (w : s.wellBut p D) {h : Handle} (hD : ¬D h)
    (hfree : (s.chan h).state ≠ .free) (hfall : (s.chan h).state ≠ .falling) (site : SiteId) (b : Bool) :
    (s.darken site h b).wellBut p D := by
  have m := (w.mapped h hD).dropTransition (h := h)
  have hdark : ((s.dropTransition h).dropLevel (s.chan h).dstSite h).mapped h
      { (s.chan h).rested with state := .dark, shutteredBy := some site } := by
    refine State.mapped.move (dropLevel_only _ _ _).entry (fun _ => id) ?_
    by_cases hd : (s.chan h).state = .dark
    · exact m.restate_same rfl rfl rfl rfl rfl hd.symm hfree
    · exact m.restate_unclaimed rfl rfl rfl rfl rfl hfree hd hfall (by simp)
  have hfits : ({ (s.chan h).rested with state := .dark, shutteredBy := some site } : Channel).fits := by
    constructor <;> simp [Channel.rested]
  have hjoin := ((w.dropTransition hD).steady (dropLevel_drives _ (s.chan h).dstSite h).steady).join_resting hdark hfits rfl
  rw [← State.chan_dropTransition_self] at hjoin
  unfold State.darken
  dsimp only
  refine State.wellBut.steady ?_ (.handOver _ _)
  split
  · exact hjoin.steady (placeShutter_steady _ _ _)
  · exact hjoin

theorem endFall_kept (s : State) (h : Handle) : Kept s (s.endFall h) := by
  unfold State.endFall
  dsimp only
  have hp := placeShutter_steady ((s.dropTransition h).dropLevel (s.chan h).dstSite h) h false
  refine Kept.trans ⟨fun hs => ?_, fun p w => ?_⟩ (Steady.handOver _ _).kept
  · refine State.claimsOk.toFree (hs.of_entry fun r => ?_) h []
    rw [hp.alike.entry, (dropLevel_only _ _ _).entry, State.entry_dropTransition]
  · have hc : ((((s.dropTransition h).dropLevel (s.chan h).dstSite h).placeShutter h false).chan h).core = (s.chan h).rested.core := by
      rw [hp.alike.chan, (dropLevel_only _ _ _).chan, State.chan_dropTransition_self]
    refine State.wellBut.toFree_apart (((w.dropTransition not_false).steady (dropLevel_drives _ _ _).steady).steady hp) ?_ ?_ []
    · exact Channel.eq_of_core Channel.pending hc
    · intro r hr
      rw [Channel.eq_of_core Channel.footprint hc]
      rw [hp.alike.entry, (dropLevel_only _ _ _).entry, State.entry_dropTransition] at hr
      exact (w.mapped h not_false).reservesWithin r hr

theorem shutterOne_kept (site : SiteId) (s : State) (h : Handle) : Kept s (s.shutterOne site h) := by
  have dark (b : Bool) (hfree : (s.chan h).state ≠ .free) (hfall : (s.chan h).state ≠ .falling) : Kept s (s.darken site h b) :=
    ⟨fun hs => hs.of_entry (entry_darken s site h b), fun _ w => w.darken not_false hfree hfall site b⟩
  unfold State.shutterOne
  dsimp only
  split
  · exact .refl s
  · split <;> rename_i hst
    · exact .refl s
    · split
      · exact dark _ (by simp [hst]) (by simp [hst])
      · exact .refl s
    · exact dark _ (by simp [hst]) (by simp [hst])
    · exact dark _ (by simp [hst]) (by simp [hst])
    · split
      · exact endFall_kept s h
      · exact dark _ (by simp [hst]) (by simp [hst])
    · exact endFall_kept s h

theorem judgeInLos_kept (s : State) (n : SiteId) (l : Level) : Kept s (s.judgeInLos n l) := by
  unfold State.judgeInLos
  dsimp only
  split
  · split
    · exact (fallBase_steady s _ _ _).kept.trans (startHoldOff_kept _ _)
    · exact .refl s
  · split
    · have hr := (riseBase_steady s n .inLos l).kept
      split
      · exact hr.trans (.foldl (shutterOne_kept n) _ _)
      · exact hr
    · exact .refl s

theorem judgeIngress_kept (s : State) (n : SiteId) : Kept s (s.judgeIngress n) :=
  (judgeInLos_kept s n _).trans (judgeInHigh_steady _ n _).kept

/-! ### The completion of a transition (R107) -/

theorem complete_kept {s : State} {k : SlotId} {x : Slot} (hx : s.slot k = some x) : Kept s (s.complete x) := by
  unfold State.complete
  dsimp only
  refine Kept.trans (Kept.trans ?_ (Steady.handOver _ _).kept) (rerunDeferred_kept _)
  split
  · exact ⟨fun hs => hs.toFree _ [], fun p w => w.toFree not_false []⟩
  · rename_i hk
    refine ⟨fun hs => hs.of_entry fun r => by rw [State.entry_setChan, State.entry_dropTransition], fun p w => ?_⟩
    obtain ⟨-, -, hstate, -⟩ := w.slots k x hx
    have hne : (s.chan x.handle).state ≠ .free ∧ (s.chan x.handle).state ≠ .dark ∧ (s.chan x.handle).state ≠ .falling := by
      rw [hstate]
      revert hk
      cases x.kind <;> simp [TransKind.slotState]
    obtain ⟨hfree, hdark, hfall⟩ := hne
    rw [State.chan_dropTransition_self]
    refine (w.dropTransition not_false).join_resting ?_ ?_ rfl
    · exact (w.mapped _ not_false).dropTransition.restate_unclaimed rfl rfl rfl rfl rfl hfree hdark hfall (by simp)
    · have hshut := (w.fits x.handle not_false).lit hdark
      constructor <;> simp [Channel.rested, hshut]

end Sys2Proof.Machine
end

section
/-!
SUPPORT. Coherence through the Admission Unit (R88 to R92): admissions, an ADJUST complete at once, the pass, an offer, the end of an
event; a RELEASE's takeover (R96) and the placing of an ADOPT (R98).
-/

namespace Sys2Proof.Machine

open Sys2Proof

/-! ### Admissions -/

theorem SameButChannels.heldBetween {s t : State} (h : SameButChannels s t) (a b : SiteId) : t.heldBetween a b = s.heldBetween a b := by
  rw [h]; rfl

/-- What admissibility gives an admission (R84, conditions 1 to 4). -/
theorem State.admissible_facts {s : State} {older : List WaitEntry} {e : WaitEntry} (h : s.admissible older e = true) :
    s.ownsAll e.handle = true ∧ (∃ k, s.freeSlot = some k) ∧ s.isHeld e.handle = false := by
  unfold State.admissible at h
  simp only [Bool.and_eq_true, Bool.not_eq_true'] at h
  obtain ⟨⟨⟨⟨⟨⟨hown, hslot⟩, -⟩, -⟩, hheld⟩, -⟩, -⟩ := h
  exact ⟨hown, Option.isSome_iff_exists.mp hslot, hheld⟩

theorem State.ownsAll_iff {s : State} {h : Handle} :
    s.ownsAll h = true ↔ ∀ r ∈ (s.chan h).footprint, (s.entry r).owner = some h ∧ (s.entry r).claimant ≠ some h := by
  simp [State.ownsAll, List.all_eq_true]

theorem State.slot_of_freeSlot {s : State} {k : SlotId} (h : s.freeSlot = some k) : s.slot k = none :=
  by
  unfold State.freeSlot at h
  exact of_decide_eq_true (List.find?_some h :)

/-- The target computation touches the range flags and the motion target alone. -/
theorem State.aimed_eq (s : State) (c : Channel) (k : TransKind) (preset : Option Nat) :
    ∃ m u o, s.aimed c k preset = { c with motion := some m, underRange := u, overRange := o } := by
  cases k
  case fall => exact ⟨_, c.underRange, c.overRange, rfl⟩
  all_goals exact ⟨_, _, _, rfl⟩

/-- The record a transition has in a slot. -/
def Channel.inSlot (c : Channel) (e : WaitEntry) (k : SlotId) (m : Setting) (u o : Bool) : Channel :=
  { c with motion := some m, underRange := u, overRange := o, state := e.kind.slotState, pending := some (.slot k),
           shutteredBy := if e.kind = .restore then none else c.shutteredBy }

/-- The slot a transition enters (R91). -/
def WaitEntry.toSlot (e : WaitEntry) (swing : Nat) : Slot :=
  { kind := e.kind, handle := e.handle, desc := e.desc, dest := e.dest, restoreSite := e.restoreSite, swing, held := false,
    drive := .stopped }

theorem State.admitEntry_eq {s : State} {e : WaitEntry} {k : SlotId} (hk : s.freeSlot = some k) :
    ∃ w m u o, s.admitEntry e = ((((s.commit e.dest w).setSlot k (some (e.toSlot w))).setChan e.handle
      ((s.chan e.handle).inSlot e k m u o)).dropLevel e.dest e.handle).placeRamp k := by
  obtain ⟨m, u, o, ha⟩ := s.aimed_eq (s.chan e.handle) e.kind e.preset
  refine ⟨s.swing e.kind (s.chan e.handle) e.preset, m, u, o, ?_⟩
  unfold State.admitEntry
  rw [hk]
  dsimp only
  rw [ha]
  rfl

theorem TransKind.slotState_moves (k : TransKind) : k.slotState = .rising ∨ k.slotState = .adjusting ∨ k.slotState = .falling := by
  cases k <;> simp [TransKind.slotState]

theorem State.offered.steady {s t : State} (h : Steady s t) {e : WaitEntry} (o : s.offered e) : t.offered e where
  mapped := o.mapped.alike h.alike (h.alike.chan _)
  lit := by
    rw [Channel.eq_of_core Channel.state (h.alike.chan e.handle), Channel.eq_of_core Channel.shutteredBy (h.alike.chan e.handle)]
    exact o.lit
  motion := (Channel.eq_of_core Channel.motion (h.alike.chan e.handle)).trans o.motion
  waitsAs := Channel.waitsAs_core (h.alike.chan e.handle) rfl o.waitsAs
  dest := o.dest.trans (Channel.eq_of_core Channel.dstSite (h.alike.chan e.handle)).symm
  desc := o.desc.trans (Channel.eq_of_core Channel.desc (h.alike.chan e.handle)).symm
  restore := o.restore

/-- A record offered has no shuttered-by in its slot. -/
theorem State.offered.shutteredBy {s : State} {e : WaitEntry} (o : s.offered e) :
    (if e.kind = .restore then none else (s.chan e.handle).shutteredBy) = none := by
  have hw := o.waitsAs
  unfold Channel.waitsAs at hw
  split at hw <;> rename_i hk <;> simp only [hk, if_true, reduceCtorEq, if_false]
  · exact hw.2
  · exact o.lit (by simp [hw])
  · exact o.lit (by simp [hw])
  · exact hw.elim

/-- A record offered, and owning its footprint, is mapped in its slot as well. -/
theorem State.offered.mapped_inSlot {s : State} {e : WaitEntry} (o : s.offered e) (hown : s.ownsAll e.handle = true) (k : SlotId)
    (m : Setting) (u v : Bool) : s.mapped e.handle ((s.chan e.handle).inSlot e k m u v) := by
  have hown := State.ownsAll_iff.mp hown
  have hfree : e.kind.slotState ≠ .free := by cases e.kind <;> decide
  have unclaims (r : EntryRef) : (s.entry r).claimant ≠ some e.handle := fun hc =>
    (hown r (o.mapped.reserved r (.inr hc)).2).2 hc
  obtain hdark | hact := o.waitsAs.state
  · refine o.mapped.restate rfl rfl rfl rfl rfl (by simp [hdark]) hfree (fun r hr => .inl (hown r hr).1)
      (fun r hc => absurd hc (unclaims r)) fun r ho hc => ?_
    have := o.mapped.claimed r ho hc
    rw [hdark] at this
    cases this
  · exact o.mapped.restate_unclaimed rfl rfl rfl rfl rfl (by simp [hact]) (by simp [hact]) (by simp [hact]) hfree

theorem State.offered.fits_inSlot {s : State} {e : WaitEntry} (o : s.offered e) (k : SlotId) (m : Setting) (u v : Bool) :
    ((s.chan e.handle).inSlot e k m u v).fits := by
  have hs := o.shutteredBy
  have hk := e.kind.slotState_moves
  have hfree : e.kind.slotState ≠ .free := by cases e.kind <;> decide
  have hdark : e.kind.slotState ≠ .dark := by cases e.kind <;> decide
  constructor <;> simp [Channel.inSlot, hs, hk, hfree, hdark]

/-- A state with another Wait List. -/
def State.withWaits (s : State) (l : List WaitEntry) : State := { s with waitList := l }

@[simp] theorem State.withWaits_self (s : State) : s.withWaits s.waitList = s := rfl
@[simp] theorem State.withWaits_withWaits (s : State) (l m : List WaitEntry) : (s.withWaits l).withWaits m = s.withWaits m := rfl
@[simp] theorem State.chan_withWaits (s : State) (l : List WaitEntry) (h : Handle) : (s.withWaits l).chan h = s.chan h := rfl
@[simp] theorem State.slot_withWaits (s : State) (l : List WaitEntry) (k : SlotId) : (s.withWaits l).slot k = s.slot k := rfl
@[simp] theorem State.entry_withWaits (s : State) (l : List WaitEntry) (r : EntryRef) : (s.withWaits l).entry r = s.entry r := by
  cases r <;> rfl

theorem State.mapped.withWaits {s : State} {h : Handle} {c : Channel} (m : s.mapped h c) (l : List WaitEntry) : (s.withWaits l).mapped h c :=
  m.move (s.entry_withWaits l) fun _ => id

theorem State.mapped.withoutWaits {s : State} {h : Handle} {c : Channel} {l : List WaitEntry} (m : (s.withWaits l).mapped h c) :
    s.mapped h c :=
  m.move (fun r => (s.entry_withWaits l r).symm) fun _ => id

section
variable {p : Prop} {s : State} {D : Handle → Prop} {e : WaitEntry} {l : List WaitEntry} (hD : ¬D e.handle)
  (w : (s.withWaits l).wellBut p fun g => D g ∨ g = e.handle) (o : s.offered e)
include hD w o

/-- An admissible transition enters its slot, whatever waits besides (R91). -/
theorem State.wellBut.enter_slot {older : List WaitEntry} (ha : s.admissible older e = true) : ((s.admitEntry e).withWaits l).wellBut p D := by
  obtain ⟨hown, ⟨k, hk⟩, hheld⟩ := State.admissible_facts ha
  obtain ⟨sw, m, u, v, he⟩ := State.admitEntry_eq (e := e) hk
  have hcommit := Steady.commit s e.dest sw
  have hslot : (s.commit e.dest sw).slot k = none := by
    have := hcommit.alike.slot k
    rwa [State.slot_of_freeSlot hk, Option.map_none, Option.map_eq_none_iff] at this
  have hbetween : (s.commit e.dest sw).heldBetween (s.chan e.handle).srcSite (s.chan e.handle).dstSite = false := by
    rw [(commit_only s e.dest sw).channels.heldBetween]; exact hheld
  have hmapped := ((o.mapped_inSlot hown k m u v).alike hcommit.alike rfl).withWaits l
  have hjoin : ((((s.commit e.dest sw).setSlot k (some (e.toSlot sw))).setChan e.handle
      ((s.chan e.handle).inSlot e k m u v)).withWaits l).wellBut p D :=
    (w.steady (hcommit.withWaits rfl)).join_slot hD hmapped (o.fits_inSlot k m u v) rfl hslot rfl rfl o.dest o.desc o.restore
      fun _ => hbetween.symm
  rw [he]
  exact hjoin.steady (((dropLevel_drives _ e.dest e.handle).trans (placeRamp_drives _ k)).steady.withWaits rfl)

omit hD in
/-- An ADJUST complete at once leaves its channel ACTIVE at rest (R92). -/
theorem State.wellBut.completeAdjust (hk : e.kind = .adjust) : ((s.completeAdjust e).withWaits l).wellBut p D := by
  have hact : (s.chan e.handle).state = .active := by
    have := o.waitsAs
    unfold Channel.waitsAs at this
    rwa [hk] at this
  have hshut := o.lit (by simp [hact])
  have hmotion := o.motion
  refine w.join_resting (State.mapped.withWaits ?_ l) ?_ rfl
  · exact o.mapped.restate_same rfl rfl rfl rfl rfl rfl (by simp [hact])
  · constructor <;> simp [hact, hshut, hmotion]

end

/-! ### The pass (R89) and an offer (R88) -/

theorem State.adjustMet_kind {s : State} {e : WaitEntry} (h : s.adjustMet e = true) : e.kind = .adjust := by
  unfold State.adjustMet at h
  simp only [Bool.and_eq_true, decide_eq_true_eq] at h
  exact h.1

theorem adjustDone_steady (s : State) (e : WaitEntry) : Steady s (s.adjustDone e) := by
  unfold State.adjustDone
  split
  · exact .refl s
  · exact .handOver _ _

theorem raiseSkips_core (s : State) (dest : SiteId) (l : List WaitEntry) :
    (s.raiseSkips dest l).map WaitEntry.core = l.map WaitEntry.core := by
  unfold State.raiseSkips
  rw [List.map_map]
  refine List.map_congr_left fun e _ => ?_
  rw [Function.comp_apply]
  split <;> rfl

/-- Skip counts and barrier flags of what waits are nothing to coherence. -/
theorem State.wellBut.raiseSkips {p : Prop} {s : State} {D : Handle → Prop} {a b : List WaitEntry} (w : (s.withWaits (a ++ b)).wellBut p D)
    (dest : SiteId) : (s.withWaits (s.raiseSkips dest a ++ b)).wellBut p D :=
  w.steady ((Steady.refl s).withWaits (by rw [List.map_append, List.map_append, raiseSkips_core]))

/-- A waiting entry is an offer still. -/
theorem State.wellBut.offered {p : Prop} {s : State} {D : Handle → Prop} (w : s.wellBut p D) {e : WaitEntry} (he : e ∈ s.waitList) :
    s.offered e := by
  obtain ⟨hD, hpend, hwaits, hdest, hdesc, hrestore⟩ := w.waits e he
  have f := w.fits e.handle hD
  refine ⟨w.mapped _ hD, f.lit, ?_, hwaits, hdest, hdesc, hrestore⟩
  by_contra hn
  obtain ⟨k, hk⟩ := f.motion.mpr hn
  rw [hpend] at hk
  cases hk

theorem State.offered.withoutWaits {s : State} {e : WaitEntry} {l : List WaitEntry} (o : (s.withWaits l).offered e) : s.offered e :=
  ⟨o.mapped.withoutWaits, o.lit, o.motion, o.waitsAs, o.dest, o.desc, o.restore⟩

/-- A waiting channel stands apart when its entry is taken from the Wait List. -/
theorem State.wellBut.detach_waiting {p : Prop} {s : State} {D : Handle → Prop} {a b : List WaitEntry} {e : WaitEntry}
    (w : (s.withWaits (a ++ e :: b)).wellBut p D) : (s.withWaits (a ++ b)).wellBut p fun g => D g ∨ g = e.handle := by
  have hmem : e ∈ (s.withWaits (a ++ e :: b)).waitList := List.mem_append_right a (List.mem_cons_self ..)
  have hpend : (s.chan e.handle).pending = some .waiting := (w.waits e hmem).2.1
  refine w.detach e.handle (fun _ _ => rfl) (fun _ => by simp) (fun _ => rfl) (fun k x => ⟨fun hx => ⟨hx, ?_⟩, And.left⟩) ?_ id
  · exact w.slot_handle_ne hx (by simp [hpend])
  · have hnd := w.once
    simp only [State.withWaits, List.map_append, List.map_cons] at hnd
    have hnd := (List.nodup_middle.mp hnd)
    obtain ⟨hnot, -⟩ := List.nodup_cons.mp hnd
    rw [← List.map_append, List.mem_map] at hnot
    simp only [not_exists, not_and] at hnot
    have keep (x : WaitEntry) (hx : x ∈ a ++ b) : decide (x.handle ≠ e.handle) = true := decide_eq_true (hnot x hx)
    show a ++ b = (a ++ e :: b).filter fun x => decide (x.handle ≠ e.handle)
    rw [List.filter_append, List.filter_cons_of_neg (by simp), ← List.filter_append, List.filter_eq_self.mpr keep]

theorem entry_admitWaiting (s : State) (e : WaitEntry) (r : EntryRef) : (s.admitWaiting e).entry r = s.entry r := by
  unfold State.admitWaiting
  split
  · exact (State.entry_setChan _ _ _ r).trans ((adjustDone_steady s e).alike.entry r)
  · rw [admitEntry_only]; cases r <;> rfl

theorem passFrom_claims (l : List WaitEntry) {s : State} (hs : s.claimsOk) (older : List WaitEntry) : (s.passFrom older l).claimsOk := by
  induction l generalizing s older with
  | nil => exact hs.of_entry fun r => s.entry_withWaits older r
  | cons e l ih =>
    unfold State.passFrom
    dsimp only
    split
    · exact ih (hs.of_entry (entry_admitWaiting s e)) _
    · exact ih hs _

/-- A pass keeps coherence, of what was tested and kept together with what is still to test. -/
theorem passFrom_well {p : Prop} (l : List WaitEntry) {s : State} {older : List WaitEntry} (w : (s.withWaits (older ++ l)).well p) :
    (s.passFrom older l).well p := by
  induction l generalizing s older with
  | nil => rw [List.append_nil] at w; exact w
  | cons e l ih =>
    unfold State.passFrom
    dsimp only
    split
    · rename_i ha
      have o : s.offered e := (w.offered (List.mem_append_right older (List.mem_cons_self ..))).withoutWaits
      have hd := w.detach_waiting
      refine ih (State.wellBut.raiseSkips ?_ e.dest)
      unfold State.admitWaiting
      split
      · rename_i hm
        have hs := adjustDone_steady s e
        exact State.wellBut.completeAdjust (hd.steady (hs.withWaits rfl)) (o.steady hs) (State.adjustMet_kind hm)
      · exact State.wellBut.enter_slot not_false hd o ha
    · exact ih (by rwa [List.append_assoc])

theorem runPass_kept (s : State) : Kept s s.runPass := by
  unfold State.runPass
  split
  · exact ⟨fun hs => passFrom_claims _ (hs.of_entry fun r => by cases r <;> rfl) [],
      fun p w => passFrom_well _ (w.steady (.of_tables rfl rfl rfl rfl rfl rfl rfl rfl))⟩
  · exact .refl s

theorem finish_kept (before s : State) : Kept s (State.finish before s) := by
  refine Kept.trans (Kept.foldl (fun t n => ?_) _ s) (runPass_kept _)
  unfold State.swapIfQuiet
  split
  · exact (swap_steady t n).kept
  · exact .refl t

theorem entry_offer {s t : State} {e : WaitEntry} (h : (s.offer e).state? = some t) (r : EntryRef) : t.entry r = s.entry r := by
  unfold State.offer at h
  split at h
  · split at h
    · cases h
      exact (State.entry_withWaits _ _ r).trans (State.entry_setChan _ _ _ r)
    · cases h
      refine (State.entry_withWaits _ _ r).trans ?_
      rw [admitEntry_only]; cases r <;> rfl
  · split at h
    · cases h; exact State.entry_append s e r
    · cases h

/-- An offer that is taken, complete or waits joins the channel again. -/
theorem State.wellBut.offer {p : Prop} {s t : State} {D : Handle → Prop} {e : WaitEntry} (hD : ¬D e.handle)
    (w : s.wellBut p fun g => D g ∨ g = e.handle) (o : s.offered e) (h : (s.offer e).state? = some t) : t.wellBut p D := by
  have skips {u v : State} (hu : (u.withWaits s.waitList).wellBut p D) : (u.withWaits (v.raiseSkips e.dest s.waitList)).wellBut p D :=
    hu.steady ((Steady.refl u).withWaits (raiseSkips_core v e.dest _))
  unfold State.offer at h
  split at h
  · rename_i ha
    split at h
    · rename_i hm
      cases h
      exact skips (State.wellBut.completeAdjust w o (State.adjustMet_kind hm))
    · cases h
      rw [State.waitList_admitEntry]
      exact skips (State.wellBut.enter_slot hD w o ha)
  · split at h
    · cases h; exact w.append hD o
    · cases h

end Sys2Proof.Machine
end

section
/-!
SUPPORT. The decisions keep coherence (R71 to R76): the reservation of a footprint (R20), a SETUP's offer, an ADOPT's slot, a RETARGET's
ADJUST, a RELEASE's FALL, its takeover of a slot, and the return to FREE.
-/

namespace Sys2Proof.Machine

open Sys2Proof

/-! ### Reservation (R20, R21) -/

/-- The facts of the checks that a SETUP or an ADOPT has passed (Table 4-2, checks 5 to 9). -/
theorem State.checkNew_eq_ok {s : State} {d : Desc} {need : Bool} {a b : End} {kind : ConnKind}
    (h : s.checkNew d need = .ok (a, b, kind)) :
    (s.chan d.handle).state = .free ∧ kindOf a b = some kind ∧ (1 ≤ d.count ∧ d.count ≤ 16 ∧ d.first + d.count ≤ 320) ∧
    (s.site a.site).state = .enabled ∧ (s.site b.site).state = .enabled := by
  unfold State.checkNew at h
  split at h
  · cases h
  · rename_i hfree
    split at h
    · cases h
    · rename_i a' b' k' hends
      split at h
      · cases h
      · rename_i hrange
        split at h
        · cases h
        · rename_i hon
          split at h
          · cases h
          · split at h
            · cases h
            · cases h
              simp only [Desc.rangeOk, Bool.not_eq_true', decide_eq_false_iff_not, not_not] at hrange
              simp only [State.siteOn, Bool.not_eq_true', Bool.and_eq_false_iff, decide_eq_false_iff_not, not_or, not_not] at hon
              exact ⟨not_not.mp hfree, ((Desc.ends_eq_some d a b kind).mp hends).2.2, hrange, hon⟩

/-- A footprint passes the map checks when every entry of it does. -/
theorem State.checkMaps_eq_none {s : State} {c : Channel} {pass : EntryClass → Bool} (h : s.checkMaps c pass = none) :
    ∀ r ∈ c.footprint, pass (s.classOf r) = true := by
  unfold State.checkMaps at h
  split at h
  · cases h
  · rename_i hs
    split at h
    · cases h
    · rename_i hc
      simp only [Bool.not_eq_true', Bool.not_eq_false, List.all_eq_true] at hs hc
      intro r hr
      rcases List.mem_append.mp hr with hr | hr
      · exact hs r hr
      · exact hc r hr

/-- An entry as a reservation leaves it: as it was, or free and now owned, or with a FALLING owner and now claimed. -/
theorem State.reserved_cases (s : State) (h : Handle) (r : EntryRef) :
    (s.classOf r = .blocking ∧ s.reserved h r = s.entry r) ∨
    (s.classOf r = .free ∧ (s.entry r).owner = none ∧ s.reserved h r = { s.entry r with owner := some h }) ∨
    (s.classOf r = .claimable ∧ (∃ f, (s.entry r).owner = some f ∧ (s.chan f).state = .falling) ∧ (s.entry r).claimant = none ∧
      s.reserved h r = { s.entry r with claimant := some h }) := by
  unfold State.reserved
  split <;> rename_i hc <;> rw [hc]
  · refine .inr (.inl ⟨rfl, ?_, rfl⟩)
    unfold State.classOf at hc
    dsimp only at hc
    split at hc
    · assumption
    · split at hc
      · split at hc <;> cases hc
      · cases hc
  · refine .inr (.inr ⟨rfl, ?_⟩)
    unfold State.classOf at hc
    dsimp only at hc
    split at hc
    · cases hc
    · rename_i f hf
      split at hc
      · rename_i hfall
        split at hc
        · rename_i hn; exact ⟨⟨f, hf, hfall⟩, hn, rfl⟩
        · cases hc
      · cases hc
  · exact .inl ⟨rfl, rfl⟩

theorem reserve_claims {s : State} (hs : s.claimsOk) (h : Handle) (fp : List EntryRef) : (s.reserve h fp).claimsOk := by
  unfold State.reserve
  induction fp generalizing s with
  | nil => exact hs
  | cons r fp ih =>
    refine ih fun x => ?_
    rw [State.entry_reserveOne]
    split
    · rename_i hx
      subst hx
      rcases s.reserved_cases h x with ⟨-, he⟩ | ⟨-, -, he⟩ | ⟨-, ⟨f, hf, -⟩, -, he⟩ <;> rw [he]
      · exact hs x
      · exact fun _ => Option.some_ne_none h
      · exact fun _ => by rw [hf]; exact Option.some_ne_none f
    · exact hs x

section
variable {p : Prop} {s : State} {h : Handle} {c : Channel} (w : s.well p) (hfree : (s.chan h).state = .free)
include w hfree

/-- A FREE channel has nothing in the maps. -/
theorem State.well.free_entries (r : EntryRef) : (s.entry r).owner ≠ some h ∧ (s.entry r).claimant ≠ some h :=
  ⟨fun ho => ((w.mapped h not_false).reserved r (.inl ho)).1 hfree, fun hc => ((w.mapped h not_false).reserved r (.inr hc)).1 hfree⟩

omit w in
/-- The entries of the others after a FREE channel has reserved a footprint: theirs as before, or claimed newly from a FALLING owner. -/
theorem State.reserve_others (fp : List EntryRef) (r : EntryRef) {g : Handle} (hg : g ≠ h) :
    (((s.reserve h fp).entry r).owner = some g ↔ (s.entry r).owner = some g) ∧
    (((s.reserve h fp).entry r).claimant = some g ↔ (s.entry r).claimant = some g) ∧
    (((s.reserve h fp).entry r).owner = some g → ((s.reserve h fp).entry r).claimant ≠ none →
      (s.entry r).claimant ≠ none ∨ (s.chan g).state = .falling) := by
  have hne : (some h : Option Handle) ≠ some g := by simpa using hg.symm
  rw [State.entry_reserve (by simp [hfree])]
  split
  · rcases s.reserved_cases h r with ⟨-, he⟩ | ⟨-, ho, he⟩ | ⟨-, ⟨f, hf, hfall⟩, hc, he⟩ <;> rw [he]
    · exact ⟨.rfl, .rfl, fun _ => .inl⟩
    · exact ⟨by simp [hne, ho], .rfl, fun _ => .inl⟩
    · refine ⟨.rfl, by simp [hne, hc], fun ho _ => .inr ?_⟩
      dsimp only at ho
      rw [hf] at ho
      cases ho
      exact hfall
  · exact ⟨.rfl, .rfl, fun _ => .inl⟩

/-- The entries of a channel that was FREE after it has reserved a footprint that passes. -/
theorem State.well.reserve_own (fp : List EntryRef) (r : EntryRef) :
    (((s.reserve h fp).entry r).owner = some h → r ∈ fp ∧ ((s.reserve h fp).entry r).claimant = none) ∧
    (((s.reserve h fp).entry r).claimant = some h → r ∈ fp ∧ s.classOf r = .claimable ∧ ((s.reserve h fp).entry r).owner ≠ none ∧
      ((s.reserve h fp).entry r).owner ≠ some h) ∧
    (r ∈ fp → (s.classOf r = .free → ((s.reserve h fp).entry r).owner = some h) ∧
      (s.classOf r = .claimable → ((s.reserve h fp).entry r).claimant = some h)) := by
  obtain ⟨hno, hnc⟩ := w.free_entries hfree r
  rw [State.entry_reserve (by simp [hfree])]
  split
  · rename_i hr
    rcases s.reserved_cases h r with ⟨hcl, he⟩ | ⟨hcl, ho, he⟩ | ⟨hcl, ⟨f, hf, hfall⟩, hc, he⟩ <;> rw [he, hcl]
    · exact ⟨fun ho => absurd ho hno, fun hc => absurd hc hnc, fun _ => ⟨nofun, nofun⟩⟩
    · refine ⟨fun _ => ⟨hr, ?_⟩, fun hc => absurd hc hnc, fun _ => ⟨fun _ => rfl, nofun⟩⟩
      by_contra hc
      obtain ⟨g, hg⟩ := Option.ne_none_iff_exists'.mp hc
      exact (w.apart r g hg).1 ho
    · exact ⟨fun ho => absurd ho hno, fun _ => ⟨hr, rfl, by rw [hf]; exact Option.some_ne_none f, hno⟩, fun _ => ⟨nofun, fun _ => rfl⟩⟩
  · rename_i hr
    exact ⟨fun ho => absurd ho hno, fun hc => absurd hc hnc, fun h => absurd h hr⟩

/-- The rest is coherent after a FREE channel has reserved a footprint. -/
theorem State.well.reserve (fp : List EntryRef) : (s.reserve h fp).wellBut p fun g => False ∨ g = h := by
  have only := reserve_only s h fp
  have hpend : (s.chan h).pending = none := (w.fits h not_false).free hfree
  have hd := w.detach_resting hpend
  constructor
  · intro g hg
    have hg' : g ≠ h := fun he => hg (.inr he)
    rw [only.chan]
    have m := w.mapped g not_false
    have o (r : EntryRef) := State.reserve_others hfree fp r hg'
    refine ⟨?_, fun hf r hr => ?_, fun r hr => ?_, fun r hr => ?_, fun r ho hc => ?_⟩
    · intro hf
      have := m.filled hf
      rw [only]
      exact this
    · obtain ⟨ho, hc, -⟩ := o r
      rw [ho, hc]
      exact m.owns hf r hr
    · obtain ⟨ho, hc, -⟩ := o r
      rw [ho, hc] at hr
      exact m.reserved r hr
    · rw [(o r).2.1] at hr
      exact m.claims r hr
    · obtain ⟨ho', -, hf⟩ := o r
      rcases hf ho hc with hc | hf
      · exact m.claimed r (ho'.mp ho) hc
      · exact hf
  · intro g hg
    rw [only.chan]
    exact hd.fits g hg
  · intro r g hr
    by_cases hg : g = h
    · subst hg
      obtain ⟨-, -, hn, ho⟩ := (w.reserve_own hfree fp r).2.1 hr
      exact ⟨hn, ho⟩
    · obtain ⟨ho, hc, -⟩ := State.reserve_others hfree fp r hg
      obtain ⟨hn, ha⟩ := w.apart r g (hc.mp hr)
      exact ⟨reserve_claims w.claimsOk h fp r (by rw [hr]; exact Option.some_ne_none g), fun h => ha (ho.mp h)⟩
  · intro k x hx
    rw [only.slot] at hx
    rw [only.chan]
    exact hd.slots k x hx
  · intro g hg k hk
    rw [only.chan] at hk
    rw [only.slot]
    exact hd.slotOf g hg k hk
  · intro e he
    rw [only.waitList] at he
    rw [only.chan]
    exact hd.waits e he
  · rw [only.waitList]; exact hd.once
  · intro g hg hk
    rw [only.chan] at hk
    rw [only.waitList]
    exact hd.waitOf g hg hk
  · intro hp k x hx
    rw [only.slot] at hx
    rw [w.held hp k x hx, only]
    rfl

end

end Sys2Proof.Machine
end

section
/-!
SUPPORT. The decisions of the five kinds keep coherence (R71 to R76).
-/

namespace Sys2Proof.Machine

open Sys2Proof

/-- A record filled by a check that passed agrees with the maps once its footprint is reserved (R20, R164). -/
theorem State.well.reserve_mapped {p : Prop} {s : State} {h : Handle} {c : Channel} (w : s.well p) (hfree : (s.chan h).state = .free)
    (filled : kindOf c.src c.dst = some c.kind ∧ 1 ≤ c.count ∧ c.count ≤ 16 ∧ c.first + c.count ≤ 320 ∧
      (s.site c.srcSite).state = .enabled ∧ (s.site c.dstSite).state = .enabled) (hc : c.state ≠ .free)
    (pass : ∀ r ∈ c.footprint, s.classOf r = .free ∨ (c.state = .dark ∧ s.classOf r = .claimable)) :
    (s.reserve h c.footprint).mapped h c where
  filled _ := by rw [reserve_only s h c.footprint]; exact filled
  owns _ r hr := by
    obtain ⟨hown, hclaim⟩ := (w.reserve_own hfree c.footprint r).2.2 hr
    rcases pass r hr with hcl | ⟨hdark, hcl⟩
    · exact .inl (hown hcl)
    · exact .inr ⟨hdark, hclaim hcl⟩
  reserved r hr := by
    obtain ⟨hown, hclaim, -⟩ := w.reserve_own hfree c.footprint r
    rcases hr with hr | hr
    · exact ⟨hc, (hown hr).1⟩
    · exact ⟨hc, (hclaim hr).1⟩
  claims r hr := by
    obtain ⟨hin, hcl, -⟩ := (w.reserve_own hfree c.footprint r).2.1 hr
    rcases pass r hin with hfr | ⟨hdark, -⟩
    · rw [hcl] at hfr; cases hfr
    · exact hdark
  claimed r ho hn := absurd ((w.reserve_own hfree c.footprint r).1 ho).2 hn

theorem enterFlight_steady (s : State) (off : Half) : Steady s (s.enterFlight off) := by
  rw [enterFlight_only]
  exact .of_engine rfl

/-- A decision that offers a transition keeps coherence, if the state it offers it in agrees but for the channel of it. -/
theorem Kept.of_offer {s r t : State} {e : WaitEntry} (claims : s.claimsOk → r.claimsOk)
    (well : ∀ p, s.well p → (r.wellBut p fun g => False ∨ g = e.handle) ∧ r.offered e) (h : (r.offer e).state? = some t) : Kept s t :=
  ⟨fun hs => (claims hs).of_entry (entry_offer h), fun p w => State.wellBut.offer not_false (well p w).1 (well p w).2 h⟩

/-- A record written anew is offered, when it agrees with the maps and with the entry. -/
theorem State.offered.of_setChan {s : State} {c : Channel} {e : WaitEntry} (m : s.mapped e.handle c)
    (lit : c.state ≠ .dark → c.shutteredBy = none) (motion : c.motion = none) (waitsAs : c.waitsAs e) (dest : e.dest = c.dstSite)
    (desc : e.desc = c.desc) (restore : e.desc = none ↔ e.kind = .restore) : (s.setChan e.handle c).offered e := by
  have hc := State.chan_setChan_self s e.handle c
  exact ⟨by rw [hc]; exact m.move (State.entry_setChan _ _ _) fun _ => id, by rwa [hc], by rwa [hc], by rwa [hc], by rwa [hc], by rwa [hc],
    restore⟩

theorem State.wellBut.motion_none {p : Prop} {s : State} {D : Handle → Prop} (w : s.wellBut p D) {h : Handle} (hD : ¬D h)
    (hp : (s.chan h).pending = none) : (s.chan h).motion = none := by
  by_contra hn
  obtain ⟨k, hk⟩ := (w.fits h hD).motion.mpr hn
  rw [hp] at hk
  cases hk

theorem decideSetup_kept (s : State) (off : Half) (d : Desc) : Kept s (s.decideSetup off d).1 := by
  unfold State.decideSetup
  split
  · exact .refl s
  · rename_i a b kind hok
    obtain ⟨hfree, hkind, ⟨hlow, hhigh, hrange⟩, ha, hb⟩ := State.checkNew_eq_ok hok
    dsimp only
    split
    · exact .refl s
    · rename_i hpass
      have pass := State.checkMaps_eq_none hpass
      have offer {t : State} (ht : (((s.reserve d.handle (s.filled d off a b kind).footprint).setChan d.handle
          (s.filled d off a b kind)).offer
          { kind := .rise, handle := d.handle, desc := some off, dest := b.site, preset := d.preset }).state? = some t) :
          Kept s (t.enterFlight off) := by
        refine Kept.trans (.of_offer (fun hs => ?_) (fun p w => ⟨?_, ?_⟩) ht) (enterFlight_steady _ _).kept
        · exact State.claimsOk.of_entry (reserve_claims hs d.handle _) (State.entry_setChan _ _ _)
        · exact (w.reserve hfree _).setChan_apart (.inr rfl) _
        · have m : (s.reserve d.handle (s.filled d off a b kind).footprint).mapped d.handle (s.filled d off a b kind) :=
            w.reserve_mapped hfree ⟨hkind, hlow, hhigh, hrange, ha, hb⟩ (by simp [State.filled]) fun r hr => by
              have := pass r hr
              cases hcl : s.classOf r
              case free => exact .inl rfl
              case claimable => exact .inr ⟨rfl, rfl⟩
              case blocking => rw [hcl] at this; cases this
          exact State.offered.of_setChan (e := ⟨.rise, d.handle, some off, b.site, none, d.preset, 0, false⟩) m (fun _ => rfl) rfl
            ⟨rfl, rfl⟩ rfl rfl (by simp)
      split <;> rename_i heq
      · exact offer (by rw [heq]; rfl)
      · exact offer (by rw [heq]; rfl)
      · exact offer (by rw [heq]; rfl)
      · exact .refl s

/-- The placing of an ADOPT (R98). -/
theorem State.wellBut.placeAdopt {p : Prop} {s : State} {h : Handle} {c : Channel} {k : SlotId} {off : Half}
    (w : s.wellBut p fun g => False ∨ g = h) (m : s.mapped h c) (f : c.fits) (hp : c.pending = some (.slot k)) (hk : s.slot k = none)
    (hstate : c.state = .adjusting) (hdesc : c.desc = some off) : ((s.setChan h c).placeAdopt k h off).well p := by
  have hjoin := w.join_slot (x := ⟨.adopt, h, some off, c.dstSite, none, 0, s.heldBetween c.srcSite c.dstSite, .stopped, false⟩)
    not_false m f hp hk rfl hstate rfl hdesc.symm (by simp) fun _ => rfl
  have hheld : (s.setChan h c).isHeld h = s.heldBetween c.srcSite c.dstSite := by
    unfold State.isHeld
    rw [State.chan_setChan_self]
    rfl
  unfold State.placeAdopt
  dsimp only
  rw [hheld, State.chan_setChan_self]
  split
  · exact hjoin.steady (dropLevel_drives _ _ _).steady
  · exact hjoin.steady ((dropLevel_drives _ _ _).trans (placeRamp_drives _ _)).steady

theorem entry_placeAdopt (s : State) (k : SlotId) (h : Handle) (off : Half) (r : EntryRef) :
    (s.placeAdopt k h off).entry r = s.entry r := by
  unfold State.placeAdopt
  dsimp only
  split
  · rw [(dropLevel_only _ _ _).entry, State.entry_setSlot]
  · rw [(placeRamp_only _ _).entry, (dropLevel_only _ _ _).entry, State.entry_setSlot]

/-- The record an ADOPT fills, in its slot (R72, R98). -/
def Channel.adopting (c : Channel) (k : SlotId) (preset : Option Nat) : Channel :=
  { c with state := .adjusting, pending := some (.slot k), motion := some (.att (preset.getD 200)) }

theorem decideAdopt_kept (s : State) (off : Half) (d : Desc) : Kept s (s.decideAdopt off d).1 := by
  unfold State.decideAdopt
  split
  · exact .refl s
  · rename_i a b kind hok
    obtain ⟨hfree, hkind, ⟨hlow, hhigh, hrange⟩, ha, hb⟩ := State.checkNew_eq_ok hok
    dsimp only
    split
    · exact .refl s
    · rename_i hpass
      have pass := State.checkMaps_eq_none hpass
      split
      · exact .refl s
      · rename_i k hk
        show Kept s (State.enterFlight (State.placeAdopt (State.setChan (s.reserve d.handle (s.filled d off a b kind).footprint) d.handle
          ((s.filled d off a b kind).adopting k d.preset)) k d.handle off) off)
        refine Kept.trans ⟨fun hs => ?_, fun p w => ?_⟩ (enterFlight_steady _ off).kept
        · refine State.claimsOk.of_entry (reserve_claims hs d.handle (s.filled d off a b kind).footprint) fun r => ?_
          rw [entry_placeAdopt, State.entry_setChan]
        · refine State.wellBut.placeAdopt (w.reserve hfree _) ?_ ?_ rfl ?_ rfl rfl
          · exact State.well.reserve_mapped (c := (s.filled d off a b kind).adopting k d.preset) w hfree ⟨hkind, hlow, hhigh, hrange, ha, hb⟩ (by simp [Channel.adopting])
              fun r hr => .inl (of_decide_eq_true (pass r hr))
          · constructor <;> simp [State.filled, Channel.adopting]
          · rw [(reserve_only s d.handle _).slot]
            exact State.slot_of_freeSlot hk

/-- A RETARGET of an ACTIVE channel at rest offers an ADJUST (R73). -/
theorem Kept.of_retarget {s t : State} {h : Handle} {off : Half} {target : Int} {clamped : Bool} {preset : Option Nat}
    (hact : (s.chan h).state = .active) (hpend : (s.chan h).pending = none)
    (ht : ((s.setChan h { s.chan h with target, clamped, desc := some off }).offer
      { kind := .adjust, handle := h, desc := some off, dest := (s.chan h).dstSite, preset }).state? = some t) : Kept s t := by
  refine .of_offer (fun hs => hs.of_entry (State.entry_setChan s _ _)) (fun p w => ⟨?_, ?_⟩) ht
  · exact (w.detach_resting hpend).setChan_apart (.inr rfl) _
  · refine State.offered.of_setChan (e := ⟨.adjust, h, some off, (s.chan h).dstSite, none, preset, 0, false⟩) ?_ (w.fits h not_false).lit
      (w.motion_none not_false hpend) hact rfl rfl (by simp)
    exact (w.mapped h not_false).restate_same rfl rfl rfl rfl rfl rfl (by simp [hact])

theorem decideRetarget_kept (s : State) (off : Half) (d : Desc) : Kept s (s.decideRetarget off d).1 := by
  unfold State.decideRetarget
  dsimp only
  split
  case h_6 hact =>
    split
    · exact .refl s
    · rename_i hpend
      rw [ne_eq, not_not] at hpend
      split
      · exact .refl s
      · split <;> rename_i heq
        · exact (Kept.of_retarget hact hpend (by rw [heq]; rfl)).trans (enterFlight_steady _ _).kept
        · exact Kept.of_retarget hact hpend (by rw [heq]; rfl)
        · exact (Kept.of_retarget hact hpend (by rw [heq]; rfl)).trans (enterFlight_steady _ _).kept
        · exact .refl s
  all_goals exact .refl s

theorem offerFall_kept (s : State) (off : Half) (d : Desc) (hact : (s.chan d.handle).state = .active) (items : List Item) :
    Kept s (s.offerFall (s.dropTransition d.handle) off d items).1 := by
  unfold State.offerFall
  dsimp only
  rw [State.chan_dropTransition_self]
  have offer {t : State} (ht : (((s.dropTransition d.handle).setChan d.handle { (s.chan d.handle).rested with desc := some off }).offer
      { kind := .fall, handle := d.handle, desc := some off, dest := (s.chan d.handle).rested.dstSite }).state? = some t) :
      Kept s (t.enterFlight off) := by
    refine Kept.trans (.of_offer (fun hs => ?_) (fun p w => ⟨?_, ?_⟩) ht) (enterFlight_steady _ _).kept
    · exact hs.of_entry fun r => by rw [State.entry_setChan, State.entry_dropTransition]
    · exact (w.dropTransition not_false).setChan_apart (.inr rfl) _
    · refine State.offered.of_setChan (e := ⟨.fall, d.handle, some off, (s.chan d.handle).rested.dstSite, none, none, 0, false⟩)
        (State.mapped.dropTransition ?_) (w.fits d.handle not_false).lit rfl hact rfl rfl (by simp)
      exact (w.mapped d.handle not_false).restate_same rfl rfl rfl rfl rfl rfl (by simp [hact])
  split <;> rename_i heq
  · exact offer (by rw [heq]; rfl)
  · exact offer (by rw [heq]; rfl)
  · exact offer (by rw [heq]; rfl)
  · exact .refl s

end Sys2Proof.Machine
end

section
/-!
SUPPORT. Coherence through a RELEASE (R74, R96), a teardown (R162) and the changes of a site's state (R157, R161, R163).
-/

namespace Sys2Proof.Machine

open Sys2Proof

/-! ### A RELEASE (R74) -/

/-- A slot turned into a FALL by a RELEASE (R96). -/
def Slot.fallen (x : Slot) (off : Half) (swing : Nat) : Slot :=
  { x with kind := .fall, desc := some off, restoreSite := none, swing, takeover := x.takeover || decide (x.drive = .sent) }

theorem takeOver_eq {s : State} {k : SlotId} {x : Slot} (hx : s.slot k = some x) (h : Handle) (off : Half) :
    ∃ w u, SameButMotion s u ∧ (∀ j, u.slot j = s.slot j) ∧
      (s.takeOver k h off = (u.setSlot k (some (x.fallen off w))).setChan h
          { s.chan h with state := .falling, motion := some .blocked, desc := some off } ∨
       s.takeOver k h off = ((u.setSlot k (some (x.fallen off w))).setChan h
          { s.chan h with state := .falling, motion := some .blocked, desc := some off }).placeRamp k) := by
  refine ⟨s.swing .fall (s.chan h) none, (s.releaseSwing x.dest x.swing).commit x.dest (s.swing .fall (s.chan h) none),
    (releaseSwing_only _ _ _).trans (commit_only _ _ _), fun j => ?_, ?_⟩
  · unfold State.commit State.releaseSwing
    split <;> split <;> rfl
  · unfold State.takeOver
    rw [hx]
    dsimp only
    split
    · exact .inr rfl
    all_goals exact .inl rfl

theorem takeOver_kept {s : State} {k : SlotId} {h : Handle} (off : Half) (hpend : (s.chan h).pending = some (.slot k))
    (hstate : (s.chan h).state = .rising ∨ (s.chan h).state = .adjusting) : Kept s (s.takeOver k h off) := by
  cases hx : s.slot k with
  | none =>
    have : s.takeOver k h off = s := by unfold State.takeOver; rw [hx]
    rw [this]
    exact .refl s
  | some x =>
    obtain ⟨sw, u, hu, hslot, heq⟩ := takeOver_eq hx h off
    have hkept : Kept s ((u.setSlot k (some (x.fallen off sw))).setChan h
        { s.chan h with state := .falling, motion := some .blocked, desc := some off }) := by
      refine ⟨fun hs => hs.of_entry fun r => by rw [State.entry_setChan, State.entry_setSlot, hu.entry], fun p w => ?_⟩
      obtain ⟨y, hy, hyh⟩ := w.slotOf h not_false k hpend
      rw [hx] at hy
      cases hy
      obtain ⟨-, -, -, hdest, -⟩ := w.slots k x hx
      have hbetween := hu.channels.heldBetween
      have hd : (u.setSlot k none).wellBut p fun g => False ∨ g = h := by
        refine w.detach h (fun g _ => hu.chan g) (fun r => (State.entry_setSlot _ _ _ r).trans (hu.entry r))
          (fun n => by rw [State.site_setSlot, hu.channels.site]) (fun j y => ?_) ?_ fun hh j y hy => ?_
        · rw [State.slot_setSlot, hslot]
          constructor
          · intro hj
            split at hj
            · cases hj
            · rename_i hne
              refine ⟨hj, fun he => hne ?_⟩
              have := (w.slots j y hj).2.1
              rw [he, hpend] at this
              cases this
              rfl
          · rintro ⟨hj, hne⟩
            rw [if_neg, hj]
            rintro rfl
            rw [hx] at hj
            cases hj
            exact hne hyh
        · rw [w.filter_waits (by simp [hpend]), State.setSlot_waitList, hu]
        · rw [State.slot_setSlot, hslot] at hy
          split at hy
          · cases hy
          · rw [hh j y hy]
            refine ((hu.channels.trans (setSlot_only u k none).channels).isHeld ?_ ?_).symm <;> rw [State.chan_setSlot, hu.chan]
      have hfree : (s.chan h).state ≠ .free ∧ (s.chan h).state ≠ .dark ∧ (s.chan h).state ≠ .falling := by
        obtain hs | hs := hstate <;> simp [hs]
      obtain ⟨hfree, hdark, hfall⟩ := hfree
      have hshut := (w.fits h not_false).lit hdark
      have hjoin := hd.join_slot (x := x.fallen off sw) (c := { s.chan h with state := .falling, motion := some .blocked, desc := some off })
        not_false ?_ ?_ hpend (State.slot_setSlot_self _ _ _) hyh rfl (hyh ▸ hdest) rfl (by simp [Slot.fallen]) fun hp => ?_
      · rwa [State.setSlot_setSlot] at hjoin
      · refine State.mapped.move (s := s) (fun r => (State.entry_setSlot _ _ _ r).trans (hu.entry r))
          (fun n hn => by rwa [State.site_setSlot, hu.channels.site]) ?_
        exact (w.mapped h not_false).restate_unclaimed rfl rfl rfl rfl rfl hfree hdark hfall (by simp)
      · constructor <;> simp [hpend, hshut]
      · show x.held = u.heldBetween _ _
        rw [hbetween, w.held hp k x hx, hyh]
        rfl
    rcases heq with heq | heq <;> rw [heq]
    · exact hkept
    · exact hkept.trans (placeRamp_drives _ k).steady.kept

theorem decideRelease_kept (s : State) (off : Half) (d : Desc) : Kept s (s.decideRelease off d).1 := by
  unfold State.decideRelease
  dsimp only
  split <;> rename_i hst
  · exact .refl s
  · exact .refl s
  · exact ⟨fun hs => hs.toFree _ [], fun _ w => w.toFree not_false []⟩
  · split
    · exact .refl s
    · exact offerFall_kept s off d hst _
  · split
    · rename_i hp; exact (takeOver_kept off hp (.inl hst)).trans (enterFlight_steady _ off).kept
    all_goals exact .refl s
  · split
    · rename_i hp; exact (takeOver_kept off hp (.inr hst)).trans (enterFlight_steady _ off).kept
    all_goals exact .refl s

end Sys2Proof.Machine
end

section
/-!
SUPPORT. Coherence through a teardown (R162) and the changes of a site's state (R157, R161, R163).
-/

namespace Sys2Proof.Machine

open Sys2Proof

/-! ### The teardown (R162) -/

theorem cancelOne_eq (s : State) (h : Handle) : Steady (s.dropTransition h) (s.cancelOne h) := .handOver _ _

theorem chan_cancelOne (s : State) (h g : Handle) : (s.cancelOne h).chan g = if g = h then (s.chan h).rested else s.chan g := by
  unfold State.cancelOne
  rw [chan_handOver, chan_dropTransition]
  rfl

theorem entry_cancelOne (s : State) (h : Handle) (r : EntryRef) : (s.cancelOne h).entry r = s.entry r := by
  unfold State.cancelOne
  rw [State.entry_handOver, State.entry_dropTransition]

theorem chan_foldl_cancelOne (l : List Handle) (s : State) (g : Handle) :
    (l.foldl State.cancelOne s).chan g = if g ∈ l then (s.chan g).rested else s.chan g := by
  induction l generalizing s with
  | nil => simp
  | cons h l ih =>
    rw [List.foldl_cons, ih, chan_cancelOne]
    by_cases hg : g = h
    · subst hg; simp [Channel.rested]
    · simp [hg]

theorem entry_foldl {α : Type} {f : State → α → State} (hf : ∀ s a r, (f s a).entry r = s.entry r) (l : List α) (s : State) (r : EntryRef) :
    (l.foldl f s).entry r = s.entry r := by
  induction l generalizing s with
  | nil => rfl
  | cons a l ih => rw [List.foldl_cons, ih, hf]

/-- Teardown step 1: the channels concerned stand apart, without a transition. -/
theorem State.wellBut.cancelAll {p : Prop} {l : List Handle} (hl : l.Nodup) {s : State} {D : Handle → Prop} (w : s.wellBut p D)
    (hD : ∀ h ∈ l, ¬D h) : (l.foldl State.cancelOne s).wellBut p fun g => D g ∨ g ∈ l := by
  induction l generalizing s D with
  | nil => exact w.congr fun g => by simp
  | cons h l ih =>
    obtain ⟨hh, hl⟩ := List.nodup_cons.mp hl
    have w1 := (w.dropTransition (hD h (List.mem_cons_self ..))).steady (cancelOne_eq s h)
    have w2 := ih hl w1 fun g hg => not_or.mpr ⟨hD g (List.mem_cons_of_mem h hg), fun he => hh (he ▸ hg)⟩
    exact w2.congr fun g => by rw [List.mem_cons]; tauto

/-- Teardown step 4: the channels that stand apart, without a transition, return to FREE. -/
theorem State.wellBut.freeAll {p : Prop} (doomed : List Handle) {l : List Handle} (hl : l.Nodup) {s : State}
    (w : s.wellBut p fun g => g ∈ l) (hp : ∀ h ∈ l, (s.chan h).pending = none ∧ s.reservesWithin h) :
    (l.foldl (State.freeDown doomed) s).well p := by
  induction l generalizing s with
  | nil => exact w.congr fun g => by simp
  | cons h l ih =>
    obtain ⟨hh, hl⟩ := List.nodup_cons.mp hl
    obtain ⟨hpend, hres⟩ := hp h (List.mem_cons_self ..)
    have wh : s.wellBut p fun g => g ∈ l ∨ g = h := w.congr fun g => by rw [List.mem_cons]; tauto
    refine ih hl (wh.toFree_apart hpend hres doomed) fun g hg => ?_
    have hne : g ≠ h := fun he => hh (he ▸ hg)
    obtain ⟨hgp, hgr⟩ := hp g (List.mem_cons_of_mem h hg)
    have hc : (State.freeDown doomed s h).chan g = s.chan g := (chan_toFree ..).trans (if_neg hne)
    have entry (r : EntryRef) : (State.freeDown doomed s h).entry r = (s.entry r).release h := State.entry_toFree_within hres doomed r
    refine ⟨by rw [hc]; exact hgp, fun r hr => ?_⟩
    rw [hc]
    rw [entry] at hr
    obtain ⟨-, owner, back, -⟩ := Entry.release_facts (h := h) (w.apart r)
    rcases hr with ho | hcl
    · rcases (owner g hne).mp ho with ho | ⟨-, hcl⟩
      · exact hgr r (.inl ho)
      · exact hgr r (.inr hcl)
    · exact hgr r (.inr (back g hcl).1)

theorem chan_foldl_freeDown (doomed l : List Handle) (s : State) (g : Handle) :
    (l.foldl (State.freeDown doomed) s).chan g = if g ∈ l then {} else s.chan g := by
  induction l generalizing s with
  | nil => simp
  | cons h l ih =>
    rw [List.foldl_cons, ih]
    show (if g ∈ l then _ else (s.toFree h doomed).chan g) = _
    rw [chan_toFree]
    by_cases hg : g = h
    · subst hg; simp
    · simp [hg]

theorem shutterDown_steady (sent : List Handle) (s : State) (h : Handle) : Steady s (s.shutterDown sent h) := by
  unfold State.shutterDown
  split
  · exact placeShutter_steady s h false
  · exact .refl s

/-- Teardown steps 2 and 3. -/
def State.darkDown (s : State) (hs sent : List Handle) : State :=
  hs.foldl (State.shutterDown sent) (hs.foldl State.dropLevelOf s)

theorem darkDown_steady (s : State) (hs sent : List Handle) : Steady s (s.darkDown hs sent) :=
  (Steady.foldl (fun t h => (dropLevel_drives t (t.chan h).dstSite h).steady) hs s).trans (.foldl (shutterDown_steady sent) hs _)

theorem State.tearDown_eq (s : State) (n : SiteId) :
    s.tearDown n = (s.concerned n).foldl (State.freeDown (s.concerned n))
      (((s.concerned n).foldl State.cancelOne s).darkDown (s.concerned n) ((s.concerned n).filter s.rampSent)) := rfl

theorem State.concerned_nodup (s : State) (n : SiteId) : (s.concerned n).Nodup := (List.nodup_finRange 256).filter _

theorem State.mem_concerned {s : State} {n : SiteId} {h : Handle} :
    h ∈ s.concerned n ↔ (s.chan h).state ≠ .free ∧ ((s.chan h).srcSite = n ∨ (s.chan h).dstSite = n) := by
  simp [State.concerned, allHandles]

/-- No channel has an end at a site. -/
def State.emptyAt (s : State) (n : SiteId) : Prop := ∀ h, (s.chan h).state ≠ .free → (s.chan h).srcSite ≠ n ∧ (s.chan h).dstSite ≠ n

theorem State.claimsOk.freeAll {s : State} (hs : s.claimsOk) (doomed l : List Handle) : (l.foldl (State.freeDown doomed) s).claimsOk := by
  induction l generalizing s with
  | nil => exact hs
  | cons h l ih => exact ih (s := State.freeDown doomed s h) (hs.toFree h doomed)

theorem tearDown_kept (s : State) (n : SiteId) : Kept s (s.tearDown n) := by
  rw [State.tearDown_eq]
  have hd := darkDown_steady ((s.concerned n).foldl State.cancelOne s) (s.concerned n) ((s.concerned n).filter s.rampSent)
  have entry (r : EntryRef) := (hd.alike.entry r).trans (entry_foldl entry_cancelOne _ s r)
  refine ⟨fun hs => (hs.of_entry entry).freeAll _ _, fun p w => ?_⟩
  · have w1 := w.cancelAll (s.concerned_nodup n) fun _ _ => not_false
    refine State.wellBut.freeAll _ (s.concerned_nodup n) ((w1.steady hd).congr fun g => by simp) fun h hh => ?_
    have hc : ((((s.concerned n).foldl State.cancelOne s).darkDown (s.concerned n) ((s.concerned n).filter s.rampSent)).chan h).core =
        (s.chan h).rested.core := by
      rw [hd.alike.chan, chan_foldl_cancelOne, if_pos hh]
    refine ⟨Channel.eq_of_core Channel.pending hc, fun r hr => ?_⟩
    rw [Channel.eq_of_core Channel.footprint hc]
    rw [entry] at hr
    exact (w.mapped h not_false).reservesWithin r hr

/-- A teardown leaves no channel at its site. -/
theorem tearDown_empty (s : State) (n : SiteId) : (s.tearDown n).emptyAt n := by
  intro h hf
  rw [State.tearDown_eq, chan_foldl_freeDown] at *
  split at hf
  · exact absurd rfl hf
  · rename_i hn
    rw [if_neg hn]
    have hd := darkDown_steady ((s.concerned n).foldl State.cancelOne s) (s.concerned n) ((s.concerned n).filter s.rampSent)
    have hc := hd.alike.chan h
    rw [chan_foldl_cancelOne, if_neg hn] at hc
    rw [Channel.eq_of_core Channel.state hc] at hf
    rw [Channel.eq_of_core Channel.srcSite hc, Channel.eq_of_core Channel.dstSite hc]
    rw [State.mem_concerned, not_and_or, not_or] at hn
    exact hn.resolve_left fun h => h hf

/-! ### A site without channels -/

section
variable {p : Prop} {s : State} {n : SiteId}

/-- What changes at a site without channels changes no held flag that should be. -/
theorem State.heldOk_of_empty {t : State} (w : s.well p) (he : s.emptyAt n) (hp : p) (chan : ∀ h, t.chan h = s.chan h)
    (slot : ∀ k, t.slot k = s.slot k) (hb : HoldsBut [n] s t) : t.heldOk := by
  intro k x hx
  rw [slot] at hx
  rw [w.held hp k x hx]
  have hfree : (s.chan x.handle).state ≠ .free := by
    rw [(w.slots k x hx).2.2.1]
    cases x.kind <;> decide
  obtain ⟨hsrc, hdst⟩ := he x.handle hfree
  obtain ⟨hs1, -, hf1⟩ := hb _ (by simpa using hsrc)
  obtain ⟨-, hd2, hf2⟩ := hb _ (by simpa using hdst)
  unfold State.isHeld State.heldBetween
  dsimp only
  rw [chan, hs1, hf1, hd2, hf2]

theorem State.well.setCond_empty (w : s.well p) (he : s.emptyAt n) (c : CondRec) : (s.setCond n c).well p :=
  w.alike (.setCond s n c) fun hp _ => State.heldOk_of_empty w he hp (fun _ => rfl) (fun _ => rfl)
    (.of_tables (fun _ hm => State.cond_setCond_of_ne _ _ _ (by simpa using hm)) fun _ _ => rfl)

theorem State.well.setSite_empty (w : s.well p) (he : s.emptyAt n) (x : Site) : (s.setSite n x).well p where
  mapped h _ := by
    obtain ⟨h1, h2, h3, h4, h5⟩ := w.mapped h not_false
    simp only [← State.entry_setSite s n x] at h2 h3 h4 h5
    refine ⟨fun hf => ?_, h2, h3, h4, h5⟩
    obtain ⟨hsrc, hdst⟩ := he h hf
    rw [State.chan_setSite, State.site_setSite_of_ne _ _ _ hsrc, State.site_setSite_of_ne _ _ _ hdst]
    exact h1 hf
  fits h hD := w.fits h hD
  apart r g := by rw [State.entry_setSite]; exact w.apart r g
  slots := w.slots
  slotOf := w.slotOf
  waits := w.waits
  once := w.once
  waitOf := w.waitOf
  held hp := State.heldOk_of_empty w he hp (fun _ => rfl) (fun _ => rfl)
    (.of_tables (fun _ _ => rfl) fun _ hm => State.site_setSite_of_ne _ _ _ (by simpa using hm))

/-- A site that is not ENABLED has no channel. -/
theorem State.well.empty (w : s.well p) (hn : (s.site n).state ≠ .enabled) : s.emptyAt n := by
  intro h hf
  obtain ⟨-, -, -, -, hsrc, hdst⟩ := (w.mapped h not_false).filled hf
  exact ⟨fun he => hn (he ▸ hsrc), fun he => hn (he ▸ hdst)⟩

end

theorem Kept.setSite_off {s : State} {n : SiteId} (hn : (s.site n).state ≠ .enabled) (x : Site) : Kept s (s.setSite n x) :=
  ⟨fun hs => hs.of_entry (State.entry_setSite s n x), fun _ w => w.setSite_empty (w.empty hn) x⟩

/-! ### The fetch queue (R156) -/

theorem requestSetup_engine (s : State) : s.requestSetup.engine = s.engine := by
  unfold State.requestSetup
  split <;> rfl

theorem settleFairness_engine (s : State) : s.settleFairness.engine = s.engine := by
  unfold State.settleFairness
  split <;> rfl

theorem joinFetch_engine (s : State) (n : SiteId) : (s.joinFetch n).engine = s.engine := by
  unfold State.joinFetch
  rw [requestSetup_engine]
  split <;> rfl

theorem abandonFetch_engine (s : State) (n : SiteId) : (s.abandonFetch n).engine = s.engine := by
  unfold State.abandonFetch
  split
  · rfl
  · split
    · rw [settleFairness_engine, requestSetup_engine]; rfl
    · rfl

theorem Kept.of_engine {s t : State} (h : t.engine = s.engine) : Kept s t := (Steady.of_engine h).kept

/-! ### The Site Store's events -/

theorem siteDown_claims {s : State} (hs : s.claimsOk) (n : SiteId) : (s.siteDown n).claimsOk := by
  unfold State.siteDown
  refine hs.of_entry fun r => ?_
  dsimp only
  rw [State.entry_handOver, State.clearTap, State.clearTap, State.entry_setTap, State.entry_setTap, State.entry_setSite,
    (Steady.of_engine (abandonFetch_engine (s.setCond n {}) n)).alike.entry, State.entry_setCond]

/-- A site without channels goes down. -/
theorem State.well.siteDown {p : Prop} {s : State} {n : SiteId} (w : s.well p) (he : s.emptyAt n) : (s.siteDown n).well p := by
  have A := Steady.of_engine (abandonFetch_engine (s.setCond n {}) n)
  have he' : ((s.setCond n {}).abandonFetch n).emptyAt n := by
    intro h
    rw [Channel.eq_of_core Channel.state (A.alike.chan h), Channel.eq_of_core Channel.srcSite (A.alike.chan h),
      Channel.eq_of_core Channel.dstSite (A.alike.chan h)]
    exact he h
  have w1 : ((s.setCond n {}).abandonFetch n).well p := (w.setCond_empty he {}).steady A
  exact (w1.setSite_empty he' _).steady (((Steady.setTap _ _ _).trans (.setTap _ _ _)).trans (.handOver _ _))

theorem disableSite_kept (s : State) (n : SiteId) : Kept s (s.disableSite n) := by
  unfold State.disableSite
  split <;> rename_i hn
  · exact .refl s
  · exact ⟨fun hs => siteDown_claims hs n, fun p w => w.siteDown (w.empty (by simp [hn]))⟩
  · refine Kept.trans ?_ (finish_kept s _)
    have ht := tearDown_kept s n
    exact ⟨fun hs => siteDown_claims (ht.claims hs) n, fun p w => (ht.well p w).siteDown (tearDown_empty s n)⟩

theorem enableSite_kept {s : State} {n : SiteId} (hn : (s.site n).state ≠ .enabled) : Kept s (s.enableSite n) :=
  (Kept.setSite_off hn _).trans (.of_engine (joinFetch_engine _ n))

theorem reloadSite_kept (s : State) (n : SiteId) : Kept s (s.reloadSite n) := by
  unfold State.reloadSite
  dsimp only
  split
  · refine Kept.trans (Steady.setSite ?_ ?_ ?_).kept (.of_engine (joinFetch_engine _ n)) <;> rfl
  · split
    · refine (Steady.setSite ?_ ?_ ?_).kept <;> rfl
    · exact .refl s
  · refine Kept.trans (Steady.setSite ?_ ?_ ?_).kept (.of_engine (joinFetch_engine _ n)) <;> rfl

theorem enabled_kept {s : State} {n : SiteId} (hn : (s.site n).state ≠ .enabled) (q : Params) (mask : Half) :
    Kept s (s.enabled n q mask) :=
  (((Kept.setSite_off hn _).trans ((Steady.setTap _ _ _).trans (.setTap _ _ _)).kept).trans (Steady.handOver _ _).kept).trans
    (judgeIngress_kept _ n)

theorem reloaded_kept (s : State) (n : SiteId) (q : Params) (mask : Half) : Kept s (s.reloaded n q mask) := by
  unfold State.reloaded
  dsimp only
  split
  · refine Kept.trans (Steady.setSite ?_ ?_ ?_).kept (.of_engine (joinFetch_engine _ n)) <;> rfl
  · split
    · refine Kept.trans (Steady.setSite ?_ ?_ ?_).kept (swap_steady _ n).kept <;> rfl
    · refine (Steady.setSite ?_ ?_ ?_).kept <;> rfl

theorem deliver_kept (s : State) (b : SetupBurst) : Kept s (s.deliver b) := by
  unfold State.deliver
  dsimp only
  split
  · split
    · exact .of_engine (joinFetch_engine s _)
    · exact .refl s
  · split <;> rename_i hn
    · exact enabled_kept (by simp [hn]) _ _
    · exact reloaded_kept s _ _ _
    · exact .refl s

theorem setupDone_kept (s : State) : Kept s s.setupDone := by
  unfold State.setupDone
  split
  · split
    · exact .refl s
    · dsimp only
      refine Kept.trans (Kept.trans ?_ (.of_engine (requestSetup_engine _))) (finish_kept s _)
      refine Kept.trans ?_ (deliver_kept _ _)
      exact .of_engine rfl
  · exact .refl s

end Sys2Proof.Machine
end

section
/-!
SUPPORT. Every command keeps coherence: the walker's placing and the memory path stand outside the engine; the Level Loop, the scan link,
the answers, freezes, ticks and the reset input one by one; and O10 from them.
-/

namespace Sys2Proof.Machine

open Sys2Proof

/-- What happens after a change outside the engine. -/
theorem Kept.after {s t u : State} (h : Kept t u) (he : t.engine = s.engine) : Kept s u := (Kept.of_engine he).trans h

/-! ### The walker (R68 to R70) -/

theorem placeItems_engine (s : State) (l : List Item) : (s.placeItems l).1.engine = s.engine := by
  induction l generalizing s with
  | nil => rfl
  | cons i l ih =>
    unfold State.placeItems
    split
    · rfl
    · rename_i t ht
      rw [ih, placeItem_only ht]
      rfl

theorem walkerPlaces_engine (s : State) : s.walkerPlaces.engine = s.engine := placeItems_engine s _

theorem finishWalk_engine (s : State) : s.finishWalk.engine = s.engine := by
  unfold State.finishWalk
  dsimp only
  split <;> rfl

theorem followChain_engine (s : State) : s.followChain.engine = s.engine := by
  unfold State.followChain
  split
  · rfl
  · dsimp only; split <;> rfl

theorem endWalk_engine (s : State) : s.endWalk.engine = s.engine := by
  unfold State.endWalk
  dsimp only
  split
  · rw [finishWalk_engine, walkerPlaces_engine]
  · exact walkerPlaces_engine s

theorem walkerRun_engine (s : State) : s.walkerRun.engine = s.engine := by
  unfold State.walkerRun
  dsimp only
  split
  · exact walkerPlaces_engine s
  · split
    · rw [finishWalk_engine, walkerPlaces_engine]
    · split
      · rw [endWalk_engine, followChain_engine, walkerPlaces_engine]
      · rw [followChain_engine, walkerPlaces_engine]

theorem enterDeciding_engine (s : State) : s.enterDeciding.engine = s.engine := by
  rw [enterDeciding_placing s]; rfl

theorem settle_kept (before : State) (r : Decision) : Kept r.1 (State.settle before r) := by
  have h := finish_kept before r.1
  unfold State.settle
  dsimp only
  generalize State.finish before r.1 = t at h ⊢
  exact h.trans (.of_engine (walkerRun_engine _))

theorem decideStep_kept (s : State) (applies : Half → Desc → Bool) {decision : State → Half → Desc → Decision}
    (h : ∀ t off d, Kept t (decision t off d).1) : Kept s (s.decideStep applies decision) := by
  unfold State.decideStep
  split
  · exact .refl s
  · rename_i off d _
    split
    · exact ((h s.enterDeciding off d).trans (settle_kept _ _)).after (enterDeciding_engine s)
    · exact .refl s

/-! ### The Level Loop and the scan link -/

theorem correctOne_steady (n : SiteId) (s : State) (h : Handle) : Steady s (s.correctOne n h) := by
  unfold State.correctOne
  dsimp only
  split
  · split
    · exact .setChan rfl
    · exact .setChan rfl
    · split
      · refine Steady.trans (.setChan ?_) (setLink_drives _ n _).steady
        rfl
      · refine Steady.trans (.setChan ?_) (placeLevel_drives _ n h _).steady
        rfl
  · exact .refl s

theorem levelLoop_steady (s : State) (n : SiteId) : Steady s (s.levelLoop n) := by
  unfold State.levelLoop
  split
  · exact .foldl (correctOne_steady n) _ s
  · exact .refl s

theorem storeFrame_steady (s : State) (t : TapId) (f : List Byte) : Steady s (s.storeFrame t f) := by
  unfold State.storeFrame
  dsimp only
  split <;> exact .setTap _ _ _

theorem offerFrame_kept (s : State) (t : TapId) (b : Bool) : Kept s (s.offerFrame t b) := by
  unfold State.offerFrame
  dsimp only
  have h1 : Kept s (if b then s.judgeMonStale (tapSite t) else s) := by
    split
    · exact (judgeMonStale_steady s _).kept
    · exact .refl s
  split
  · exact (h1.trans (judgeIngress_kept _ _)).trans (Steady.due _ _).kept
  · exact h1.trans (levelLoop_steady _ _).kept

theorem goodFrame_kept (s : State) (t : TapId) (f : List Byte) : Kept s (s.goodFrame t f) := by
  unfold State.goodFrame
  dsimp only
  split
  · exact ((storeFrame_steady s t f).kept.trans (offerFrame_kept _ t _)).trans (finish_kept s _)
  · exact (storeFrame_steady s t f).kept

theorem scanStep_kept (s : State) (b : Byte) : Kept s (s.scanStep b) := by
  unfold State.scanStep State.takeByte
  split
  · exact .refl s
  · split
    · dsimp only
      split
      · unfold State.endFrame
        dsimp only
        split
        · exact .of_engine rfl
        · exact .of_engine rfl
        · exact (goodFrame_kept _ _ _).after rfl
      · exact .of_engine rfl
    · split
      · exact .of_engine rfl
      · exact .refl s

theorem staleExpires_kept (s : State) (t : TapId) : Kept s (s.staleExpires t) := by
  unfold State.staleExpires
  split
  · exact ((Steady.setTap s t _).kept.trans (judgeMonStale_steady _ _).kept).trans (finish_kept s _)
  · exact .refl s

/-! ### The answers -/

theorem rampAnswer_kept (s : State) (k : SlotId) (a : Setting) (ok : Bool) : Kept s (s.rampAnswer k a ok) := by
  unfold State.rampAnswer
  split
  · exact .refl s
  · rename_i x hx
    split
    · dsimp only
      have hc : Steady s (s.setChan x.handle { s.chan x.handle with applied := a, unconfirmed := false }) := .setChan rfl
      split
      · exact hc.kept.trans (complete_kept (k := k) hx)
      · exact (hc.trans (leaveSent_drives _ k).steady).kept
    · exact (leaveSent_drives s k).steady.kept

theorem channelAnswer_steady (s : State) (h : Handle) (m : SettingMsg) (ok : Bool) : Steady s (s.channelAnswer h m ok) := by
  unfold State.channelAnswer
  dsimp only
  split
  · split
    · exact .setChan rfl
    · exact .refl s
  · exact .setChan rfl
  · exact .refl s

theorem classAnswer_kept (s : State) (o : Outstanding) (ok : Bool) : Kept s (s.classAnswer o ok) := by
  unfold State.classAnswer
  split
  · exact rampAnswer_kept s _ _ ok
  · exact (channelAnswer_steady s _ _ ok).kept
  · exact .refl s

theorem faultAnswer_steady (s : State) (m : SiteId) (ok : Bool) : Steady s (s.faultAnswer m ok) := by
  unfold State.faultAnswer
  split
  · exact clearModFault_steady s m
  · exact raiseModFault_steady s m

theorem closeAnswer_kept (before s : State) (m : SiteId) : Kept s (State.closeAnswer before s m) := by
  unfold State.closeAnswer
  dsimp only
  exact (finish_kept before s).trans ((setLink_drives _ m _).trans (kick_drives _ m)).steady.kept

theorem messageEnds_kept (s : State) (m : SiteId) (ok : Bool) : Kept s (s.messageEnds m ok) := by
  unfold State.messageEnds
  split
  · exact .refl s
  · rename_i o _
    have hclass := ((setLink_drives s m _).steady.kept.trans (classAnswer_kept (s.busy m) o ok)).trans (faultAnswer_steady _ m ok).kept
    exact hclass.trans (closeAnswer_kept s _ m)

theorem takeAck_kept (s : State) (l : SiteId) (m q o : Byte) : Kept s (s.takeAck l m q o) := by
  unfold State.takeAck
  split
  · exact .refl s
  · split
    · exact .refl s
    · split
      · exact messageEnds_kept s l _
      · exact .refl s

theorem ackExpires_kept (s : State) (m : SiteId) : Kept s (s.ackExpires m) := by
  unfold State.ackExpires
  split
  · exact messageEnds_kept s m false
  · exact .refl s

theorem pacingExpires_kept (s : State) (k : SlotId) : Kept s (s.pacingExpires k) := by
  unfold State.pacingExpires
  split
  · exact (placeRamp_drives s k).steady.kept
  · exact .refl s

theorem holdOffExpires_kept (s : State) (n : SiteId) : Kept s (s.holdOffExpires n) := by
  unfold State.holdOffExpires
  split
  · exact (expireHoldOff_kept s n).trans (finish_kept s _)
  · exact .refl s

/-! ### Freezes (R63) -/

theorem site_freezes (v : Bool) (l : List SiteId) (s : State) (n : SiteId) :
    (l.foldl (State.setFreeze v) s).site n = if n ∈ l then { s.site n with frozen := v } else s.site n := by
  induction l generalizing s with
  | nil => simp
  | cons m l ih =>
    rw [List.foldl_cons, ih]
    unfold State.setFreeze
    rw [State.site_setSite]
    by_cases hn : n = m
    · subst hn; simp
    · simp [hn]

theorem freezes_only (v : Bool) (l : List SiteId) (s : State) :
    l.foldl (State.setFreeze v) s = { s with sites := (l.foldl (State.setFreeze v) s).sites } := by
  induction l generalizing s with
  | nil => rfl
  | cons m l ih => rw [List.foldl_cons, ih]; rfl

/-- The freeze flags of some sites are written, and the held flags computed again where one changed (R63, R143). -/
theorem freezes_steady (s : State) (v : Bool) (ns : List SiteId) :
    Steady s ((ns.foldl (State.setFreeze v) s).rehold (ns.filter fun n => s.frozen n != v)) := by
  have only := freezes_only v ns s
  refine .rehold ⟨fun h => by rw [only]; rfl, fun r => by rw [only]; cases r <;> rfl, fun k => by rw [only]; rfl, by rw [only],
    fun n hn => ?_⟩ (fun k => by rw [only]; rfl) fun n hn => ?_
  · rw [site_freezes]
    split <;> exact hn
  · have hcond (m : SiteId) : (ns.foldl (State.setFreeze v) s).cond m = s.cond m := by rw [only]; rfl
    have hactive : ((ns.foldl (State.setFreeze v) s).site n).active = (s.site n).active := by rw [site_freezes]; split <;> rfl
    have hfrozen : ((ns.foldl (State.setFreeze v) s).site n).frozen = (s.site n).frozen := by
      rw [site_freezes]
      split
      · rename_i hm
        simp only [List.mem_filter, hm, true_and, bne_iff_ne, ne_eq, not_not] at hn
        exact hn.symm
      · rfl
    unfold State.sourceHold State.destHold State.holding State.frozen State.params
    rw [hcond, hactive, hfrozen]
    exact ⟨rfl, rfl, rfl⟩

/-! ### Commands and control cells -/

theorem commandFreeze_kept (s : State) (x : BitVec 24) : Kept s (s.commandFreeze x).1 := by
  unfold State.commandFreeze
  split
  · exact .refl s
  · dsimp only
    have hf : (maskSites x).filter (fun n => !s.frozen n) = (maskSites x).filter fun n => s.frozen n != true :=
      List.filter_congr fun n _ => by cases s.frozen n <;> rfl
    rw [hf]
    exact (freezes_steady s true _).kept

theorem commandThaw_kept (s : State) (x : BitVec 24) : Kept s (s.commandThaw x).1 := by
  unfold State.commandThaw
  split
  · exact .refl s
  · dsimp only
    have hf : (maskSites x).filter (fun n => s.frozen n) = (maskSites x).filter fun n => s.frozen n != false :=
      List.filter_congr fun n _ => by cases s.frozen n <;> rfl
    rw [hf]
    exact ((freezes_steady s false _).trans (.due _ _)).kept.trans (finish_kept s _)

theorem commandGo_engine (s : State) (x : BitVec 24) : (s.commandGo x).1.engine = s.engine := by
  unfold State.commandGo
  dsimp only
  split
  · rfl
  · split
    · rfl
    · split <;> rfl

theorem commandHalt_engine (s : State) : s.commandHalt.1.engine = s.engine := by
  unfold State.commandHalt
  split
  · rfl
  · split <;> rfl

theorem commandEnable_kept (s : State) (x : BitVec 24) : Kept s (s.commandEnable x).1 := by
  unfold State.commandEnable
  split
  · exact .refl s
  · split
    · rename_i hn; exact enableSite_kept (by simp [hn])
    · exact .refl s

theorem commandDisable_kept (s : State) (x : BitVec 24) : Kept s (s.commandDisable x).1 := by
  unfold State.commandDisable
  split
  · exact .refl s
  · split
    · exact .refl s
    · exact disableSite_kept s _

theorem commandReload_kept (s : State) (x : BitVec 24) : Kept s (s.commandReload x).1 := by
  unfold State.commandReload
  split
  · exact .refl s
  · split
    · exact reloadSite_kept s _
    · exact .refl s

theorem command_kept (s : State) (code : Byte) (x : BitVec 24) : Kept s (s.command code x).1 := by
  unfold State.command
  split
  · exact .of_engine (commandGo_engine s x)
  · exact .of_engine (commandHalt_engine s)
  · exact commandFreeze_kept s x
  · exact commandThaw_kept s x
  · exact commandEnable_kept s x
  · exact commandDisable_kept s x
  · exact commandReload_kept s x
  · exact .refl s

/-- A command taken is counted, which is nothing to the engine (R60). -/
theorem logCommand_kept {s : State} {r : State × CmdResult} (h : Kept s r.1) (code : Byte) : Kept s (State.logCommand r code) :=
  h.trans (.of_engine rfl)

theorem controlWrite_kept (s : State) (o : Nat) (w : Word) : Kept s (s.controlWrite o w) := by
  unfold State.controlWrite
  split
  · exact logCommand_kept (command_kept s _ _) _
  · split
    · unfold State.offerConsumer
      split <;> exact .of_engine rfl
    · iterate 6
        split
        · exact .of_engine rfl
      exact .refl s

/-! ### The memory path -/

theorem busAccess_engine (s : State) (c : BusCycle) : (s.busAccess c).engine = s.engine := by
  unfold State.busAccess
  split <;> rfl

theorem cellWrite_kept (s : State) (o : Nat) (w : Word) {effect : State → State} (h : ∀ t, Kept t (effect t)) :
    Kept s (s.cellWrite o w effect) := by
  unfold State.cellWrite
  dsimp only
  split
  · exact .of_engine (busAccess_engine s _)
  · exact (h _).after rfl

theorem windowWrite_kept (s : State) (o : Nat) (c : BusCycle) : Kept s (s.windowWrite o c) := by
  unfold State.windowWrite
  split
  · exact .of_engine rfl
  · dsimp only
    split
    · exact (controlWrite_kept _ o _).after rfl
    · exact .of_engine rfl

theorem clearSticky_steady (s : State) (w : StickyWord) (en : BitVec 4) : Steady s (s.clearSticky w en) := by
  unfold State.clearSticky
  split
  · split
    · exact .of_engine rfl
    · refine .setCond fun d => ?_
      cases d <;> simp only [CondRec.flag, CondFlag.readClear] <;> split <;> rfl
  · exact .refl s

theorem viewRead_kept (s : State) (o : Nat) (en : BitVec 4) : Kept s (s.viewRead o en) := by
  unfold State.viewRead
  dsimp only
  split
  · exact .of_engine rfl
  · exact (clearSticky_steady _ _ en).kept.after rfl

theorem windowRead_kept (s : State) (o : Nat) (c : BusCycle) : Kept s (s.windowRead o c) := by
  unfold State.windowRead
  split
  · exact .of_engine rfl
  · split
    · exact viewRead_kept s o _
    · split
      · split <;> exact .of_engine rfl
      · exact .of_engine rfl

theorem arrive_kept (s : State) (c : BusCycle) : Kept s (s.arrive c) := by
  unfold State.arrive
  split
  · exact .of_engine (busAccess_engine s c)
  · split
    · exact .of_engine rfl
    · split
      · exact windowWrite_kept s _ c
      · exact windowRead_kept s _ c

theorem grantController_engine (s : State) : s.grantController.engine = s.engine := by
  unfold State.grantController
  split
  · rfl
  · rw [busAccess_engine]; rfl

theorem grantBurst_engine (s : State) : s.grantBurst.engine = s.engine := by
  unfold State.grantBurst
  split <;> rfl

theorem grant_engine (s : State) : s.grant.engine = s.engine := by
  rcases s.grant_cases with h | h | h | h <;> rw [h]
  · exact grantController_engine s
  · exact grantBurst_engine s
  · rfl

theorem sramWrites_engine (l : List (Nat × Word)) (s : State) : (s.sramWrites l).engine = s.engine := by
  unfold State.sramWrites
  induction l generalizing s with
  | nil => rfl
  | cons w l ih => rw [List.foldl_cons, ih]; rfl

theorem leaveFlight_engine (s : State) (q : Posting) : (s.leaveFlight q).engine = s.engine := by
  unfold State.leaveFlight
  split
  · rfl
  · dsimp only; split <;> rfl

theorem drain_engine (s : State) : s.drain.engine = s.engine := by
  unfold State.drain
  split
  · rfl
  · split
    · rfl
    · rename_i q _ _
      rw [leaveFlight_engine]
      exact sramWrites_engine q.writes s

/-! ### Ticks and the reset input -/

theorem tickSlot_drives (s : State) (k : SlotId) : SameButDrives s (s.tickSlot k) := by
  unfold State.tickSlot
  split
  · exact .refl s
  · rename_i hx
    split
    · exact setSlot_drives hx rfl
    all_goals exact .refl s

theorem tickOnce_kept (s : State) : Kept s s.tickOnce := by
  unfold State.tickOnce
  split
  · exact .refl s
  · refine Steady.kept ?_
    have slots := Steady.foldl (fun t k => (tickSlot_drives t k).steady) allSlots { s with tick := s.tick + 1 }
    have links := Steady.foldl (fun t m => (setLink_drives t m _).steady) (f := State.tickLink) allSites
      (allSlots.foldl State.tickSlot { s with tick := s.tick + 1 })
    have taps := Steady.foldl (fun t a => .setTap t a _) (f := State.tickTap) allTaps
      (allSites.foldl State.tickLink (allSlots.foldl State.tickSlot { s with tick := s.tick + 1 }))
    have conds := Steady.foldl (fun t n => .setCond fun d => by cases d <;> rfl) (f := State.tickCond) allSites
      (allTaps.foldl State.tickTap (allSites.foldl State.tickLink (allSlots.foldl State.tickSlot { s with tick := s.tick + 1 })))
    have begin : Steady s { s with tick := s.tick + 1 } := .of_engine rfl
    exact (((begin.trans slots).trans links).trans taps).trans conds

/-- What an assertion of the reset input abandons, once the writes begun have landed (R52, R65, R122, R180, R182). -/
def State.abandonAll (s : State) (waiting : List BusCycle) : State :=
  let s2 := waiting.foldl State.busAccess { s with inReset := true }
  let s3 := allSites.foldl State.abandonMessage s2
  { s3 with
    port := { s3.port with holder := .none, waiting := [], requests := [], lock := .off }, queue := [], walker := {}, setup := {},
    journal := { s3.journal with handOver := [] }, scan := { s3.scan with inFrame := false, buffer := [] } }

theorem foldl_busAccess_engine (l : List BusCycle) (s : State) : (l.foldl State.busAccess s).engine = s.engine := by
  induction l generalizing s with
  | nil => rfl
  | cons c l ih => rw [List.foldl_cons, ih, busAccess_engine]

theorem abandonAll_steady (s : State) (waiting : List BusCycle) : Steady s (s.abandonAll waiting) := by
  unfold State.abandonAll
  have hbus : Steady s (waiting.foldl State.busAccess { s with inReset := true }) :=
    .of_engine (foldl_busAccess_engine _ _)
  have hmessages := hbus.trans (.foldl (f := State.abandonMessage) (fun t m => (setLink_drives t m _).steady) allSites _)
  dsimp only
  generalize allSites.foldl State.abandonMessage _ = u at hmessages ⊢
  exact hmessages.trans (.of_engine rfl)

theorem assertReset_kept (s : State) (begun : Nat) : Kept s (s.assertReset begun) := by
  unfold State.assertReset
  split
  · exact .refl s
  · split
    · rename_i q _ _ _
      exact (abandonAll_steady (s.sramWrites (q.writes.take begun)) s.port.waiting).kept.after (sramWrites_engine _ s)
    · exact (abandonAll_steady s s.port.waiting).kept

theorem releaseReset_kept (s : State) (straps : BitVec 2) : Kept s (s.releaseReset straps) := by
  unfold State.releaseReset
  split
  · refine ⟨fun _ => resetIsSound.claims.of_entry fun r => by cases r <;> rfl, fun p _ => ?_⟩
    refine State.wellBut.steady (s := State.reset) ?_ (.of_engine rfl)
    exact (State.well_iff p State.reset).mpr ⟨resetIsSound.coherent, fun _ => resetIsSound.held⟩
  · exact .refl s

/-! ### Every command -/

/-- The outcome of a command is another state, in which what was kept is kept. -/
theorem exec_kept (c : Instr) {s t : State} (h : exec c s = .next t) : Kept s t := by
  cases c <;> cases h
  case resetAssert begun => exact assertReset_kept s begun
  case resetRelease straps => exact releaseReset_kept s straps
  case tick => exact tickOnce_kept s
  case go x => exact cellWrite_kept s _ _ fun t => logCommand_kept (.of_engine (commandGo_engine t x)) _
  case halt x => exact cellWrite_kept s _ _ fun t => logCommand_kept (.of_engine (commandHalt_engine t)) _
  case freeze x => exact cellWrite_kept s _ _ fun t => logCommand_kept (commandFreeze_kept t x) _
  case thaw x => exact cellWrite_kept s _ _ fun t => logCommand_kept (commandThaw_kept t x) _
  case enable x => exact cellWrite_kept s _ _ fun t => logCommand_kept (commandEnable_kept t x) _
  case disable x => exact cellWrite_kept s _ _ fun t => logCommand_kept (commandDisable_kept t x) _
  case reload x => exact cellWrite_kept s _ _ fun t => logCommand_kept (commandReload_kept t x) _
  case unknownCommand code x => exact cellWrite_kept s _ _ fun t => logCommand_kept (command_kept t code x) _
  case consumerUpdate v =>
    refine cellWrite_kept s _ _ fun t => ?_
    unfold State.offerConsumer
    split <;> exact .of_engine rfl
  case thresholdWrite cell v => exact cellWrite_kept s _ _ fun t => controlWrite_kept t _ v
  case maskWrite cell v => exact cellWrite_kept s _ _ fun t => controlWrite_kept t _ v
  case probeWrite v => exact cellWrite_kept s _ _ fun t => controlWrite_kept t _ v
  case stickyWordRead w en =>
    split
    · exact .of_engine (busAccess_engine s _)
    · exact viewRead_kept s _ en
  case suppressedWrite o en data => exact arrive_kept s _
  case controllerCycle dir a en data => exact arrive_kept s _
  case lockAssert =>
    unfold State.assertLock
    split <;> exact .of_engine rfl
  case lockDeassert => exact .of_engine rfl
  case lockBroken =>
    unfold State.breakLock
    split
    · exact (Steady.handOver _ _).kept.after rfl
    · exact .refl s
  case arbiterGrant => exact .of_engine (grant_engine s)
  case setup => exact decideStep_kept s _ decideSetup_kept
  case adopt => exact decideStep_kept s _ decideAdopt_kept
  case retarget => exact decideStep_kept s _ decideRetarget_kept
  case release => exact decideStep_kept s _ decideRelease_kept
  case mark => exact decideStep_kept s _ fun t _ _ => .refl t
  case badKind => exact decideStep_kept s _ fun t _ _ => .refl t
  case inFlightRefusal => exact decideStep_kept s _ fun t _ _ => .refl t
  case setupFetchComplete => exact setupDone_kept s
  case postingDrain => exact .of_engine (drain_engine s)
  case walkerPostingPlace =>
    unfold State.resumeWalker
    split
    · exact .of_engine (walkerRun_engine s)
    · exact .refl s
  case handoverPlace =>
    split
    · exact .refl s
    · exact .of_engine (by rw [placeHandOver_only]; rfl)
  case scanByte b => exact scanStep_kept s b
  case byteGapExpiry =>
    unfold State.abandonFrame
    split <;> exact .of_engine rfl
  case staleTimerExpiry tap => exact staleExpires_kept s tap
  case ackReceived l m q o => exact takeAck_kept s l m q o
  case ackTimeout m => exact ackExpires_kept s m
  case pacingExpiry k => exact pacingExpires_kept s k
  case holdOffExpiry n => exact holdOffExpires_kept s n

theorem step_kept {s t : State} (h : step s = .next t) : Kept s t := by
  unfold step at h
  split at h
  · cases h; exact .refl s
  · exact (exec_kept _ h).after rfl

/-- Settles O10: every command, event and completion keeps the claims owned, and coherence with the held flags. -/
theorem stepKeepsClaimsOwned : Obligations.StepKeepsClaimsOwned := by
  refine ⟨fun s t hs h => (step_kept h).claims hs, fun s t hs h => ?_, fun s t hs hh h => ?_⟩
  · exact ((State.well_iff False t).mp ((step_kept h).well False ((State.well_iff False s).mpr ⟨hs, False.elim⟩))).1
  · exact ((State.well_iff True t).mp ((step_kept h).well True ((State.well_iff True s).mpr ⟨hs, fun _ => hh⟩))).2 trivial

end Sys2Proof.Machine
end

section
/-!
SUPPORT. What the recomputation of the held flags does to the slots and the links (R109, R143): the order of the slots that restart
(R79), the effect on one slot, and the effect on all, which is `State.reheld`.
-/

namespace Sys2Proof.Machine

open Sys2Proof

/-! ### The order of the slots (R79) -/

/-- The order in which held flags are recomputed: by handle, and among slots of one handle by number. -/
def State.slotLe (s : State) (j k : SlotId) : Prop :=
  s.slotHandle j < s.slotHandle k ∨ (s.slotHandle j = s.slotHandle k ∧ j ≤ k)

theorem State.slotLe_trans {s : State} {i j k : SlotId} (h : s.slotLe i j) (g : s.slotLe j k) : s.slotLe i k := by
  rcases h with h | ⟨h, hn⟩ <;> rcases g with g | ⟨g, gn⟩
  · exact .inl (h.trans g)
  · exact .inl (g ▸ h)
  · exact .inl (h ▸ g)
  · exact .inr ⟨h.trans g, hn.trans gn⟩

theorem State.slotLe_antisymm {s : State} {j k : SlotId} (h : s.slotLe j k) (g : s.slotLe k j) : j = k := by
  rcases h with h | ⟨h, hn⟩ <;> rcases g with g | ⟨g, gn⟩
  · exact absurd (h.trans g) (Nat.lt_irrefl _)
  · exact absurd (g ▸ h) (Nat.lt_irrefl _)
  · exact absurd (h ▸ g) (Nat.lt_irrefl _)
  · exact Fin.le_antisymm hn gn

/-- Insertion keeps the order, for a slot whose number is below those in the list. -/
theorem orderedInsert_slotLe {s : State} {j : SlotId} {l : List SlotId} (hl : l.Pairwise s.slotLe) (hj : ∀ k ∈ l, j ≤ k) :
    (l.orderedInsert (fun a b => s.slotHandle a ≤ s.slotHandle b) j).Pairwise s.slotLe := by
  induction l with
  | nil => exact List.pairwise_singleton _ _
  | cons k l ih =>
    obtain ⟨hk, hl'⟩ := List.pairwise_cons.mp hl
    obtain ⟨hjk, hjl⟩ := List.forall_mem_cons.mp hj
    rw [List.orderedInsert]
    split
    · rename_i hle
      have first : s.slotLe j k := by
        rcases Nat.lt_or_eq_of_le hle with h | h
        · exact .inl h
        · exact .inr ⟨h, hjk⟩
      refine List.pairwise_cons.mpr ⟨List.forall_mem_cons.mpr ⟨first, fun i hi => State.slotLe_trans first (hk i hi)⟩, hl⟩
    · rename_i hlt
      refine List.pairwise_cons.mpr ⟨fun i hi => ?_, ih hl' hjl⟩
      rcases (List.mem_orderedInsert _).mp hi with rfl | hi
      · exact .inl (Nat.lt_of_not_le hlt)
      · exact hk i hi

theorem slotsByHandle_slotLe (s : State) : s.slotsByHandle.Pairwise s.slotLe := by
  unfold State.slotsByHandle
  have hsorted : allSlots.Pairwise (· ≤ ·) := (List.pairwise_lt_finRange 16).imp Fin.le_of_lt
  generalize allSlots = l at hsorted
  induction l with
  | nil => exact .nil
  | cons j l ih =>
    obtain ⟨hj, hl⟩ := List.pairwise_cons.mp hsorted
    rw [List.insertionSort_cons]
    exact orderedInsert_slotLe (ih hl) fun k hk => hj k ((List.mem_insertionSort _).mp hk)

theorem slotsByHandle_nodup (s : State) : s.slotsByHandle.Nodup := (slotsByHandle_perm s).nodup_iff.mpr (List.nodup_finRange 16)

/-- Does a slot restart and send to a module? -/
def State.restartsAt (s : State) (now : Slot → Bool) (m : SiteId) (k : SlotId) : Bool :=
  (s.slot k).any fun x => decide (x.dest = m) && x.restarts now

theorem State.restartsAt_iff {s : State} {now : Slot → Bool} {m : SiteId} {k : SlotId} :
    s.restartsAt now m k = true ↔ ∃ x, s.slot k = some x ∧ x.dest = m ∧ x.restarts now = true := by
  unfold State.restartsAt
  cases s.slot k <;> simp

theorem State.restarting_pairwise (s : State) (now : Slot → Bool) (m : SiteId) :
    (s.restarting now m).Pairwise fun j k => s.slotLe j k ∧ j ≠ k := by
  have handle {h : Handle} {k : SlotId}
      (hk : k ∈ allSlots.filter fun k => (s.slot k).any fun x => decide (x.handle = h ∧ x.dest = m) && x.restarts now) :
      s.slotHandle k = h.val := by
    have := (List.mem_filter.mp hk).2
    cases hx : s.slot k <;> simp [hx] at this
    simp [State.slotHandle, hx, this]
  unfold State.restarting
  refine List.pairwise_flatMap.mpr ⟨fun h _ => ?_, ?_⟩
  · refine List.Pairwise.imp_of_mem ?_ ((List.pairwise_lt_finRange 16).filter _)
    intro j k hj hk hlt
    exact ⟨.inr ⟨(handle hj).trans (handle hk).symm, Fin.le_of_lt hlt⟩, Fin.ne_of_lt hlt⟩
  · refine (List.pairwise_lt_finRange 256).imp fun {h g} hlt j hj k hk => ?_
    have hval : s.slotHandle j < s.slotHandle k := by rw [handle hj, handle hk]; exact hlt
    exact ⟨.inl hval, fun he => by rw [he] at hval; exact Nat.lt_irrefl _ hval⟩

/-- The slots that restart, in the order in which they are recomputed. -/
theorem State.restarting_eq (s : State) (now : Slot → Bool) (m : SiteId) :
    s.restarting now m = s.slotsByHandle.filter (s.restartsAt now m) := by
  have hp := s.restarting_pairwise now m
  refine List.Perm.eq_of_pairwise (le := s.slotLe) (fun j k _ _ => State.slotLe_antisymm) (hp.imp And.left)
    ((slotsByHandle_slotLe s).filter _) ?_
  refine (List.perm_ext_iff_of_nodup (hp.imp And.right) ((slotsByHandle_nodup s).filter _)).mpr fun k => ?_
  rw [State.mem_restarting, ← State.restartsAt_iff, List.mem_filter]
  exact ⟨fun h => ⟨(slotsByHandle_perm s).mem_iff.mpr (List.mem_finRange k), h⟩, And.right⟩

/-! ### Slots and links, some of the slots recomputed -/

/-- Is a slot's request withdrawn from a module's queue? -/
def State.withdrawsAt (s : State) (now : Slot → Bool) (m : SiteId) (k : SlotId) : Bool :=
  (s.slot k).any fun x => x.stops now && decide (x.drive = .queued ∧ x.dest = m)

/-- Does a request stay when those of some slots are withdrawn? -/
def Request.stays (gone : SlotId → Bool) : Request → Bool
  | .ramp k => !gone k
  | .level _ _ => true

/-- A slot after the recomputation, when those of `l` have been recomputed. -/
def State.slotAfter (s : State) (now : Slot → Bool) (l : List SlotId) (k : SlotId) (x : Slot) : Slot :=
  if x.stops now then { x with held := true, drive := x.drive.stop }
  else if x.restarts now then
    { x with held := false, takeover := false,
             drive := if (s.link x.dest).out = none ∧ (l.filter (s.restartsAt now x.dest)).head? = some k then .sent else .queued }
  else { x with held := now x }

/-- The link of an idle module with nothing waiting after some slots have placed their requests. -/
def State.idleAfter (s : State) (m : SiteId) : List SlotId → Link
  | [] => s.link m
  | k :: rest => (s.slot k).elim (s.link m) fun x =>
    (s.link m).sending k (s.rampMessage x x.kind ((s.chan x.handle).motion.getD .blocked)) (rest.map .ramp)

/-- A module's link, when the slots of `l` have been recomputed. -/
def State.linkAfter (s : State) (now : Slot → Bool) (l : List SlotId) (m : SiteId) : Link :=
  if (s.link m).out = none then s.idleAfter m (l.filter (s.restartsAt now m))
  else { s.link m with queue := (s.link m).queue.filter (Request.stays fun k => l.contains k && s.withdrawsAt now m k) ++
    (l.filter (s.restartsAt now m)).map .ramp }

/-- The slots of `l` have been recomputed, and nothing else has happened to slots and links. -/
structure State.reheldOn (s t : State) (now : Slot → Bool) (l : List SlotId) : Prop where
  only : SameButLinks s t
  done : ∀ k ∈ l, t.slot k = (s.slot k).map (s.slotAfter now l k)
  todo : ∀ k, k ∉ l → t.slot k = s.slot k
  link : ∀ m, t.link m = s.linkAfter now l m

theorem State.linkAfter_nil (s : State) (now : Slot → Bool) (m : SiteId) : s.linkAfter now [] m = s.link m := by
  unfold State.linkAfter
  split
  · rfl
  · have : (s.link m).queue.filter (Request.stays fun k => [].contains k && s.withdrawsAt now m k) = (s.link m).queue :=
      List.filter_eq_self.mpr fun r _ => by cases r <;> rfl
    rw [this]
    simp

theorem State.reheldOn_nil (s : State) (now : Slot → Bool) : s.reheldOn s now [] :=
  ⟨.refl s, nofun, fun _ _ => rfl, fun m => (s.linkAfter_nil now m).symm⟩

section
variable {s : State} {now : Slot → Bool} {l : List SlotId} {k : SlotId} {m : SiteId}

theorem Request.stays_append (hk : s.withdrawsAt now m k = false) :
    (Request.stays fun j => (l ++ [k]).contains j && s.withdrawsAt now m j) =
      Request.stays fun j => l.contains j && s.withdrawsAt now m j := by
  funext r
  cases r with
  | level _ _ => rfl
  | ramp j =>
    by_cases hj : j = k
    · subst hj; simp [Request.stays, hk]
    · simp [Request.stays, hj]

/-- A slot that neither stops QUEUED nor restarts at a module leaves its link alone. -/
theorem State.linkAfter_append_other (hw : s.withdrawsAt now m k = false) (hr : s.restartsAt now m k = false) :
    s.linkAfter now (l ++ [k]) m = s.linkAfter now l m := by
  unfold State.linkAfter
  rw [List.filter_append, List.filter_cons_of_neg (by simp [hr]), List.filter_nil, List.append_nil, Request.stays_append hw]

/-- No module has a slot's request that has not been placed, when it is idle with nothing waiting. -/
theorem State.idleAfter_filter {q : List SlotId} (hq : (s.link m).queue = []) (hk : k ∉ q) :
    (s.idleAfter m q).queue.filter (fun r => decide (r ≠ .ramp k)) = (s.idleAfter m q).queue := by
  cases q with
  | nil => simp [State.idleAfter, hq]
  | cons j rest =>
    simp only [State.idleAfter]
    cases s.slot j with
    | none => simp [hq]
    | some x =>
      refine List.filter_eq_self.mpr fun r hr => decide_eq_true ?_
      rintro rfl
      obtain ⟨i, hi, he⟩ := List.mem_map.mp hr
      cases he
      exact hk (List.mem_cons_of_mem _ hi)

theorem State.not_restartsAt_of_withdraws (h : s.withdrawsAt now m k = true) (m' : SiteId) : s.restartsAt now m' k = false := by
  unfold State.withdrawsAt at h
  unfold State.restartsAt
  cases hx : s.slot k with
  | none => rfl
  | some x =>
    simp only [hx, Option.any_some, Bool.and_eq_true, decide_eq_true_eq] at h
    simp [Slot.restarts, h.2.1]

/-- A slot that stops QUEUED has its request withdrawn. -/
theorem State.linkAfter_append_stop (served : (s.link m).out = none → (s.link m).queue = []) (hk : k ∉ l)
    (hw : s.withdrawsAt now m k = true) :
    s.linkAfter now (l ++ [k]) m =
      { s.linkAfter now l m with queue := (s.linkAfter now l m).queue.filter fun r => decide (r ≠ .ramp k) } := by
  have hr := State.not_restartsAt_of_withdraws hw m
  unfold State.linkAfter
  rw [List.filter_append, List.filter_cons_of_neg (by simp [hr]), List.filter_nil, List.append_nil]
  split
  · rename_i ho
    rw [State.idleAfter_filter (served ho) fun h => hk (List.mem_filter.mp h).1]
  · have hplaced : ((l.filter (s.restartsAt now m)).map Request.ramp).filter (fun r => decide (r ≠ .ramp k)) =
        (l.filter (s.restartsAt now m)).map Request.ramp := by
      refine List.filter_eq_self.mpr fun r hr => decide_eq_true ?_
      rintro rfl
      obtain ⟨i, hi, he⟩ := List.mem_map.mp hr
      cases he
      exact hk (List.mem_filter.mp hi).1
    simp only [List.filter_append, hplaced, List.filter_filter]
    congr 2
    refine List.filter_congr fun r _ => ?_
    cases r with
    | level _ _ => simp [Request.stays]
    | ramp j =>
      by_cases hj : j = k
      · subst hj; simp [Request.stays, hw]
      · simp [Request.stays, hj]

/-- A slot that restarts at a module whose link is busy by then joins its queue. -/
theorem State.linkAfter_append_busy (hw : s.withdrawsAt now m k = false) (hr : s.restartsAt now m k = true)
    (hb : (s.linkAfter now l m).out ≠ none) :
    s.linkAfter now (l ++ [k]) m = { s.linkAfter now l m with queue := (s.linkAfter now l m).queue ++ [.ramp k] } := by
  unfold State.linkAfter at *
  rw [List.filter_append, List.filter_cons_of_pos hr, List.filter_nil, Request.stays_append hw]
  split
  · rename_i ho
    rw [if_pos ho] at hb
    cases hq : l.filter (s.restartsAt now m) with
    | nil => rw [hq] at hb; exact absurd ho hb
    | cons j rest =>
      have hj : s.restartsAt now m j = true := (List.mem_filter.mp (hq ▸ List.mem_cons_self .. : j ∈ l.filter (s.restartsAt now m))).2
      obtain ⟨x, hx, -, -⟩ := State.restartsAt_iff.mp hj
      simp [State.idleAfter, hx, Link.sending]
  · simp

/-- The first slot that restarts at an idle module is sent its message. -/
theorem State.linkAfter_append_idle (hr : s.restartsAt now m k = true) (hi : (s.linkAfter now l m).out = none) :
    (s.link m).out = none ∧ l.filter (s.restartsAt now m) = [] ∧ s.linkAfter now l m = s.link m ∧
    s.linkAfter now (l ++ [k]) m = s.idleAfter m [k] := by
  unfold State.linkAfter at *
  rw [List.filter_append, List.filter_cons_of_pos hr, List.filter_nil]
  by_cases ho : (s.link m).out = none
  · rw [if_pos ho] at hi ⊢
    cases hq : l.filter (s.restartsAt now m) with
    | nil => exact ⟨ho, rfl, rfl, by rw [if_pos ho]; rfl⟩
    | cons j rest =>
      have hj : s.restartsAt now m j = true := (List.mem_filter.mp (hq ▸ List.mem_cons_self .. : j ∈ l.filter (s.restartsAt now m))).2
      obtain ⟨x, hx, -, -⟩ := State.restartsAt_iff.mp hj
      rw [hq] at hi
      simp [State.idleAfter, hx, Link.sending] at hi
  · rw [if_neg ho] at hi
    exact absurd hi ho

/-! ### One slot more -/

variable {t t' : State}

/-- A slot that was recomputed stays what it became when another follows it. -/
theorem State.slotAfter_append {x : Slot} (hx : s.slot k = some x) (hk : k ∈ l) (j : SlotId) :
    s.slotAfter now (l ++ [j]) k x = s.slotAfter now l k x := by
  unfold State.slotAfter
  split
  · rfl
  · split
    · rename_i hr
      have hat : s.restartsAt now x.dest k = true := State.restartsAt_iff.mpr ⟨x, hx, rfl, hr⟩
      have hmem : k ∈ l.filter (s.restartsAt now x.dest) := List.mem_filter.mpr ⟨hk, hat⟩
      rw [List.filter_append]
      cases hq : l.filter (s.restartsAt now x.dest) with
      | nil => rw [hq] at hmem; cases hmem
      | cons i rest => rfl
    · rfl

/-- One slot more has been recomputed. -/
theorem State.reheldOn.append (w : s.reheldOn t now l) (hk : k ∉ l) (only : SameButLinks t t')
    (others : ∀ j, j ≠ k → t'.slot j = t.slot j) (mine : t'.slot k = (s.slot k).map (s.slotAfter now (l ++ [k]) k))
    (link : ∀ m, t'.link m = s.linkAfter now (l ++ [k]) m) : s.reheldOn t' now (l ++ [k]) := by
  refine ⟨w.only.trans only, fun j hj => ?_, fun j hj => ?_, link⟩
  · rcases List.mem_append.mp hj with hj | hj
    · have hne : j ≠ k := fun he => hk (he ▸ hj)
      rw [others j hne, w.done j hj]
      cases hx : s.slot j with
      | none => rfl
      | some x => rw [Option.map_some, Option.map_some, State.slotAfter_append hx hj]
    · rw [List.mem_singleton.mp hj]
      exact mine
  · rw [List.mem_append, not_or, List.mem_singleton] at hj
    rw [others j hj.2, w.todo j hj.1]

theorem State.withdrawsAt_some {x : Slot} (hx : s.slot k = some x) (m : SiteId) :
    s.withdrawsAt now m k = (x.stops now && decide (x.drive = .queued ∧ x.dest = m)) := by
  unfold State.withdrawsAt
  rw [hx, Option.any_some]

theorem State.restartsAt_some {x : Slot} (hx : s.slot k = some x) (m : SiteId) :
    s.restartsAt now m k = (decide (x.dest = m) && x.restarts now) := by
  unfold State.restartsAt
  rw [hx, Option.any_some]

section
variable {x : Slot} (w : s.reheldOn t now l) (hk : k ∉ l) (hx : s.slot k = some x)
include w hk hx

/-- A slot that neither stops QUEUED nor restarts is rewritten alone. -/
theorem State.reheldOn.rewrite {y : Slot} (hw : (x.stops now && decide (x.drive = .queued)) = false) (hr : x.restarts now = false)
    (hy : s.slotAfter now (l ++ [k]) k x = y) : s.reheldOn (t.setSlot k (some y)) now (l ++ [k]) := by
  refine w.append hk (setSlot_only _ _ _) (fun j hj => State.slot_setSlot_of_ne _ _ _ hj) ?_ fun m => ?_
  · rw [State.slot_setSlot_self, hx, Option.map_some, hy]
  · rw [State.link_setSlot, w.link, State.linkAfter_append_other]
    · rw [State.withdrawsAt_some hx]
      cases hs : x.stops now
      · rfl
      · rw [hs, Bool.true_and, decide_eq_false_iff_not] at hw
        simp [hw]
    · rw [State.restartsAt_some hx, hr, Bool.and_false]

/-- A held flag sets: the slot is stopped. -/
theorem State.reheldOn.stop (served : ∀ m, (s.link m).out = none → (s.link m).queue = []) (h : x.stops now = true) :
    s.reheldOn ((t.setSlot k (some { x with held := true })).stopSlot k) now (l ++ [k]) := by
  have hr (m : SiteId) : s.restartsAt now m k = false := by
    rw [State.restartsAt_some hx]
    have := Slot.not_stops_and_restarts now x
    simp_all
  have mine : s.slotAfter now (l ++ [k]) k x = { x with held := true, drive := x.drive.stop } := by unfold State.slotAfter; rw [if_pos h]
  have hres : x.restarts now = false := by simpa [State.restartsAt_some hx] using hr x.dest
  by_cases hq : x.drive = .queued
  · have heq : (t.setSlot k (some { x with held := true })).stopSlot k =
        (t.withdrawRamp x.dest k).setSlot k (some { x with held := true, drive := .stopped }) := by
      simp [State.stopSlot, hq, State.withdrawRamp, State.setLink_setSlot]
    rw [heq]
    refine w.append hk ((withdrawRamp_only _ _ _).trans (setSlot_only _ _ _)) (fun j hj => ?_) ?_ fun m => ?_
    · rw [State.slot_setSlot_of_ne _ _ _ hj]; rfl
    · rw [State.slot_setSlot_self, hx, Option.map_some, mine, hq]; rfl
    · rw [State.link_setSlot]
      by_cases hm : m = x.dest
      · subst hm
        rw [State.linkAfter_append_stop (served _) hk (by rw [State.withdrawsAt_some hx, h]; simp [hq]), ← w.link]
        exact State.link_setLink_self _ _ _
      · rw [State.linkAfter_append_other (by rw [State.withdrawsAt_some hx]; simp [Ne.symm hm]) (hr m), ← w.link]
        exact State.link_setLink_of_ne _ _ _ hm
  · have heq : (t.setSlot k (some { x with held := true })).stopSlot k =
        t.setSlot k (some { x with held := true, drive := x.drive.stop }) := by
      unfold State.stopSlot
      rw [State.slot_setSlot_self]
      dsimp only
      split <;> rename_i hd
      · exact absurd hd hq
      · rw [State.setSlot_setSlot, hd]; rfl
      · rw [hd]; rfl
      · rw [hd]; rfl
    rw [heq]
    exact w.rewrite hk hx (by simp [hq]) hres mine

/-- The held flag of a STOPPED slot clears: its request is placed. -/
theorem State.reheldOn.restart (served : ∀ m, (s.link m).out = none → (s.link m).shutters = [] ∧ (s.link m).queue = [])
    (h : x.restarts now = true) : s.reheldOn ((t.setSlot k (some { x with held := false })).placeRamp k) now (l ++ [k]) := by
  have hs : x.stops now = false := by
    have := Slot.not_stops_and_restarts now x
    simp_all
  have hat : s.restartsAt now x.dest k = true := by rw [State.restartsAt_some hx, h]; simp
  have hw (m : SiteId) : s.withdrawsAt now m k = false := by rw [State.withdrawsAt_some hx, hs]; rfl
  have other {m : SiteId} (hm : m ≠ x.dest) : t.link m = s.linkAfter now (l ++ [k]) m := by
    rw [State.linkAfter_append_other (hw m) (by rw [State.restartsAt_some hx]; simp [Ne.symm hm]), w.link]
  have hslot : (t.setSlot k (some { x with held := false })).slot k = some { x with held := false } := State.slot_setSlot_self _ _ _
  have hdest := w.link x.dest
  by_cases hb : (t.link x.dest).out = none
  · obtain ⟨ho, hnone, hlink, hnew⟩ := State.linkAfter_append_idle hat (hdest ▸ hb)
    rw [hlink] at hdest
    rw [State.placeRamp_of_idle hslot hb (by rw [State.link_setSlot, hdest]; exact (served _ ho).1)
      (by rw [State.link_setSlot, hdest]; exact (served _ ho).2)]
    refine w.append hk (((setSlot_only _ _ _).trans (setLink_only _ _ _)).trans (setSlot_only _ _ _))
      (fun j hj => by simp [State.slot_setSlot_of_ne _ _ _ hj]) ?_ fun m => ?_
    · rw [State.slot_setSlot_self, hx, Option.map_some, State.slotAfter, hs, if_neg (by simp), if_pos h, List.filter_append, hnone,
        List.filter_cons_of_pos hat, if_pos ⟨ho, rfl⟩]
    · rw [State.link_setSlot, State.link_setLink]
      split
      · rename_i hm
        subst hm
        rw [hnew]
        have hmsg : (t.setSlot k (some { x with held := false })).rampMessage { x with held := false } x.kind
            (((t.setSlot k (some { x with held := false })).chan x.handle).motion.getD .blocked) =
            s.rampMessage x x.kind ((s.chan x.handle).motion.getD .blocked) := by
          simp only [State.rampMessage, State.link_setSlot, State.chan_setSlot, hdest, w.only.chan]
          rw [State.params, State.params, State.site_setSlot, w.only.channels.site]
        simp only [State.idleAfter, hx, Option.elim_some, List.map_nil, State.link_setSlot, hdest]
        exact congrArg (fun msg => (s.link x.dest).sending k msg []) hmsg
      · rename_i hm
        exact other hm
  · rw [State.placeRamp_of_busy hslot hb]
    refine w.append hk (((setSlot_only _ _ _).trans (setLink_only _ _ _)).trans (setSlot_only _ _ _))
      (fun j hj => by simp [State.slot_setSlot_of_ne _ _ _ hj]) ?_ fun m => ?_
    · rw [State.slot_setSlot_self, hx, Option.map_some, State.slotAfter, hs, if_neg (by simp), if_pos h, if_neg]
      rintro ⟨ho, hhead⟩
      rw [hdest] at hb
      unfold State.linkAfter at hb
      rw [if_pos ho] at hb
      rw [List.filter_append] at hhead
      cases hq : l.filter (s.restartsAt now x.dest) with
      | nil => rw [hq] at hb; exact hb ho
      | cons j rest =>
        rw [hq] at hhead
        have : j ∈ l := (List.mem_filter.mp (hq ▸ List.mem_cons_self .. : j ∈ l.filter (s.restartsAt now x.dest))).1
        cases hhead
        exact hk this
    · rw [State.link_setSlot, State.link_setLink]
      split
      · rename_i hm
        subst hm
        rw [State.linkAfter_append_busy (hw _) hat (hdest ▸ hb), ← hdest]
        rfl
      · rename_i hm
        exact other hm

end

/-- The held flags as they are, but that those of slots with an end at the sites become what the holds give (R143). -/
def State.nowAt (s : State) (sites : List SiteId) (x : Slot) : Bool := if s.slotAt x sites then s.isHeld x.handle else x.held

theorem reholdSlot_eq {sites : List SiteId} {x : Slot} (only : SameButLinks s t) (hx : t.slot k = some x) :
    State.reholdSlot sites t k = if s.nowAt sites x = x.held then t
      else if s.nowAt sites x then (t.setSlot k (some { x with held := true })).stopSlot k
      else (t.setSlot k (some { x with held := false })).restartSlot k := by
  unfold State.reholdSlot State.nowAt
  rw [hx]
  dsimp only
  rw [only.slotAt, only.isHeld]
  by_cases hat : s.slotAt x sites = true
  · simp only [hat, if_true]
    cases s.isHeld x.handle <;> rfl
  · simp [hat]

/-- The recomputation of one slot not yet recomputed. -/
theorem State.reheldOn.step {sites : List SiteId} (served : ∀ m, (s.link m).out = none → (s.link m).shutters = [] ∧ (s.link m).queue = [])
    (w : s.reheldOn t (s.nowAt sites) l) (hk : k ∉ l) : s.reheldOn (State.reholdSlot sites t k) (s.nowAt sites) (l ++ [k]) := by
  have hslot := w.todo k hk
  cases hx : s.slot k with
  | none =>
    have hself : State.reholdSlot sites t k = t := by unfold State.reholdSlot; rw [hslot, hx]
    rw [hself]
    refine w.append hk (.refl t) (fun _ _ => rfl) (by rw [hslot, hx]; rfl) fun m => ?_
    rw [w.link, State.linkAfter_append_other (by simp [State.withdrawsAt, hx]) (by simp [State.restartsAt, hx])]
  | some x =>
    rw [hx] at hslot
    have stops : x.stops (s.nowAt sites) = (!x.held && s.nowAt sites x) := rfl
    have restarts : x.restarts (s.nowAt sites) = (x.held && !s.nowAt sites x && decide (x.drive = .stopped)) := rfl
    rw [reholdSlot_eq w.only hslot]
    split
    · rename_i he
      rw [he] at stops restarts
      have h1 : x.stops (s.nowAt sites) = false := by rw [stops]; cases x.held <;> rfl
      have h2 : x.restarts (s.nowAt sites) = false := by rw [restarts]; cases x.held <;> rfl
      have hsame : t.setSlot k (some x) = t := by rw [← hslot]; exact t.setSlot_slot k
      have := w.rewrite hk hx (y := x) (by rw [h1]; rfl) h2 (by simp [State.slotAfter, h1, h2, he])
      rwa [hsame] at this
    · rename_i hne
      split
      · rename_i hn
        refine w.stop hk hx (fun m ho => (served m ho).2) ?_
        rw [stops, hn]
        rw [hn] at hne
        cases hh : x.held
        · rfl
        · exact absurd hh.symm hne
      · rename_i hn
        rw [Bool.not_eq_true] at hn
        have hheld : x.held = true := by rw [hn] at hne; simpa using hne
        rw [hn, hheld, Bool.not_false, Bool.true_and, Bool.true_and] at restarts
        by_cases hd : x.drive = .stopped
        · have := w.restart hk hx served (by rw [restarts]; exact decide_eq_true hd)
          simpa [State.restartSlot, hd] using this
        · have h1 : x.stops (s.nowAt sites) = false := by rw [stops, hheld]; rfl
          have h2 : x.restarts (s.nowAt sites) = false := by rw [restarts]; exact decide_eq_false hd
          have := w.rewrite hk hx (y := { x with held := false }) (by rw [h1]; rfl) h2 (by simp [State.slotAfter, h1, h2, hn])
          simpa [State.restartSlot, hd] using this

/-- All the slots of a list, one after the other. -/
theorem State.reheldOn_foldl {sites : List SiteId}
    (served : ∀ m, (s.link m).out = none → (s.link m).shutters = [] ∧ (s.link m).queue = []) {l₂ : List SlotId} (hl : (l ++ l₂).Nodup)
    (w : s.reheldOn t (s.nowAt sites) l) : s.reheldOn (l₂.foldl (State.reholdSlot sites) t) (s.nowAt sites) (l ++ l₂) := by
  induction l₂ generalizing l t with
  | nil => rwa [List.append_nil]
  | cons k l₂ ih =>
    have hk : k ∉ l := fun h => (List.nodup_append.mp hl).2.2 k h k (List.mem_cons_self ..) rfl
    rw [List.append_cons] at hl ⊢
    exact ih hl (w.step served hk)

theorem State.stays_all (s : State) (now : Slot → Bool) (m : SiteId) :
    (s.link m).queue.filter (Request.stays fun k => s.slotsByHandle.contains k && s.withdrawsAt now m k) =
      (s.link m).queue.filter fun r => match r with
        | .ramp k => !(s.slot k).any fun x => x.stops now && decide (x.drive = .queued ∧ x.dest = m)
        | .level _ _ => true := by
  refine List.filter_congr fun r _ => ?_
  cases r with
  | level _ _ => rfl
  | ramp k =>
    have hk : s.slotsByHandle.contains k = true := List.contains_iff_mem.mpr ((slotsByHandle_perm s).mem_iff.mpr (List.mem_finRange k))
    simp only [Request.stays, hk, Bool.true_and, State.withdrawsAt]

/-- The recomputation of the held flags stops and restarts slots as R109 says, in the order of the handles. -/
theorem State.reheld_rehold (s : State) (sites : List SiteId)
    (served : ∀ m, (s.link m).out = none → (s.link m).shutters = [] ∧ (s.link m).queue = []) :
    s.reheld (s.rehold sites) (s.nowAt sites) := by
  have w : s.reheldOn (s.rehold sites) (s.nowAt sites) s.slotsByHandle := by
    have hl : ([] ++ s.slotsByHandle).Nodup := by rw [List.nil_append]; exact slotsByHandle_nodup s
    have := State.reheldOn_foldl served hl (s.reheldOn_nil (s.nowAt sites))
    rwa [List.nil_append] at this
  have slot (k : SlotId) : (s.rehold sites).slot k = (s.slot k).map (s.slotAfter (s.nowAt sites) s.slotsByHandle k) :=
    w.done k ((slotsByHandle_perm s).mem_iff.mpr (List.mem_finRange k))
  constructor
  · intro k hx
    rw [slot, hx]; rfl
  · intro k x hx h
    rw [slot, hx, Option.map_some, State.slotAfter, if_pos h]
  · intro k x hx h
    have hs : x.stops (s.nowAt sites) = false := by
      have := Slot.not_stops_and_restarts (s.nowAt sites) x
      simp_all
    rw [slot, hx, Option.map_some, State.slotAfter, hs, if_neg (by simp), if_pos h, State.restarting_eq]
  · intro k x hx h g
    rw [slot, hx, Option.map_some, State.slotAfter, h, g]
    rfl
  · intro m ho
    have hl := w.link m
    rw [State.linkAfter, if_neg ho, s.stays_all, ← State.restarting_eq] at hl
    exact hl
  · intro m ho
    have hl := w.link m
    rw [State.linkAfter, if_pos ho, ← State.restarting_eq] at hl
    generalize s.restarting (s.nowAt sites) m = q at hl ⊢
    cases q with
    | nil => exact hl
    | cons k rest =>
      intro x hx
      rw [hl]
      simp only [State.idleAfter, hx, Option.elim_some]

end

end Sys2Proof.Machine
end

section
/-!
SUPPORT. Rises and falls (R140, R143, R144): what a change of a site's conditions keeps, what it does to the slots and the links, when it
makes a pass due, and what it hands over.
-/

namespace Sys2Proof.Machine

open Sys2Proof

/-! ### The held flags after a recomputation -/

/-- With every held flag right the recomputation changes nothing. -/
theorem State.rehold_of_heldOk {s : State} (h : s.heldOk) (sites : List SiteId) : s.rehold sites = s := by
  unfold State.rehold
  generalize s.slotsByHandle = l
  induction l with
  | nil => rfl
  | cons k l ih =>
    have hself : State.reholdSlot sites s k = s := by
      unfold State.reholdSlot
      split
      · rfl
      · rename_i x hx
        split
        · dsimp only
          rw [if_pos (h k x hx).symm]
        · rfl
    rw [List.foldl_cons, hself, ih]

/-- Every use of a slot has an end at the sites. -/
def State.slotWithin (s : State) (sites : List SiteId) (k : SlotId) : Prop := ∀ x, s.slot k = some x → s.slotAt x sites = true

theorem reholdSlot_within {sites : List SiteId} {s : State} {k : SlotId} (j : SlotId) (h : s.slotWithin sites k) :
    (State.reholdSlot sites s j).slotWithin sites k := by
  intro y hy
  have core := reholdSlot_core sites s j k
  rw [hy, Option.map_some, eq_comm, Option.map_eq_some_iff] at core
  obtain ⟨x, hx, hxy⟩ := core
  have hat := h x hx
  rw [(reholdSlot_only sites s j).slotAt]
  unfold State.slotAt at hat ⊢
  rwa [← Slot.eq_of_core Slot.handle hxy]

theorem reholdSlot_right_of_within {sites : List SiteId} {s : State} {k : SlotId} (h : s.slotWithin sites k) :
    (State.reholdSlot sites s k).heldRight k := by
  rcases reholdSlot_cases sites s k with ⟨heq, hk⟩ | ⟨x, hx, hd⟩
  · rw [heq]
    exact fun x hx => hk x hx (h x hx)
  · exact hd.heldRight setSlot_held_right

theorem foldl_reholdSlot_within {sites : List SiteId} {k : SlotId} {l : List SlotId} {s : State} (h : s.slotWithin sites k)
    (hk : s.heldRight k ∨ k ∈ l) : (l.foldl (State.reholdSlot sites) s).heldRight k := by
  induction l generalizing s with
  | nil => simpa using hk
  | cons j l ih =>
    rw [List.foldl_cons]
    refine ih (reholdSlot_within j h) ?_
    rcases hk with hk | hk
    · exact .inl (reholdSlot_keeps_right sites s j hk)
    · rcases List.mem_cons.mp hk with rfl | hk
      · exact .inl (reholdSlot_right_of_within h)
      · exact .inr hk

/-- A slot with an end at the sites has the right flag after the recomputation, whatever it had before. -/
theorem State.slot_rehold_at {s : State} {sites : List SiteId} {k : SlotId} {x : Slot} (hx : s.slot k = some x)
    (hat : s.slotAt x sites = true) :
    ∃ y, (s.rehold sites).slot k = some y ∧ y.handle = x.handle ∧ y.held = s.isHeld x.handle := by
  have core := (s.alike_rehold sites).slot k
  rw [hx, Option.map_some, Option.map_eq_some_iff] at core
  obtain ⟨y, hy, hyx⟩ := core
  have handle : y.handle = x.handle := Slot.eq_of_core Slot.handle hyx
  have within : s.slotWithin sites k := fun z hz => by rw [hx] at hz; cases hz; exact hat
  have right : (s.rehold sites).heldRight k :=
    foldl_reholdSlot_within within (.inr ((slotsByHandle_perm s).mem_iff.mpr (List.mem_finRange k)))
  exact ⟨y, hy, handle, by rw [right y hy, (rehold_only s sites).isHeld, handle]⟩

/-! ### A change of a site's conditions -/

/-- A site's condition record is written, items are handed over, and the held flags are computed again there. -/
def State.condStep (s : State) (n : SiteId) (r : CondRec) (items : List Item) : State :=
  ((s.setCond n r).handOver items).rehold [n]

section
variable (s : State) (n : SiteId) (r : CondRec) (items : List Item)

theorem condStep_links : SameButLinks ((s.setCond n r).handOver items) (s.condStep n r items) := rehold_only _ _

theorem condStep_conds : (s.condStep n r items).conds = (s.setCond n r).conds := by
  rw [(condStep_links s n r items).channels.conds, State.handOver_conds]

theorem condStep_journal : (s.condStep n r items).journal = ((s.setCond n r).handOver items).journal :=
  (condStep_links s n r items).channels.journal

theorem cond_condStep (m : SiteId) : (s.condStep n r items).cond m = if m = n then r else s.cond m :=
  (congrArg (fun v => Vector.get v m) (condStep_conds s n r items)).trans (State.cond_setCond s n r m)

/-- The records of what a condition does, when there is room (R184). -/
theorem condStep_record {x : Record} (hroom : recordCount s.journal.handOver < 256) :
    (s.condStep n r [.record x]).journal.handOver = s.journal.handOver ++ [.record x] := by
  rw [condStep_journal, State.handOver_of_room]
  · rfl
  · show recordCount s.journal.handOver + 1 ≤ 256
    omega

end

section
variable {s : State} {n : SiteId} {r : CondRec} {items : List Item}

theorem SameButLinks.chans {s t : State} (h : SameButLinks s t) : t.chans = s.chans := by rw [h]

theorem SameButLinks.committed {s t : State} (h : SameButLinks s t) : t.committed = s.committed := by rw [h]

theorem SameButLinks.passDue {s t : State} (h : SameButLinks s t) : t.passDue = s.passDue := by rw [h]

theorem condStep_same (s : State) (n : SiteId) (r : CondRec) (items : List Item) :
    (s.condStep n r items).chans = s.chans ∧ (s.condStep n r items).sites = s.sites ∧ (s.condStep n r items).taps = s.taps ∧
    (s.condStep n r items).waitList = s.waitList ∧ (s.condStep n r items).committed = s.committed ∧
    (s.condStep n r items).passDue = s.passDue :=
  have h : SameButLinks _ _ := condStep_links s n r items
  ⟨h.chans.trans (by simp), h.channels.sites.trans (by simp), h.channels.taps.trans (by simp), h.waitList.trans (by simp),
    h.committed.trans (by simp), h.passDue.trans (by simp)⟩

@[simp] theorem State.outer_condStep (s : State) (n : SiteId) (r : CondRec) (items : List Item) :
    (s.condStep n r items).outer = s.outer := by
  simp [State.condStep]

theorem entry_condStep (s : State) (n : SiteId) (r : CondRec) (items : List Item) (x : EntryRef) :
    (s.condStep n r items).entry x = s.entry x := by
  rw [(condStep_links s n r items).entry, State.entry_handOver, State.entry_setCond]

theorem isHeld_condStep (s : State) (n : SiteId) (r : CondRec) (items : List Item) (h : Handle) :
    (s.condStep n r items).isHeld h = (s.setCond n r).isHeld h := by
  rw [(condStep_links s n r items).isHeld, handOver_journal]
  rfl

/-- What stops and restarts with the change, when an idle module has nothing waiting (R109, R143). -/
theorem condStep_reheld (served : ∀ m, (s.link m).out = none → (s.link m).shutters = [] ∧ (s.link m).queue = []) :
    s.reheld (s.condStep n r items) fun x =>
      if (s.chan x.handle).srcSite = n ∨ (s.chan x.handle).dstSite = n then (s.condStep n r items).isHeld x.handle else x.held := by
  have hnow : (fun x : Slot => if (s.chan x.handle).srcSite = n ∨ (s.chan x.handle).dstSite = n
      then (s.condStep n r items).isHeld x.handle else x.held) = ((s.setCond n r).handOver items).nowAt [n] := by
    funext x
    have hchan : ((s.setCond n r).handOver items).chan x.handle = s.chan x.handle := chan_handOver _ _ _
    unfold State.nowAt State.slotAt
    rw [hchan, (condStep_links s n r items).isHeld]
    simp only [List.contains_eq_mem, List.mem_singleton, Bool.or_eq_true, decide_eq_true_eq]
  rw [hnow]
  have h := State.reheld_rehold ((s.setCond n r).handOver items) [n] (by simpa using served)
  generalize ((s.setCond n r).handOver items).nowAt [n] = now at h ⊢
  change State.reheld _ (s.condStep n r items) now at h
  generalize s.condStep n r items = t at h ⊢
  rw [handOver_journal] at h
  exact ⟨h.free, h.stopped, h.restarted, h.others, h.busy, h.idle⟩

/-- After the change the slots with an end at the site have the right flags. -/
theorem condStep_right {k : SlotId} {x : Slot} (hx : s.slot k = some x)
    (hat : (s.chan x.handle).srcSite = n ∨ (s.chan x.handle).dstSite = n) :
    ∃ y, (s.condStep n r items).slot k = some y ∧ y.handle = x.handle ∧ y.held = (s.condStep n r items).isHeld x.handle := by
  have hslot : ((s.setCond n r).handOver items).slot k = some x := by simpa using hx
  have hwithin : ((s.setCond n r).handOver items).slotAt x [n] = true := by
    unfold State.slotAt
    rw [chan_handOver, State.chan_setCond]
    simpa using hat
  obtain ⟨y, hy, hh, hheld⟩ := State.slot_rehold_at hslot hwithin
  exact ⟨y, hy, hh, by rw [hheld, (condStep_links s n r items).isHeld]⟩

/-- A change that leaves the holds as they are touches no slot and no link, when every held flag is right. -/
theorem condStep_still (hh : s.heldOk) (hb : ∀ a b, (s.setCond n r).heldBetween a b = s.heldBetween a b) :
    (s.condStep n r items).slots = s.slots ∧ (s.condStep n r items).links = s.links := by
  have hok : ((s.setCond n r).handOver items).heldOk := by
    intro k x hx
    rw [State.slot_handOver] at hx
    rw [hh k x hx, handOver_journal]
    exact (hb _ _).symm
  unfold State.condStep
  rw [State.rehold_of_heldOk hok]
  simp

end

/-! ### The holds of a condition (R142) -/

/-- A condition's record is written with one live flag at most changed, that of a condition without the action HOLD. -/
theorem State.heldBetween_setCond {s : State} {n : SiteId} {r : CondRec} (h : ∀ d, (r.flag d).live = ((s.cond n).flag d).live ∨
    (s.params n).action d ≠ .hold) (a b : SiteId) : (s.setCond n r).heldBetween a b = s.heldBetween a b := by
  have holding (m : SiteId) (d : Cond) : (s.setCond n r).holding m d = s.holding m d := by
    unfold State.holding
    rw [State.cond_setCond]
    split
    · rename_i hm
      subst hm
      rcases h d with h | h
      · rw [h]; rfl
      · have h' : ((s.setCond m r).params m).action d ≠ .hold := h
        rw [decide_eq_false h, decide_eq_false h', Bool.and_false, Bool.and_false]
    · rfl
  unfold State.heldBetween State.sourceHold State.destHold
  rw [holding, holding, holding, holding]
  rfl

theorem CondRec.flag_setFlag (r : CondRec) (c d : Cond) (f : CondFlag) : (r.setFlag c f).flag d = if d = c then f else r.flag d := by
  cases c <;> cases d <;> rfl

end Sys2Proof.Machine
end

section
/-!
SUPPORT. What a rise and a fall of a condition do (R135, R136, R138 to R140, R142 to R144): predicates that say it, and the proofs that
the model's rises and falls do it.
-/

namespace Sys2Proof.Machine

open Sys2Proof

/-! ### What a rise and a fall have in common -/

/-- From `s` to `t` the conditions of a site, and what its holds make of the slots and links, are all that changes in the engine, but for
a pass due; `a` is the action of the condition that changes. -/
def State.condKept (s t : State) (n : SiteId) (a : Action) : Prop :=
  t.outer = s.outer ∧ t.sites = s.sites ∧ t.taps = s.taps ∧ t.chans = s.chans ∧ t.waitList = s.waitList ∧ t.committed = s.committed ∧
  (∀ x, t.entry x = s.entry x) ∧ (∀ m, m ≠ n → t.cond m = s.cond m) ∧
  (a ≠ .hold → s.heldOk → t.slots = s.slots ∧ t.links = s.links) ∧
  (s.inReset = false → s.served → s.reheld t fun x =>
    if (s.chan x.handle).srcSite = n ∨ (s.chan x.handle).dstSite = n then t.isHeld x.handle else x.held) ∧
  ∀ k x, s.slot k = some x → (s.chan x.handle).srcSite = n ∨ (s.chan x.handle).dstSite = n →
    ∃ y, t.slot k = some y ∧ y.handle = x.handle ∧ y.held = t.isHeld x.handle

/-- A rise at a site: the slots of the channels `here` become held when the condition's action is HOLD. -/
def State.condRaised (s t : State) (n : SiteId) (here : Handle → Prop) (a : Action) : Prop :=
  s.condKept t n a ∧ t.passDue = s.passDue ∧
  (a = .hold → ∀ k x, s.slot k = some x → here x.handle → ∃ y, t.slot k = some y ∧ y.held = true)

/-- A fall at a site: a pass is due when no cause of the hold is left. -/
def State.condCleared (s t : State) (n : SiteId) (a other : Action) (otherLive : Bool) : Prop :=
  s.condKept t n a ∧ (t.passDue = true ↔ s.passDue = true ∨ a = .hold ∧ ¬(otherLive = true ∧ other = .hold))

theorem State.condKept_condStep {s : State} {n : SiteId} {r : CondRec} {items : List Item} {a : Action}
    (hb : a ≠ .hold → ∀ x y, (s.setCond n r).heldBetween x y = s.heldBetween x y) : s.condKept (s.condStep n r items) n a := by
  obtain ⟨hchans, hsites, htaps, hwait, hcommitted, -⟩ := condStep_same s n r items
  refine ⟨State.outer_condStep s n r items, hsites, htaps, hchans, hwait, hcommitted, entry_condStep s n r items,
    fun m hm => (cond_condStep s n r items m).trans (if_neg hm), fun ha hh => condStep_still hh (hb ha),
    fun hreset hserved => condStep_reheld (hserved hreset), fun k x hx hat => condStep_right hx hat⟩

/-- A further change of the site's conditions and of the pass due, which moves no hold. -/
theorem State.condKept.of_conds {s t u : State} {n : SiteId} {a : Action} (w : s.condKept t n a)
    (hu : u = { t with conds := u.conds, passDue := u.passDue }) (hc : ∀ m, m ≠ n → u.cond m = t.cond m)
    (hh : ∀ h, u.isHeld h = t.isHeld h) : s.condKept u n a := by
  obtain ⟨houter, hsites, htaps, hchans, hwait, hcommitted, hentry, hcond, hstill, hre, hright⟩ := w
  have slots : u.slots = t.slots := by rw [hu]
  have links : u.links = t.links := by rw [hu]
  have slot (k : SlotId) : u.slot k = t.slot k := by rw [hu]; rfl
  have link (m : SiteId) : u.link m = t.link m := by rw [hu]; rfl
  refine ⟨?_, ?_, ?_, ?_, ?_, ?_, fun x => ?_, fun m hm => (hc m hm).trans (hcond m hm),
    fun ha hok => by rw [slots, links]; exact hstill ha hok, fun hreset hserved => ?_, fun k x hx hat => ?_⟩
  · rw [← houter, hu]; rfl
  · rw [← hsites, hu]
  · rw [← htaps, hu]
  · rw [← hchans, hu]
  · rw [← hwait, hu]
  · rw [← hcommitted, hu]
  · rw [← hentry, hu]; cases x <;> rfl
  · simp only [hh]
    have h := hre hreset hserved
    exact ⟨fun k hk => (slot k).trans (h.free k hk), fun k x hx hs => (slot k).trans (h.stopped k x hx hs),
      fun k x hx hs => (slot k).trans (h.restarted k x hx hs), fun k x hx h1 h2 => (slot k).trans (h.others k x hx h1 h2),
      fun m hm => (link m).trans (h.busy m hm), fun m hm => by
        have := h.idle m hm
        rw [link]
        exact this⟩
  · rw [slot, hh]
    exact hright k x hx hat

/-! ### A rise -/

/-- A site's condition record after a rise (R140, R148, R150). -/
def State.risen (s : State) (n : SiteId) (c : Cond) : CondRec :=
  match c with
  | .inLos =>
    { s.cond n with inLos := { live := true, sticky := true }, lastLos := some s.tick,
                    firstLos := if (s.cond n).inLos.sticky then (s.cond n).firstLos else some s.tick,
                    holdOff := none, restoreDeferred := false }
  | .inHigh => { s.cond n with inHigh := { live := true, sticky := true } }
  | .modFault => { s.cond n with modFault := { live := true, sticky := true } }
  | .monStale => { s.cond n with monStale := { live := true, sticky := true } }

theorem State.riseBase_eq (s : State) (n : SiteId) (c : Cond) (level : Level) :
    s.riseBase n c level = s.condStep n (s.risen n c) [.record (condRecord s.tick .condRaised n c level)] := by
  cases c <;> rfl

theorem State.flag_risen (s : State) (n : SiteId) (c d : Cond) :
    ((s.risen n c).flag d) = if d = c then { live := true, sticky := true } else (s.cond n).flag d := by
  cases c <;> cases d <;> rfl

/-- The channels a condition's HOLD acts on: by their source for a source condition, else by their destination (R142). -/
def Cond.actsOn (c : Cond) (s : State) (n : SiteId) (h : Handle) : Prop :=
  match c with
  | .inLos | .inHigh => (s.chan h).srcSite = n
  | .modFault | .monStale => (s.chan h).dstSite = n

theorem Cond.actsOn.ends {c : Cond} {s : State} {n : SiteId} {h : Handle} (w : c.actsOn s n h) :
    (s.chan h).srcSite = n ∨ (s.chan h).dstSite = n := by
  cases c with
  | inLos => exact .inl w
  | inHigh => exact .inl w
  | modFault => exact .inr w
  | monStale => exact .inr w

/-- A live condition with action HOLD holds the channels it acts on. -/
theorem Cond.actsOn.isHeld {c : Cond} {s : State} {n : SiteId} {h : Handle} (w : c.actsOn s n h) (hh : s.holding n c = true) :
    s.isHeld h = true := by
  unfold State.isHeld State.heldBetween
  cases c with
  | inLos =>
    have : s.sourceHold (s.chan h).srcSite = true := by rw [show (s.chan h).srcSite = n from w, State.sourceHold, hh]; rfl
    simp [this]
  | inHigh =>
    have : s.sourceHold (s.chan h).srcSite = true := by rw [show (s.chan h).srcSite = n from w, State.sourceHold, hh, Bool.or_true]
    simp [this]
  | modFault =>
    have : s.destHold (s.chan h).dstSite = true := by rw [show (s.chan h).dstSite = n from w, State.destHold, hh]; rfl
    simp [this]
  | monStale =>
    have : s.destHold (s.chan h).dstSite = true := by rw [show (s.chan h).dstSite = n from w, State.destHold, hh, Bool.or_true]
    simp [this]

theorem State.cond_riseBase (s : State) (n : SiteId) (c : Cond) (level : Level) : (s.riseBase n c level).cond n = s.risen n c := by
  rw [s.riseBase_eq]
  exact (cond_condStep s n _ _ n).trans (if_pos rfl)

/-- What a rise does, to whichever site and by whichever condition. -/
theorem State.condRaised_riseBase (s : State) (n : SiteId) (c : Cond) (level : Level) :
    s.condRaised (s.riseBase n c level) n (c.actsOn s n) ((s.params n).action c) := by
  rw [s.riseBase_eq]
  refine ⟨State.condKept_condStep fun ha => State.heldBetween_setCond fun d => ?_,
    (condStep_same s n _ _).2.2.2.2.2, fun ha k x hx hon => ?_⟩
  · by_cases hd : d = c
    · exact .inr (hd ▸ ha)
    · exact .inl (by rw [s.flag_risen, if_neg hd])
  · obtain ⟨y, hy, -, hheld⟩ := condStep_right (r := s.risen n c)
      (items := [.record (condRecord s.tick .condRaised n c level)]) hx hon.ends
    refine ⟨y, hy, ?_⟩
    rw [hheld, isHeld_condStep]
    have hon' : c.actsOn (s.setCond n (s.risen n c)) n x.handle := by cases c <;> exact hon
    refine hon'.isHeld ?_
    unfold State.holding
    rw [State.cond_setCond, if_pos rfl, s.flag_risen, if_pos rfl]
    exact Bool.and_eq_true_iff.mpr ⟨rfl, decide_eq_true ha⟩

theorem State.record_riseBase {s : State} (n : SiteId) (c : Cond) (level : Level) (hroom : recordCount s.journal.handOver < 256) :
    (s.riseBase n c level).journal.handOver =
      s.journal.handOver ++ [.record (condRecord s.tick .condRaised n c level)] := by
  rw [s.riseBase_eq]
  exact condStep_record s n _ hroom

/-! ### A fall -/

/-- A site's condition record after a fall (R140). -/
def State.fallen (s : State) (n : SiteId) (c : Cond) : CondRec :=
  (s.cond n).setFlag c { (s.cond n).flag c with live := false }

theorem State.fallBase_eq (s : State) (n : SiteId) (c : Cond) (level : Level) :
    s.fallBase n c level = (s.condStep n (s.fallen n c) [.record (condRecord s.tick .condCleared n c level)]).due
      (holdRemoved s (s.setCond n (s.fallen n c)) n) := rfl

/-- The other cause of a condition's hold (R142). -/
def Cond.partner : Cond → Cond
  | .inLos => .inHigh
  | .inHigh => .inLos
  | .modFault => .monStale
  | .monStale => .modFault

theorem State.holding_fallen (s : State) (n : SiteId) (c d : Cond) :
    (s.setCond n (s.fallen n c)).holding n d = if d = c then false else s.holding n d := by
  unfold State.holding State.fallen
  rw [State.cond_setCond, if_pos rfl, CondRec.flag_setFlag]
  split
  · rfl
  · rfl

/-- A fall removes a hold exactly when its condition was a live cause and the other cause is none (R144). -/
theorem State.holdRemoved_fallen (s : State) (n : SiteId) (c : Cond) :
    holdRemoved s (s.setCond n (s.fallen n c)) n = (s.holding n c && !s.holding n c.partner) := by
  unfold holdRemoved State.sourceHold State.destHold
  simp only [s.holding_fallen]
  have first (a b : Bool) : ((a || b) && !b) = (a && !b) := by revert a b; decide
  have second (a b : Bool) : ((b || a) && !b) = (a && !b) := by revert a b; decide
  cases c <;> simp only [Cond.partner, reduceCtorEq, ↓reduceIte, first, second, Bool.and_not_self, Bool.or_false, Bool.false_or]

theorem State.cond_fallBase (s : State) (n : SiteId) (c : Cond) (level : Level) : (s.fallBase n c level).cond n = s.fallen n c := by
  rw [s.fallBase_eq, State.cond_due, cond_condStep, if_pos rfl]

/-- What a fall does, to whichever site and by whichever condition. -/
theorem State.condCleared_fallBase {s : State} {n : SiteId} {c : Cond} (level : Level) (hlive : ((s.cond n).flag c).live = true) :
    s.condCleared (s.fallBase n c level) n ((s.params n).action c) ((s.params n).action c.partner)
      ((s.cond n).flag c.partner).live := by
  rw [s.fallBase_eq]
  have hkept := State.condKept_condStep (s := s) (n := n) (r := s.fallen n c) (a := (s.params n).action c)
    (items := [.record (condRecord s.tick .condCleared n c level)]) fun ha => State.heldBetween_setCond fun d => by
      by_cases hd : d = c
      · exact .inr (hd ▸ ha)
      · exact .inl (by rw [State.fallen, CondRec.flag_setFlag, if_neg hd])
  have hsame : (s.condStep n (s.fallen n c) [.record (condRecord s.tick .condCleared n c level)]).passDue = s.passDue :=
    (condStep_same s n _ _).2.2.2.2.2
  generalize s.condStep n (s.fallen n c) [.record (condRecord s.tick .condCleared n c level)] = t at hkept hsame
  refine ⟨hkept.of_conds rfl (fun _ _ => rfl) (fun _ => rfl), ?_⟩
  rw [State.due_passDue, hsame, s.holdRemoved_fallen, Bool.or_eq_true]
  unfold State.holding
  rw [hlive]
  simp [imp_iff_not_or]

theorem State.record_fallBase {s : State} (n : SiteId) (c : Cond) (level : Level) (hroom : recordCount s.journal.handOver < 256) :
    (s.fallBase n c level).journal.handOver =
      s.journal.handOver ++ [.record (condRecord s.tick .condCleared n c level)] := by
  rw [s.fallBase_eq, State.due_journal]
  exact condStep_record s n _ hroom

/-! ### The start of the hold-off, and its expiry (R148, R149) -/

/-- The running of a hold-off moves no hold. -/
theorem State.isHeld_setCond_holdOff (s : State) (n : SiteId) (v : Option Nat) (h : Handle) :
    (s.setCond n { s.cond n with holdOff := v }).isHeld h = s.isHeld h :=
  State.heldBetween_setCond (fun d => .inl (by cases d <;> rfl)) _ _

theorem State.condCleared.withHoldOff {s t : State} {n : SiteId} {a other : Action} {b : Bool} (w : s.condCleared t n a other b)
    (v : Option Nat) : s.condCleared (t.setCond n { t.cond n with holdOff := v }) n a other b :=
  ⟨w.1.of_conds rfl (fun _ hm => (State.cond_setCond _ _ _ _).trans (if_neg hm)) (State.isHeld_setCond_holdOff t n v), w.2⟩

/-- Is a channel to be restored when a site's hold-off expires (R149)? -/
def State.restorable (s : State) (n : SiteId) (h : Handle) : Bool :=
  decide ((s.chan h).shutteredBy = some n ∧ (s.chan h).pending = none)

/-- The channels of a list whose RESTOREs fit the Wait List. -/
def State.restored (s : State) (n : SiteId) (hs : List Handle) : List Handle :=
  (hs.filter (s.restorable n)).take (64 - s.waitList.length)

/-- The Wait List entry of a RESTORE (R149). -/
def State.restoreEntry (s : State) (n : SiteId) (h : Handle) : WaitEntry :=
  { kind := .restore, handle := h, desc := none, dest := (s.chan h).dstSite, restoreSite := some n }

/-- From `s` to `t` the RESTOREs of some channels were appended as far as there was room. -/
structure State.restoredTo (s t : State) (n : SiteId) (hs : List Handle) : Prop where
  waitList : t.waitList = s.waitList ++ (s.restored n hs).map (s.restoreEntry n)
  cond : t.cond n = { s.cond n with
    restoreDeferred := (s.cond n).restoreDeferred || decide ((s.restored n hs).length < (hs.filter (s.restorable n)).length) }
  conds : ∀ m, m ≠ n → t.cond m = s.cond m
  chan : ∀ h, t.chan h = if h ∈ s.restored n hs then { s.chan h with pending := some .waiting } else s.chan h
  passDue : t.passDue = (s.passDue || decide (s.restored n hs ≠ []))
  only : t = { s with chans := t.chans, waitList := t.waitList, conds := t.conds, passDue := t.passDue }

theorem State.restoredTo_nil (s : State) (n : SiteId) : s.restoredTo s n [] := by
  have hr : s.restored n [] = [] := by simp [State.restored]
  refine ⟨?_, ?_, fun _ _ => rfl, fun h => ?_, ?_, rfl⟩ <;> rw [hr] <;> simp

/-- What decides about the RESTOREs of some channels: their records, and the room. -/
theorem State.restored_congr {s t : State} {n : SiteId} {hs : List Handle} (hc : ∀ h ∈ hs, t.chan h = s.chan h) :
    hs.filter (t.restorable n) = hs.filter (s.restorable n) :=
  List.filter_congr fun h hh => by unfold State.restorable; rw [hc h hh]

theorem State.restoredTo_cons {s : State} {n : SiteId} {h : Handle} {hs : List Handle} {t : State} (hh : h ∉ hs)
    (w : (State.restoreOne n s h).restoredTo t n hs) : s.restoredTo t n (h :: hs) := by
  have hrest : State.restoreOne n s h = if s.restorable n h = true then
      (if s.waitList.length < 64 then s.append (s.restoreEntry n h)
       else s.setCond n { s.cond n with restoreDeferred := true }) else s := by
    unfold State.restoreOne State.restorable State.restoreEntry
    simp only [decide_eq_true_eq]
  rw [hrest] at w
  by_cases hr : s.restorable n h = true
  · rw [if_pos hr] at w
    by_cases hlen : s.waitList.length < 64
    · rw [if_pos hlen] at w
      generalize ha : s.append (s.restoreEntry n h) = a at w
      have achan (g : Handle) : a.chan g = if g = h then { s.chan h with pending := some .waiting } else s.chan g := by
        rw [← ha]; simp [State.append, State.restoreEntry, State.chan_setChan]; rfl
      have hsame : ∀ g ∈ hs, a.chan g = s.chan g := fun g hg => by
        rw [achan, if_neg (fun he : g = h => hh (he ▸ hg))]
      have afit : a.restored n hs = (hs.filter (s.restorable n)).take (64 - (s.waitList.length + 1)) := by
        unfold State.restored
        rw [State.restored_congr hsame, ← ha]
        simp [State.append]
      have fit : s.restored n (h :: hs) = h :: a.restored n hs := by
        rw [afit]
        unfold State.restored
        rw [List.filter_cons_of_pos hr, show 64 - s.waitList.length = (64 - (s.waitList.length + 1)) + 1 by omega, List.take_succ_cons]
      have hnot : h ∉ a.restored n hs := fun hm => by
        rw [afit] at hm
        exact hh (List.mem_of_mem_filter (List.mem_of_mem_take hm))
      have acond (m : SiteId) : a.cond m = s.cond m := by rw [← ha]; rfl
      refine ⟨?_, ?_, fun m hm => (w.conds m hm).trans (acond m), fun g => ?_, ?_, ?_⟩
      · rw [w.waitList, fit, List.map_cons, ← ha]
        have hmap : (a.restored n hs).map (a.restoreEntry n) = (a.restored n hs).map (s.restoreEntry n) :=
          List.map_congr_left fun g hg => by
            unfold State.restoreEntry
            rw [achan, if_neg (fun he : g = h => hnot (he ▸ hg))]
        rw [ha, hmap, ← ha]
        simp [State.append]
      · rw [w.cond, acond, fit, State.restored_congr hsame, List.filter_cons_of_pos hr]
        simp
      · rw [w.chan, fit, achan]
        by_cases hg : g = h
        · subst hg
          rw [if_neg hnot, if_pos rfl, if_pos (List.mem_cons_self ..)]
        · simp [hg]
      · rw [w.passDue, fit, ← ha]
        simp [State.append]
      · rw [w.only, ← ha]
        rfl
    · rw [if_neg hlen] at w
      have fit (l : List Handle) : s.restored n l = [] := by
        unfold State.restored
        rw [show 64 - s.waitList.length = 0 by omega, List.take_zero]
      have afit : (s.setCond n { s.cond n with restoreDeferred := true }).restored n hs = [] := fit hs
      have hcond := w.cond
      refine ⟨?_, ?_, fun m hm => (w.conds m hm).trans ((State.cond_setCond _ _ _ _).trans (if_neg hm)), fun g => ?_, ?_, ?_⟩
      · have := w.waitList
        rw [afit] at this
        rw [fit, this]; rfl
      · rw [hcond, afit, State.cond_setCond, if_pos rfl, fit, List.filter_cons_of_pos hr]
        simp
      · have := w.chan g
        rw [afit] at this
        rw [fit, this]; rfl
      · have := w.passDue
        rw [afit] at this
        rw [fit, this]; rfl
      · rw [w.only]
        rfl
  · rw [if_neg hr] at w
    have hfilter : (h :: hs).filter (s.restorable n) = hs.filter (s.restorable n) := List.filter_cons_of_neg hr
    have fit : s.restored n (h :: hs) = s.restored n hs := by unfold State.restored; rw [hfilter]
    exact ⟨by rw [fit]; exact w.waitList, by rw [fit, hfilter]; exact w.cond, w.conds, by rw [fit]; exact w.chan,
      by rw [fit]; exact w.passDue, w.only⟩

theorem State.restoredTo_foldl {n : SiteId} {hs : List Handle} (hn : hs.Nodup) (s : State) :
    s.restoredTo (hs.foldl (State.restoreOne n) s) n hs := by
  induction hs generalizing s with
  | nil => exact s.restoredTo_nil n
  | cons h hs ih =>
    obtain ⟨hh, hn⟩ := List.nodup_cons.mp hn
    exact State.restoredTo_cons hh (ih hn _)

/-- The expiry of a hold-off appends the RESTOREs of the site's channels (R149). -/
theorem State.restoredTo_expireHoldOff (s : State) (n : SiteId) :
    (s.setCond n { s.cond n with holdOff := none, restoreDeferred := false }).restoredTo (s.expireHoldOff n) n allHandles := by
  have : s.expireHoldOff n =
      allHandles.foldl (State.restoreOne n) (s.setCond n { s.cond n with holdOff := none, restoreDeferred := false }) := by
    unfold State.expireHoldOff State.restoreAll
    rw [State.cond_setCond, if_pos rfl]
    unfold State.setCond
    simp
  rw [this]
  exact State.restoredTo_foldl (List.nodup_finRange 256) _

end Sys2Proof.Machine
end

section
/-!
SUPPORT. The placing of a shutter entry (R118, R119): where it merges, where it finds room, and where the set is full.
-/

namespace Sys2Proof.Machine

open Sys2Proof

/-! ### A busy module's link under a recomputation of the held flags -/

/-- From `s` to `t` a busy module keeps its outstanding message and its shutter set. -/
def State.keepsBusy (s t : State) (m : SiteId) : Prop :=
  (s.link m).out ≠ none → (t.link m).out = (s.link m).out ∧ (t.link m).shutters = (s.link m).shutters

theorem State.keepsBusy.trans {s t u : State} {m : SiteId} (h : s.keepsBusy t m) (g : t.keepsBusy u m) : s.keepsBusy u m := by
  intro ho
  obtain ⟨h1, h2⟩ := h ho
  obtain ⟨g1, g2⟩ := g (h1 ▸ ho)
  exact ⟨g1.trans h1, g2.trans h2⟩

theorem State.keepsBusy_setLink_queue (s : State) (n m : SiteId) (q : List Request) :
    s.keepsBusy (s.setLink n { s.link n with queue := q }) m := by
  intro _
  rw [State.link_setLink]
  split
  · rename_i h; subst h; exact ⟨rfl, rfl⟩
  · exact ⟨rfl, rfl⟩

/-- The sending of one module's next message leaves the other links. -/
theorem link_sendNext_of_ne (s : State) {n m : SiteId} (h : m ≠ n) : (s.sendNext n).link m = s.link m := by
  unfold State.sendNext State.transmit
  dsimp only
  split
  · rw [State.link_setLink_of_ne _ _ _ h, State.link_setLink_of_ne _ _ _ h]
  · split
    · rfl
    · split
      · exact State.link_setLink_of_ne _ _ _ h
      · simp only [State.link_setLink_of_ne _ _ _ h, State.link_setSlot]
    · simp only [State.link_setLink_of_ne _ _ _ h]

theorem State.keepsBusy_kick (s : State) (n m : SiteId) : s.keepsBusy (s.kick n) m := by
  intro ho
  by_cases h : m = n
  · rw [State.kick_of_busy (h ▸ ho)]
    exact ⟨rfl, rfl⟩
  · unfold State.kick
    split
    · exact ⟨rfl, rfl⟩
    · rw [link_sendNext_of_ne s h]
      exact ⟨rfl, rfl⟩

theorem State.keepsBusy_placeRamp (s : State) (k : SlotId) (m : SiteId) : s.keepsBusy (s.placeRamp k) m := by
  unfold State.placeRamp
  split
  · exact fun _ => ⟨rfl, rfl⟩
  · rename_i x _
    have h : s.keepsBusy ((s.setLink x.dest { s.link x.dest with queue := (s.link x.dest).queue ++ [.ramp k] }).setSlot k
        (some { x with drive := .queued, takeover := false })) m := s.keepsBusy_setLink_queue _ m _
    exact h.trans (State.keepsBusy_kick _ _ m)

theorem State.keepsBusy_reholdSlot (sites : List SiteId) (s : State) (k : SlotId) (m : SiteId) :
    s.keepsBusy (State.reholdSlot sites s k) m := by
  have stay {s t : State} (h : t.links = s.links) : s.keepsBusy t m := fun _ => by
    rw [show t.link m = s.link m from congrArg (fun v => Vector.get v m) h]
    exact ⟨rfl, rfl⟩
  unfold State.reholdSlot
  split
  · exact stay rfl
  · split
    · dsimp only
      split
      · exact stay rfl
      · split
        · unfold State.stopSlot State.withdrawRamp
          rw [State.slot_setSlot_self]
          dsimp only
          split
          · exact s.keepsBusy_setLink_queue _ m _
          · exact stay rfl
          · exact stay rfl
          · exact stay rfl
        · unfold State.restartSlot
          rw [State.slot_setSlot_self]
          dsimp only
          split
          · rename_i x _ _ _ _ _
            exact State.keepsBusy.trans (t := s.setSlot k (some { x with held := s.isHeld x.handle })) (stay rfl)
              (State.keepsBusy_placeRamp _ k m)
          · exact stay rfl
    · exact stay rfl

theorem State.keepsBusy_rehold (s : State) (sites : List SiteId) (m : SiteId) : s.keepsBusy (s.rehold sites) m := by
  unfold State.rehold
  generalize s.slotsByHandle = l
  induction l generalizing s with
  | nil => exact fun _ => ⟨rfl, rfl⟩
  | cons k l ih => exact (s.keepsBusy_reholdSlot sites k m).trans (ih _)

theorem State.keepsBusy_condStep (s : State) (n : SiteId) (r : CondRec) (items : List Item) (m : SiteId) :
    s.keepsBusy (s.condStep n r items) m := by
  have h : s.keepsBusy ((s.setCond n r).handOver items) m := fun _ => by
    rw [State.link_handOver]
    exact ⟨rfl, rfl⟩
  exact h.trans (State.keepsBusy_rehold _ _ m)

/-! ### A module's link and its shutter set -/

/-- Has a shutter set a bound entry of a channel and range, with which a placing merges (R118)? -/
def Link.merges (l : Link) (h : Handle) (c : Channel) : Bool :=
  l.shutters.any fun f => f.bound && decide (f.handle = h ∧ f.first = c.first ∧ f.count = c.count)

/-- The link of an idle module after it was sent a shutter entry of its set (R112 to R114, R116, R119). -/
def Link.sendingShutter (m : SiteId) (l : Link) (e : ShutterEntry) : Link :=
  { l with seq := l.seq + 1, shutters := l.shutters.erase e,
           out := some { bind := if e.bound then .channel e.handle else .detached, timer := 8,
                         msg := { module := m, seq := l.seq, first := e.first, count := e.count, input := e.input, port := e.port,
                                  setting := .blocked, cls := .shutter } } }

theorem State.kick_of_shutter {s : State} {m : SiteId} {e : ShutterEntry} (ho : (s.link m).out = none)
    (he : firstShutter (s.link m).shutters = some e) : s.kick m = s.setLink m ((s.link m).sendingShutter m e) := by
  rw [State.kick_of_idle ho, State.sendNext, he]
  simp only [State.transmit, State.link_setLink_self, State.setLink_setLink]
  rfl

/-- The link of a module after an entry was added to its shutter set (R118, R119). -/
def Link.placing (m : SiteId) (l : Link) (e : ShutterEntry) : Link :=
  let l1 := { l with shutters := l.shutters ++ [e] }
  if l.out = none then (firstShutter l1.shutters).elim l1 (l1.sendingShutter m) else l1

theorem Link.placing_busy {m : SiteId} {l : Link} {e : ShutterEntry} (h : l.out ≠ none) :
    l.placing m e = { l with shutters := l.shutters ++ [e] } := if_neg h

theorem Link.placing_empty {m : SiteId} {l : Link} {e : ShutterEntry} (h : l.out = none) (hs : l.shutters = []) :
    l.placing m e = { l.sendingShutter m e with shutters := [] } := by
  unfold Link.placing
  rw [if_pos h, hs]
  simp [firstShutter, Link.sendingShutter]

theorem firstShutter_isSome {l : List ShutterEntry} (h : l ≠ []) : ∃ e, firstShutter l = some e := by
  cases l with
  | nil => exact absurd rfl h
  | cons e l =>
    unfold firstShutter
    split
    · exact ⟨e, rfl⟩
    · split <;> exact ⟨_, rfl⟩

@[simp] theorem Link.placing_queue (m : SiteId) (l : Link) (e : ShutterEntry) : (l.placing m e).queue = l.queue := by
  unfold Link.placing
  dsimp only
  split
  · cases firstShutter (l.shutters ++ [e]) <;> rfl
  · rfl

theorem State.addShutter_of_merges {s : State} {m : SiteId} {h : Handle} {c : Channel} {b : Bool}
    (hm : (s.link m).merges h c = true) : s.addShutter m (shutterEntry h c b) = some s := if_pos hm

theorem State.addShutter_of_room {s : State} {m : SiteId} {h : Handle} {c : Channel} {b : Bool}
    (hm : (s.link m).merges h c = false) (hl : (s.link m).shutters.length < 256) :
    s.addShutter m (shutterEntry h c b) = some (s.setLink m ((s.link m).placing m (shutterEntry h c b))) := by
  have hm' : ¬(s.link m).merges h c = true := by rw [hm]; decide
  unfold State.addShutter
  refine (if_neg hm').trans ((if_pos hl).trans (congrArg some ?_))
  generalize shutterEntry h c b = e
  by_cases ho : (s.link m).out = none
  · obtain ⟨f, hf⟩ := firstShutter_isSome (l := (s.link m).shutters ++ [e]) (by simp)
    rw [State.kick_of_shutter (e := f) (by rw [State.link_setLink_self]; exact ho) (by rw [State.link_setLink_self]; exact hf),
      State.link_setLink_self, State.setLink_setLink]
    unfold Link.placing
    rw [if_pos ho, hf]
    rfl
  · rw [State.kick_of_busy (by rw [State.link_setLink_self]; exact ho), Link.placing_busy ho]

theorem State.addShutter_of_full {s : State} {m : SiteId} {h : Handle} {c : Channel} {b : Bool}
    (hm : (s.link m).merges h c = false) (hl : 256 ≤ (s.link m).shutters.length) :
    s.addShutter m (shutterEntry h c b) = none := by
  have hm' : ¬(s.link m).merges h c = true := by rw [hm]; decide
  exact (if_neg hm').trans (if_neg (Nat.not_lt.mpr hl))

/-! ### A channel's placing -/

/-- Does a channel's shutter entry find no room in its module's set (R118)? -/
def State.noRoom (s : State) (h : Handle) : Bool :=
  !(s.link (s.chan h).dstSite).merges h (s.chan h) && decide (256 ≤ (s.link (s.chan h).dstSite).shutters.length)

/-- Does a channel's placing raise MOD_FAULT (R118, R121)? -/
def State.placeFaults (s : State) (h : Handle) : Bool :=
  s.noRoom h && (s.siteOn (s.chan h).dstSite && !(s.cond (s.chan h).dstSite).modFault.live)

/-- A channel's record after its placing (R9, R118). -/
def State.placedChan (s : State) (h : Handle) (bound : Bool) : Channel :=
  { s.chan h with applied := if bound || s.noRoom h then .blocked else (s.chan h).applied,
                  unconfirmed := s.noRoom h || (s.chan h).unconfirmed }

/-- What a placing does, as far as the other tables read it: `q` is the state after the placing of channel `h` in `p`. -/
structure State.Placing (p q : State) (h : Handle) (bound : Bool) : Prop where
  chan : ∀ g, q.chan g = if g = h then p.placedChan h bound else p.chan g
  sites : q.sites = p.sites
  taps : q.taps = p.taps
  waitList : q.waitList = p.waitList
  committed : q.committed = p.committed
  passDue : q.passDue = p.passDue
  entry : ∀ x, q.entry x = p.entry x
  free : ∀ k, p.slot k = none → q.slot k = none
  calm : p.placeFaults h = false → q.conds = p.conds ∧ q.slots = p.slots ∧ q.journal = p.journal ∧
    (q.link (p.chan h).dstSite).queue = (p.link (p.chan h).dstSite).queue
  fault : p.placeFaults h = true → q.cond (p.chan h).dstSite =
    { p.cond (p.chan h).dstSite with modFault := { live := true, sticky := true } }
  others : ∀ m, m ≠ (p.chan h).dstSite → q.cond m = p.cond m
  record : p.placeFaults h = true → recordCount p.journal.handOver < 256 → q.journal.handOver = p.journal.handOver ++
    [.record { kind := .condRaised, site := some (p.chan h).dstSite, code := 2, tick := p.tick }]
  busy : (p.link (p.chan h).dstSite).out ≠ none → (q.link (p.chan h).dstSite).out = (p.link (p.chan h).dstSite).out
  shutters : (p.link (p.chan h).dstSite).merges h (p.chan h) = true ∨ p.noRoom h = true ∧ (p.link (p.chan h).dstSite).out ≠ none →
    (q.link (p.chan h).dstSite).shutters = (p.link (p.chan h).dstSite).shutters
  placed : (p.link (p.chan h).dstSite).merges h (p.chan h) = false → p.noRoom h = false →
    q.link (p.chan h).dstSite = (p.link (p.chan h).dstSite).placing (p.chan h).dstSite (shutterEntry h (p.chan h) bound)

theorem State.noRoom_of_merges {s : State} {h : Handle} (hm : (s.link (s.chan h).dstSite).merges h (s.chan h) = true) :
    s.noRoom h = false := by
  unfold State.noRoom
  rw [hm]
  rfl

theorem State.noRoom_of_room {s : State} {h : Handle} (hl : (s.link (s.chan h).dstSite).shutters.length < 256) :
    s.noRoom h = false := by
  unfold State.noRoom
  rw [decide_eq_false (Nat.not_le.mpr hl), Bool.and_false]

/-- A placing that does not fail: the channel's record and one link are all that can change. -/
theorem State.Placing.of_link {p : State} {h : Handle} {bound : Bool} (hr : p.noRoom h = false) {l : Link}
    (hq : l.queue = (p.link (p.chan h).dstSite).queue)
    (ho : (p.link (p.chan h).dstSite).out ≠ none → l.out = (p.link (p.chan h).dstSite).out)
    (hm : (p.link (p.chan h).dstSite).merges h (p.chan h) = true → l.shutters = (p.link (p.chan h).dstSite).shutters)
    (hp : (p.link (p.chan h).dstSite).merges h (p.chan h) = false →
      l = (p.link (p.chan h).dstSite).placing (p.chan h).dstSite (shutterEntry h (p.chan h) bound)) :
    p.Placing ((p.setLink (p.chan h).dstSite l).setChan h
      { p.chan h with applied := if bound then .blocked else (p.chan h).applied }) h bound := by
  have calm : p.placeFaults h = false := by unfold State.placeFaults; rw [hr]; rfl
  have link : ((p.setLink (p.chan h).dstSite l).setChan h
      { p.chan h with applied := if bound then .blocked else (p.chan h).applied }).link (p.chan h).dstSite = l := by
    rw [State.link_setChan, State.link_setLink_self]
  refine ⟨fun g => ?_, rfl, rfl, rfl, rfl, rfl, fun x => by cases x <;> rfl, fun k hk => hk, fun _ => ⟨rfl, rfl, rfl, ?_⟩,
    fun hf => ?_, fun _ _ => rfl, fun hf => ?_, fun hb => ?_, fun hs => ?_, fun hn _ => ?_⟩
  · rw [State.chan_setChan, State.chan_setLink, State.placedChan, hr, Bool.or_false, Bool.false_or]
  · rw [link, hq]
  · rw [calm] at hf; cases hf
  · rw [calm] at hf; cases hf
  · rw [link, ho hb]
  · rw [link]
    rcases hs with hs | ⟨hs, -⟩
    · exact hm hs
    · rw [hr] at hs; cases hs
  · rw [link, hp hn]

section
variable {p : State} {h : Handle} (bound : Bool) (hr : p.noRoom h = true)
include hr

theorem State.placedChan_of_full : p.placedChan h bound = { p.chan h with applied := .blocked, unconfirmed := true } := by
  unfold State.placedChan
  rw [hr, Bool.or_true, if_pos rfl, Bool.true_or]

theorem State.not_merges_of_full : (p.link (p.chan h).dstSite).merges h (p.chan h) = false := by
  unfold State.noRoom at hr
  simpa using (Bool.and_eq_true_iff.mp hr).1

/-- A placing that finds no room at a site whose MOD_FAULT cannot rise changes the record alone. -/
theorem State.Placing.of_full_calm (hf : p.placeFaults h = false) :
    p.Placing (p.setChan h { p.chan h with applied := .blocked, unconfirmed := true }) h bound where
  chan g := by rw [State.placedChan_of_full bound hr, State.chan_setChan]
  sites := rfl
  taps := rfl
  waitList := rfl
  committed := rfl
  passDue := rfl
  entry x := State.entry_setChan _ _ _ x
  free _ := id
  calm _ := ⟨rfl, rfl, rfl, rfl⟩
  fault hf' := absurd (hf.symm.trans hf') (by decide)
  others _ _ := rfl
  record hf' := absurd (hf.symm.trans hf') (by decide)
  busy _ := rfl
  shutters _ := rfl
  placed _ hr' := absurd (hr.symm.trans hr') (by decide)

/-- A placing that finds no room raises MOD_FAULT of the destination's site (R118). -/
theorem State.Placing.of_full_fault (hf : p.placeFaults h = true) {t : State}
    (ht : t = p.setChan h { p.chan h with applied := .blocked, unconfirmed := true }) :
    p.Placing (t.riseBase (p.chan h).dstSite .modFault .noLight) h bound := by
  have hchan (g : Handle) : t.chan g = if g = h then p.placedChan h bound else p.chan g := by
    rw [ht, State.placedChan_of_full bound hr, State.chan_setChan]
  have hentry (x : EntryRef) : t.entry x = p.entry x := by rw [ht, State.entry_setChan]
  have hsites : t.sites = p.sites := by rw [ht]; rfl
  have htaps : t.taps = p.taps := by rw [ht]; rfl
  have hwait : t.waitList = p.waitList := by rw [ht]; rfl
  have hcommitted : t.committed = p.committed := by rw [ht]; rfl
  have hpass : t.passDue = p.passDue := by rw [ht]; rfl
  have hslot (k : SlotId) : t.slot k = p.slot k := by rw [ht]; rfl
  have hcond (n : SiteId) : t.cond n = p.cond n := by rw [ht]; rfl
  have hlink (n : SiteId) : t.link n = p.link n := by rw [ht]; rfl
  have hjournal : t.journal = p.journal := by rw [ht]; rfl
  have htick : t.tick = p.tick := by rw [ht]; rfl
  clear ht
  obtain ⟨⟨-, gsites, gtaps, -, gwait, gcommitted, gentry, gothers, -⟩, gpass, -⟩ :=
    t.condRaised_riseBase (p.chan h).dstSite .modFault .noLight
  have gslot := (riseBase_steady t (p.chan h).dstSite .modFault .noLight).alike.slot
  have gcond := t.cond_riseBase (p.chan h).dstSite .modFault .noLight
  have gchan := chan_riseBase t (p.chan h).dstSite .modFault .noLight
  have grecord := State.record_riseBase (s := t) (p.chan h).dstSite .modFault .noLight
  have gbusy : t.keepsBusy (t.riseBase (p.chan h).dstSite .modFault .noLight) (p.chan h).dstSite := by
    rw [t.riseBase_eq]
    exact t.keepsBusy_condStep _ _ _ _
  generalize t.riseBase (p.chan h).dstSite .modFault .noLight = q at *
  refine
    { chan := fun g => (gchan g).trans (hchan g)
      sites := gsites.trans hsites
      taps := gtaps.trans htaps
      waitList := gwait.trans hwait
      committed := gcommitted.trans hcommitted
      passDue := gpass.trans hpass
      entry := fun x => (gentry x).trans (hentry x)
      free := fun k hk => ?_
      calm := fun hf' => absurd (hf.symm.trans hf') (by decide)
      fault := fun _ => gcond.trans ?_
      others := fun m hm => (gothers m hm).trans (hcond m)
      record := fun _ hroom => ?_
      busy := fun ho => ?_
      shutters := fun hs => ?_
      placed := fun _ hr' => absurd (hr.symm.trans hr') (by decide) }
  · have := gslot k
    rw [hslot, hk] at this
    simpa using this
  · unfold State.risen
    rw [hcond]
  · rw [grecord (by rw [hjournal]; exact hroom), hjournal, htick]
    rfl
  · rw [(gbusy (by rw [hlink]; exact ho)).1, hlink]
  · rcases hs with hs | ⟨-, ho⟩
    · rw [State.not_merges_of_full hr] at hs; cases hs
    · rw [(gbusy (by rw [hlink]; exact ho)).2, hlink]

end

theorem State.setChan_self (s : State) (h : Handle) : s.setChan h (s.chan h) = s := by
  simp [State.setChan, State.chan, Vector.get_eq_getElem]

/-- What the placing of a channel's shutter entry does (R118). -/
theorem State.placing (p : State) (h : Handle) (bound : Bool) : p.Placing (p.placeShutter h bound) h bound := by
  have same (t : State) : (if bound then t.setChan h { t.chan h with applied := .blocked } else t) =
      t.setChan h { t.chan h with applied := if bound then .blocked else (t.chan h).applied } := by
    cases bound with
    | true => rfl
    | false => exact (State.setChan_self t h).symm
  unfold State.placeShutter
  dsimp only
  cases hm : (p.link (p.chan h).dstSite).merges h (p.chan h) with
  | true =>
    rw [State.addShutter_of_merges hm]
    have w := State.Placing.of_link (bound := bound) (State.noRoom_of_merges hm) (l := p.link (p.chan h).dstSite) rfl (fun _ => rfl) (fun _ => rfl)
      fun hn => absurd (hm.symm.trans hn) (by decide)
    rw [State.setLink_link] at w
    dsimp only
    rw [same]
    exact w
  | false =>
    by_cases hl : (p.link (p.chan h).dstSite).shutters.length < 256
    · rw [State.addShutter_of_room hm hl]
      have w := State.Placing.of_link (bound := bound) (State.noRoom_of_room hl)
        (l := (p.link (p.chan h).dstSite).placing (p.chan h).dstSite (shutterEntry h (p.chan h) bound)) (Link.placing_queue _ _ _)
        (fun ho => by rw [Link.placing_busy ho]) (fun hm' => absurd (hm.symm.trans hm') (by decide)) fun _ => rfl
      dsimp only
      rw [same]
      exact w
    · have hr : p.noRoom h = true := by
        unfold State.noRoom
        rw [hm, decide_eq_true (Nat.not_lt.mp hl)]
        rfl
      rw [State.addShutter_of_full hm (Nat.not_lt.mp hl)]
      dsimp only
      have hsame : ((p.setChan h { p.chan h with applied := .blocked, unconfirmed := true }).siteOn (p.chan h).dstSite &&
          !((p.setChan h { p.chan h with applied := .blocked, unconfirmed := true }).cond (p.chan h).dstSite).modFault.live) =
          p.placeFaults h := by
        unfold State.placeFaults
        rw [hr, Bool.true_and]
        rfl
      unfold State.raiseModFault
      rw [hsame]
      split
      · rename_i hf
        exact State.Placing.of_full_fault bound hr hf rfl
      · rename_i hf
        exact State.Placing.of_full_calm bound hr (by simpa using hf)

end Sys2Proof.Machine
end

section
/-!
SUPPORT. The SHUTTER action on one channel (R145, R146, Table 8-3): the channel without its transition and LEVEL work, its entry placed, and
its end in DARK or in FREE.
-/

namespace Sys2Proof.Machine

open Sys2Proof

/-! ### A channel without its transition and its LEVEL work (R17, R117) -/

/-- A channel's transition has been removed, and its LEVEL work withdrawn. -/
def State.dimmed (s : State) (h : Handle) : State := (s.dropTransition h).dropLevel (s.chan h).dstSite h

/-- Does a removal of a channel's transition detach an outstanding message (R111)? -/
def State.losesRamp (s : State) (h : Handle) (o : Outstanding) : Bool :=
  match o.bind with
  | .slot k => decide ((s.chan h).pending = some (.slot k)) && (s.slot k).any fun x => decide (x.drive = .sent)
  | .channel _ => false
  | .detached => false

/-- Does a removal of a channel's transition leave a request in its queue (R111)? -/
def State.keepsRamp (s : State) (h : Handle) : Request → Bool
  | .ramp k => !decide ((s.chan h).pending = some (.slot k)) || (s.slot k).all fun x => decide (x.drive ≠ .queued)
  | .level _ _ => true

/-- The slot of a channel, if it has one, is of its destination's module. -/
def State.slotHere (s : State) (h : Handle) : Prop :=
  ∀ k x, (s.chan h).pending = some (.slot k) → s.slot k = some x → x.dest = (s.chan h).dstSite

section
variable (s : State) (h : Handle)

theorem State.dimmed_channels : SameButChannels s (s.dimmed h) :=
  (dropTransition_channels s h).trans (dropLevel_only _ _ _).channels

theorem State.chan_dimmed (g : Handle) : (s.dimmed h).chan g = if g = h then (s.chan h).rested else s.chan g := by
  unfold State.dimmed
  rw [(dropLevel_only _ _ _).chan, chan_dropTransition]
  rfl

theorem State.tables_dimmed : (s.dimmed h).waitList = (s.dropTransition h).waitList ∧
    (s.dimmed h).committed = (s.dropTransition h).committed ∧ (s.dimmed h).passDue = (s.dropTransition h).passDue ∧
    (s.dimmed h).slots = (s.dropTransition h).slots :=
  ⟨State.dropLevel_waitList _ _ _, State.dropLevel_committed _ _ _, State.dropLevel_passDue _ _ _, State.dropLevel_slots _ _ _⟩

theorem State.entry_dimmed (x : EntryRef) : (s.dimmed h).entry x = s.entry x := by
  unfold State.dimmed
  rw [(dropLevel_only _ _ _).entry, State.entry_dropTransition]

theorem State.link_dimmed (m : SiteId) :
    (s.dimmed h).link m =
      if m = (s.chan h).dstSite then ((s.dropTransition h).link m).withoutLevel h else (s.dropTransition h).link m :=
  State.link_dropLevel _ _ _ _

/-- The shutter sets and sequence numbers stand, and an idle module stays idle. -/
theorem State.link_dropTransition_rest (m : SiteId) :
    ((s.dropTransition h).link m).shutters = (s.link m).shutters ∧ ((s.dropTransition h).link m).seq = (s.link m).seq ∧
    (((s.dropTransition h).link m).out = none ↔ (s.link m).out = none) := by
  rw [State.link_dropTransition]
  cases hp : (s.chan h).pending with
  | none => exact ⟨rfl, rfl, Iff.rfl⟩
  | some r =>
    cases r with
    | waiting => exact ⟨rfl, rfl, Iff.rfl⟩
    | slot k =>
      dsimp only
      cases hx : s.slot k with
      | none => rw [State.endSlot_of_none hx]; exact ⟨rfl, rfl, Iff.rfl⟩
      | some x =>
        rw [State.link_endSlot hx]
        split
        · cases hd : x.drive <;> simp [Link.withoutSlot]
        · exact ⟨rfl, rfl, Iff.rfl⟩

theorem State.link_dimmed_rest (m : SiteId) :
    ((s.dimmed h).link m).shutters = (s.link m).shutters ∧ ((s.dimmed h).link m).seq = (s.link m).seq ∧
    (((s.dimmed h).link m).out = none ↔ (s.link m).out = none) := by
  obtain ⟨h1, h2, h3⟩ := s.link_dropTransition_rest h m
  rw [s.link_dimmed]
  split
  · exact ⟨h1, h2, by simpa [Link.withoutLevel] using h3⟩
  · exact ⟨h1, h2, h3⟩

end

section
variable {s : State} {h : Handle} (hd : s.slotHere h)
include hd

theorem State.out_dropTransition {o : Outstanding} (ho : (s.link (s.chan h).dstSite).out = some o) :
    ((s.dropTransition h).link (s.chan h).dstSite).out = some (o.detachIf (s.losesRamp h o)) := by
  rw [State.link_dropTransition]
  have stays (hl : s.losesRamp h o = false) : (s.link (s.chan h).dstSite).out = some (o.detachIf (s.losesRamp h o)) := by
    rw [hl, ho]; rfl
  have none_of (hp : ∀ k, (s.chan h).pending ≠ some (.slot k)) : s.losesRamp h o = false := by
    unfold State.losesRamp
    split
    · rw [decide_eq_false (hp _), Bool.false_and]
    · rfl
    · rfl
  cases hp : (s.chan h).pending with
  | none => exact stays (none_of (by simp [hp]))
  | some r =>
    cases r with
    | waiting => exact stays (none_of (by simp [hp]))
    | slot k =>
      dsimp only
      cases hx : s.slot k with
      | none =>
        rw [State.endSlot_of_none hx]
        refine stays ?_
        unfold State.losesRamp
        split
        · rename_i j _
          by_cases hj : k = j
          · subst hj; simp [hx]
          · simp [hp, hj]
        · rfl
        · rfl
      | some x =>
        rw [State.link_endSlot hx, if_pos (hd k x hp hx).symm]
        have loses : s.losesRamp h o = (decide (o.bind = .slot k) && decide (x.drive = .sent)) := by
          unfold State.losesRamp
          cases hb : o.bind with
          | slot j =>
            by_cases hj : k = j
            · subst hj; simp [hp, hx]
            · simp [hp, hj, Ne.symm hj]
          | channel _ => simp
          | detached => simp
        rw [loses]
        cases hdr : x.drive <;> simp [Link.withoutSlot, ho, Outstanding.detachIf]

theorem State.queue_dropTransition :
    ((s.dropTransition h).link (s.chan h).dstSite).queue = (s.link (s.chan h).dstSite).queue.filter (s.keepsRamp h) := by
  rw [State.link_dropTransition]
  have stays (hk : ∀ k, .ramp k ∈ (s.link (s.chan h).dstSite).queue → s.keepsRamp h (.ramp k) = true) :
      (s.link (s.chan h).dstSite).queue = (s.link (s.chan h).dstSite).queue.filter (s.keepsRamp h) :=
    (List.filter_eq_self.mpr fun r hr => by
      cases r with
      | ramp k => exact hk k hr
      | level _ _ => rfl).symm
  cases hp : (s.chan h).pending with
  | none => exact stays fun k _ => by simp [State.keepsRamp, hp]
  | some r =>
    cases r with
    | waiting => exact stays fun k _ => by simp [State.keepsRamp, hp]
    | slot k =>
      dsimp only
      cases hx : s.slot k with
      | none =>
        rw [State.endSlot_of_none hx]
        refine stays fun j _ => ?_
        by_cases hj : k = j
        · subst hj; simp [State.keepsRamp, hx]
        · simp [State.keepsRamp, hp, hj]
      | some x =>
        rw [State.link_endSlot hx, if_pos (hd k x hp hx).symm]
        have other (hne : x.drive ≠ .queued) : (s.link (s.chan h).dstSite).queue =
            (s.link (s.chan h).dstSite).queue.filter (s.keepsRamp h) := stays fun j _ => by
          by_cases hj : k = j
          · subst hj; simp [State.keepsRamp, hx, hne]
          · simp [State.keepsRamp, hp, hj]
        cases hdr : x.drive with
        | queued =>
          refine List.filter_congr fun r _ => ?_
          cases r with
          | level _ _ => rfl
          | ramp j =>
            by_cases hj : k = j
            · subst hj; simp [State.keepsRamp, hp, hx, hdr]
            · simp [State.keepsRamp, hp, hj, Ne.symm hj]
        | sent => exact other (by simp [hdr])
        | pacing _ => exact other (by simp [hdr])
        | stopped => exact other (by simp [hdr])

theorem State.out_dimmed {o : Outstanding} (ho : (s.link (s.chan h).dstSite).out = some o) :
    ((s.dimmed h).link (s.chan h).dstSite).out =
      some (o.detachIf (s.losesRamp h o || decide (o.bind = .channel h ∧ o.msg.cls = .level))) := by
  rw [s.link_dimmed, if_pos rfl, Link.withoutLevel, State.out_dropTransition hd ho]
  unfold Outstanding.detachIf
  cases s.losesRamp h o <;> simp

theorem State.queue_dimmed :
    ((s.dimmed h).link (s.chan h).dstSite).queue =
      (s.link (s.chan h).dstSite).queue.filter fun r => !r.isLevelOf h && s.keepsRamp h r := by
  rw [s.link_dimmed, if_pos rfl, Link.withoutLevel, State.queue_dropTransition hd, List.filter_filter]

end

/-! ### A channel after its placing, if it has one -/

/-- What the removals and the placing for channel `h` have made of `s`, as far as the tables read it; `fl` says that MOD_FAULT rose. -/
structure State.Shut (s q : State) (h : Handle) (fl : Bool) : Prop where
  others : ∀ g, g ≠ h → q.chan g = s.chan g
  pending : (q.chan h).pending = none
  footprint : (q.chan h).footprint = (s.chan h).footprint
  dstSite : (q.chan h).dstSite = (s.chan h).dstSite
  outer : q.outer = s.outer
  sites : q.sites = s.sites
  taps : q.taps = s.taps
  waitList : q.waitList = (s.dropTransition h).waitList
  committed : q.committed = (s.dropTransition h).committed
  passDue : q.passDue = (s.passDue || s.dropDue h)
  entry : ∀ x, q.entry x = s.entry x
  free : ∀ k, (s.dropTransition h).slot k = none → q.slot k = none
  calm : fl = false → q.conds = s.conds ∧ q.slots = (s.dropTransition h).slots ∧ q.journal = s.journal ∧
    (q.link (s.chan h).dstSite).queue = ((s.dimmed h).link (s.chan h).dstSite).queue
  fault : fl = true → q.cond (s.chan h).dstSite =
    { s.cond (s.chan h).dstSite with modFault := { live := true, sticky := true } }
  conds : ∀ m, m ≠ (s.chan h).dstSite → q.cond m = s.cond m
  record : fl = true → recordCount s.journal.handOver < 256 → q.journal.handOver = s.journal.handOver ++
    [.record { kind := .condRaised, site := some (s.chan h).dstSite, code := 2, tick := s.tick }]
  busy : (s.link (s.chan h).dstSite).out ≠ none →
    (q.link (s.chan h).dstSite).out = ((s.dimmed h).link (s.chan h).dstSite).out

/-- The record of a channel without its transition, written again but for its transition, ends and range. -/
theorem State.Shut.of_record {s : State} {h : Handle} {c : Channel} (hp : c.pending = none) (hf : c.footprint = (s.chan h).footprint)
    (hd : c.dstSite = (s.chan h).dstSite) : s.Shut ((s.dimmed h).setChan h c) h false := by
  obtain ⟨hwait, hcommitted, hpass, hslots⟩ := s.tables_dimmed h
  have hc := s.dimmed_channels h
  have hslot (k : SlotId) : (s.dimmed h).slot k = (s.dropTransition h).slot k := congrArg (fun v => Vector.get v k) hslots
  have houter : (s.dimmed h).outer = s.outer := by simp [State.dimmed]
  have hchan := s.chan_dimmed h
  have hentry := s.entry_dimmed h
  rw [State.passDue_dropTransition] at hpass
  generalize ht : s.dimmed h = t at *
  exact
    { others := fun g hg => by rw [State.chan_setChan, if_neg hg, hchan, if_neg hg]
      pending := by rw [State.chan_setChan, if_pos rfl]; exact hp
      footprint := by rw [State.chan_setChan, if_pos rfl]; exact hf
      dstSite := by rw [State.chan_setChan, if_pos rfl]; exact hd
      outer := houter
      sites := hc.sites
      taps := hc.taps
      waitList := hwait
      committed := hcommitted
      passDue := hpass
      entry := fun x => (State.entry_setChan _ _ _ x).trans (hentry x)
      free := fun k hk => (hslot k).trans hk
      calm := fun _ => ⟨hc.conds, hslots, hc.journal, by rw [ht]; rfl⟩
      fault := fun hf => absurd hf (by decide)
      conds := fun m _ => hc.cond m
      record := fun hf => absurd hf (by decide)
      busy := fun _ => by rw [ht]; rfl }

/-! ### With a placing -/

section
variable {s p q : State} {h : Handle} {b : Bool}

/-- A placing after the removals finds the module's set, the site and the range as they were. -/
theorem State.noRoom_dimmed {c : Channel} (hf : c.first = (s.chan h).first) (hc : c.count = (s.chan h).count)
    (hd : c.dstSite = (s.chan h).dstSite) :
    ((s.dimmed h).setChan h c).noRoom h = s.noRoom h ∧ ((s.dimmed h).setChan h c).placeFaults h = s.placeFaults h := by
  have hchan : ((s.dimmed h).setChan h c).chan h = c := by rw [State.chan_setChan, if_pos rfl]
  have hsh : ((s.dimmed h).link (s.chan h).dstSite).shutters = (s.link (s.chan h).dstSite).shutters :=
    (s.link_dimmed_rest h _).1
  have hroom : ((s.dimmed h).setChan h c).noRoom h = s.noRoom h := by
    unfold State.noRoom Link.merges
    rw [hchan, hd, State.link_setChan, hsh, hf, hc]
  refine ⟨hroom, ?_⟩
  unfold State.placeFaults State.siteOn
  rw [hroom, hchan, hd, State.site_setChan, State.cond_setChan, (s.dimmed_channels h).site, (s.dimmed_channels h).cond]

theorem State.Shut.placed (w : s.Shut p h false) (g : p.Placing q h b) (hq : q.outer = p.outer) : s.Shut q h (p.placeFaults h) where
  others x hx := by rw [g.chan, if_neg hx, w.others x hx]
  pending := by rw [g.chan, if_pos rfl]; exact w.pending
  footprint := by rw [g.chan, if_pos rfl]; exact w.footprint
  dstSite := by rw [g.chan, if_pos rfl]; exact w.dstSite
  outer := hq.trans w.outer
  sites := g.sites.trans w.sites
  taps := g.taps.trans w.taps
  waitList := g.waitList.trans w.waitList
  committed := g.committed.trans w.committed
  passDue := g.passDue.trans w.passDue
  entry x := (g.entry x).trans (w.entry x)
  free k hk := g.free k (w.free k hk)
  calm hf := by
    obtain ⟨hc, hs, hj, hl⟩ := g.calm hf
    obtain ⟨wc, ws, wj, wl⟩ := w.calm rfl
    rw [w.dstSite] at hl
    exact ⟨hc.trans wc, hs.trans ws, hj.trans wj, hl.trans wl⟩
  fault hf := by
    have hg := g.fault hf
    have hc : p.cond (s.chan h).dstSite = s.cond (s.chan h).dstSite := congrArg (fun v => Vector.get v _) (w.calm rfl).1
    rwa [w.dstSite, hc] at hg
  conds m hm := (g.others m (by rwa [w.dstSite])).trans (w.conds m hm)
  record hf hroom := by
    have hj := (w.calm rfl).2.2.1
    have hg := g.record hf (by rwa [hj])
    have ht : p.tick = s.tick := congrArg Outer.tick w.outer
    rwa [w.dstSite, hj, ht] at hg
  busy ho := by
    have hp : (p.link (s.chan h).dstSite).out = ((s.dimmed h).link (s.chan h).dstSite).out := w.busy ho
    have hg := g.busy (by rw [w.dstSite, hp]; exact fun hn => ho (((s.link_dimmed_rest h _).2.2).mp hn))
    rwa [w.dstSite, hp] at hg

end

/-! ### The end of the action: left in DARK, or returned to FREE, and what is handed over -/

/-- A channel after its placing is left as it is, or returns to FREE, and items are handed over. -/
def State.shutEnd (q : State) (h : Handle) (freed : Bool) (items : List Item) : State :=
  (if freed then q.toFree h [] else q).handOver items

section
variable {s q : State} {h : Handle} {fl freed : Bool} (w : s.Shut q h fl) (items : List Item)
include w

theorem State.Shut.dropTransition : q.dropTransition h = q.setChan h (q.chan h).rested :=
  State.dropTransition_of_none w.pending

theorem State.Shut.end_chan_ne {g : Handle} (hg : g ≠ h) : (q.shutEnd h freed items).chan g = s.chan g := by
  unfold State.shutEnd
  rw [chan_handOver]
  cases freed with
  | true => rw [if_pos rfl, chan_toFree, if_neg hg, w.others g hg]
  | false => exact w.others g hg

theorem State.Shut.end_tables : (q.shutEnd h freed items).outer = s.outer ∧ (q.shutEnd h freed items).sites = s.sites ∧
    (q.shutEnd h freed items).taps = s.taps ∧ (q.shutEnd h freed items).waitList = (s.dropTransition h).waitList ∧
    (q.shutEnd h freed items).committed = (s.dropTransition h).committed ∧ (q.shutEnd h freed items).conds = q.conds ∧
    (q.shutEnd h freed items).slots = q.slots := by
  unfold State.shutEnd
  cases freed with
  | true =>
    have hc := toFree_channels q h []
    rw [if_pos rfl]
    refine ⟨by simp [w.outer], ?_, ?_, ?_, ?_, ?_, ?_⟩
    · rw [State.handOver_sites, hc.sites, w.sites]
    · rw [State.handOver_taps, hc.taps, w.taps]
    · rw [State.handOver_waitList, State.waitList_toFree, w.dropTransition, State.setChan_waitList, w.waitList]
    · rw [State.handOver_committed, State.committed_toFree, w.dropTransition, State.setChan_committed, w.committed]
    · rw [State.handOver_conds, hc.conds]
    · rw [State.handOver_slots, State.slots_toFree, w.dropTransition, State.setChan_slots]
  | false =>
    refine ⟨by simp [w.outer], ?_, ?_, ?_, ?_, ?_, ?_⟩
    · rw [State.handOver_sites]; exact w.sites
    · rw [State.handOver_taps]; exact w.taps
    · rw [State.handOver_waitList]; exact w.waitList
    · rw [State.handOver_committed]; exact w.committed
    · rw [State.handOver_conds]; rfl
    · rw [State.handOver_slots]; rfl

theorem State.Shut.end_entry (x : EntryRef) : (q.shutEnd h freed items).entry x =
    if x ∉ (s.chan h).footprint ∨ freed = false then s.entry x else ((s.entry x).passOn h).unclaim h := by
  unfold State.shutEnd
  rw [State.entry_handOver]
  cases freed with
  | true =>
    rw [if_pos rfl, State.entry_toFree, w.footprint, w.entry]
    by_cases hx : x ∈ (s.chan h).footprint
    · rw [if_pos hx, if_neg (by simp [hx])]
    · rw [if_neg hx, if_pos (Or.inl hx)]
  | false => rw [if_pos (Or.inr rfl)]; exact w.entry x

theorem State.Shut.end_passDue : (q.shutEnd h freed items).passDue =
    (s.passDue || s.dropDue h || (freed && (s.chan h).footprint.any fun x => (s.entry x).passes h [])) := by
  unfold State.shutEnd
  rw [State.handOver_passDue]
  cases freed with
  | true =>
    have hdue : q.dropDue h = false := by unfold State.dropDue; rw [w.pending]
    rw [if_pos rfl, State.passDue_toFree, w.passDue, hdue, w.footprint, Bool.or_false, Bool.true_and]
    simp only [w.entry]
  | false => rw [Bool.false_and, Bool.or_false]; exact w.passDue

/-- The link of the channel's module: as the placing left it, and for a channel that is freed without its work there. -/
theorem State.Shut.end_link : (q.shutEnd h freed items).link (s.chan h).dstSite =
    if freed then ((q.link (s.chan h).dstSite).withoutLevel h).withUnbound h else q.link (s.chan h).dstSite := by
  unfold State.shutEnd
  rw [State.link_handOver]
  cases freed with
  | true => rw [if_pos rfl, if_pos rfl, State.link_toFree, if_pos w.dstSite.symm, w.dropTransition, State.link_setChan]
  | false => rfl

/-- What is handed over, where there is room (R184). -/
theorem State.Shut.end_journal (hitems : recordCount items ≤ 1) (hroom : recordCount s.journal.handOver < 255) :
    (q.shutEnd h freed items).journal.handOver = s.journal.handOver ++
      (if fl then [.record { kind := .condRaised, site := some (s.chan h).dstSite, code := 2, tick := s.tick }] else []) ++ items := by
  have hq : q.journal.handOver = s.journal.handOver ++
      (if fl then [.record { kind := .condRaised, site := some (s.chan h).dstSite, code := 2, tick := s.tick }] else []) := by
    cases fl with
    | true => exact w.record rfl (by omega)
    | false => rw [(w.calm rfl).2.2.1]; simp
  have hj : (if freed then q.toFree h [] else q).journal = q.journal := by
    cases freed with
    | true => exact (toFree_channels q h []).journal
    | false => rfl
  have hcount : recordCount q.journal.handOver ≤ recordCount s.journal.handOver + 1 := by
    rw [hq, recordCount_append]
    cases fl <;> simp [recordCount]
  unfold State.shutEnd
  rw [State.handOver_of_room (by rw [hj]; omega)]
  dsimp only
  rw [hj, hq]

end

end Sys2Proof.Machine
end

section
/-!
SUPPORT. Table 8-3, row by row: which channels the SHUTTER action reaches, what it makes of their records, and what becomes of their
module's link.
-/

namespace Sys2Proof.Machine

open Sys2Proof

/-! ### The rows of Table 8-3 -/

/-- A DARK channel whose RISE waits. -/
def State.risesDark (s : State) (h : Handle) : Prop := (s.chan h).state = .dark ∧ s.waits h .rise = true

/-- A channel whose FALL ends DONE. -/
def State.fallsDark (s : State) (h : Handle) : Prop :=
  (s.chan h).state = .falling ∨ (s.chan h).state = .active ∧ s.waits h .fall = true

/-- A lit channel that is left DARK. -/
def State.litDark (s : State) (h : Handle) : Prop :=
  ((s.chan h).state = .rising ∨ (s.chan h).state = .adjusting ∨ (s.chan h).state = .active) ∧ ¬s.fallsDark h

/-- Does the SHUTTER action of a site reach a channel (R145)? -/
def State.reachedFrom (s : State) (n : SiteId) (h : Handle) : Prop := (s.chan h).state ≠ .free ∧ (s.chan h).srcSite = n

/-- What is handed over for a channel that is left DARK (R146). -/
def State.shutItems (s : State) (n : SiteId) (h : Handle) : List Item :=
  s.finalPosts (s.chan h).desc .shuttered (s.chan h).clamped h ++ [.record (shutteredRecord s.tick n h (s.chan h).desc)]

/-- What is handed over for a channel whose FALL ends (R146). -/
def State.fallItems (s : State) (h : Handle) : List Item :=
  match (s.chan h).desc with
  | none => []
  | some d => s.outcomePosts d .done false 0 h ++ [.record (outcomeRecord s .done .done (s.chan h) h d)]

/-- A channel without its transition and LEVEL work, in a state and shuttered-by given. -/
def State.dimmedAs (s : State) (h : Handle) (st : ChanState) (n : Option SiteId) : State :=
  (s.dimmed h).setChan h { (s.chan h).rested with state := st, shutteredBy := n }

section
variable {s : State} {n : SiteId} {h : Handle}

theorem shutterOne_of_not_reached (hr : ¬s.reachedFrom n h) : State.shutterOne n s h = s :=
  if_pos (by unfold State.reachedFrom at hr; rwa [not_and_or, not_not] at hr)

theorem shutterOne_of_dark (hs : (s.chan h).state = .dark) (hr : ¬s.risesDark h) : State.shutterOne n s h = s := by
  have hw : ¬s.waits h .rise = true := fun hw => hr ⟨hs, hw⟩
  by_cases hn : s.reachedFrom n h
  · unfold State.shutterOne
    dsimp only
    rw [if_neg (by rw [not_or, not_not]; exact hn), hs]
    exact if_neg hw
  · exact shutterOne_of_not_reached hn

theorem State.chan_dimmed_self (s : State) (h : Handle) : (s.dimmed h).chan h = (s.chan h).rested := by
  rw [s.chan_dimmed, if_pos rfl]

theorem darken_eq (s : State) (n : SiteId) (h : Handle) (entry : Bool) : s.darken n h entry =
    (if entry then (s.dimmedAs h .dark (some n)).placeShutter h true else s.dimmedAs h .dark (some n)).shutEnd h false (s.shutItems n h) := by
  unfold State.dimmedAs
  rw [← s.chan_dimmed_self h]
  rfl

theorem endFall_eq (s : State) (h : Handle) : s.endFall h =
    ((s.dimmedAs h (s.chan h).state (s.chan h).shutteredBy).placeShutter h false).shutEnd h true (s.fallItems h) := by
  have hd : s.dimmedAs h (s.chan h).state (s.chan h).shutteredBy = s.dimmed h := by
    unfold State.dimmedAs
    refine Eq.trans ?_ (State.setChan_self (s.dimmed h) h)
    rw [s.chan_dimmed_self h]
    rfl
  rw [hd]
  unfold State.endFall State.shutEnd State.fallItems
  rw [if_pos rfl]
  rfl

theorem shutterOne_of_rise (hr : s.reachedFrom n h) (hs : s.risesDark h) : State.shutterOne n s h = s.darken n h false := by
  unfold State.shutterOne
  dsimp only
  rw [if_neg (by rw [not_or, not_not]; exact hr), hs.1]
  exact if_pos hs.2

theorem shutterOne_of_lit (hr : s.reachedFrom n h) (hs : s.litDark h) : State.shutterOne n s h = s.darken n h true := by
  obtain ⟨hst, hf⟩ := hs
  unfold State.shutterOne
  dsimp only
  rw [if_neg (by rw [not_or, not_not]; exact hr)]
  rcases hst with hst | hst | hst
  · rw [hst]
  · rw [hst]
  · have hw : ¬s.waits h .fall = true := fun hw => hf (.inr ⟨hst, hw⟩)
    rw [hst]
    exact if_neg hw

theorem shutterOne_of_fall (hr : s.reachedFrom n h) (hs : s.fallsDark h) : State.shutterOne n s h = s.endFall h := by
  unfold State.shutterOne
  dsimp only
  rw [if_neg (by rw [not_or, not_not]; exact hr)]
  rcases hs with hst | ⟨hst, hw⟩
  · rw [hst]
  · rw [hst]
    exact if_pos hw

/-! ### The three rows as removals, a placing and an end -/

theorem State.dimmedAs_shut (s : State) (h : Handle) (st : ChanState) (b : Option SiteId) : s.Shut (s.dimmedAs h st b) h false :=
  .of_record rfl rfl rfl

theorem State.chan_dimmedAs (s : State) (h : Handle) (st : ChanState) (b : Option SiteId) :
    (s.dimmedAs h st b).chan h = { (s.chan h).rested with state := st, shutteredBy := b } := by
  unfold State.dimmedAs
  rw [State.chan_setChan, if_pos rfl]

theorem State.noRoom_dimmedAs (s : State) (h : Handle) (st : ChanState) (b : Option SiteId) :
    (s.dimmedAs h st b).noRoom h = s.noRoom h ∧ (s.dimmedAs h st b).placeFaults h = s.placeFaults h :=
  State.noRoom_dimmed (s := s) (h := h) (c := { (s.chan h).rested with state := st, shutteredBy := b }) rfl rfl rfl

theorem State.dimmedAs_placed (s : State) (h : Handle) (st : ChanState) (b : Option SiteId) (bound : Bool) :
    s.Shut ((s.dimmedAs h st b).placeShutter h bound) h (s.placeFaults h) := by
  rw [← (s.noRoom_dimmedAs h st b).2]
  exact (s.dimmedAs_shut h st b).placed (State.placing _ _ _) (State.outer_placeShutter _ _ _)

theorem State.chan_dimmedAs_placed (s : State) (h : Handle) (st : ChanState) (b : Option SiteId) :
    ((s.dimmedAs h st b).placeShutter h true).chan h =
      { (s.chan h).rested with state := st, shutteredBy := b, applied := .blocked, unconfirmed := s.noRoom h || (s.chan h).unconfirmed } := by
  rw [(State.placing _ _ _).chan, if_pos rfl, State.placedChan, (s.noRoom_dimmedAs h st b).1, s.chan_dimmedAs]
  rfl

/-! ### The module's link -/

theorem State.shutters_dimmedAs (st : ChanState) (b : Option SiteId) :
    ((s.dimmedAs h st b).link (s.chan h).dstSite).shutters = (s.link (s.chan h).dstSite).shutters :=
  (s.link_dimmed_rest h _).1

theorem State.idle_dimmedAs (st : ChanState) (b : Option SiteId) :
    ((s.dimmedAs h st b).link (s.chan h).dstSite).out = none ↔ (s.link (s.chan h).dstSite).out = none :=
  (s.link_dimmed_rest h _).2.2

section
variable (st : ChanState) (b : Option SiteId) (bound : Bool)

theorem State.merges_dimmedAs :
    ((s.dimmedAs h st b).link ((s.dimmedAs h st b).chan h).dstSite).merges h ((s.dimmedAs h st b).chan h) =
      (s.link (s.chan h).dstSite).merges h (s.chan h) := by
  unfold Link.merges
  rw [s.chan_dimmedAs, show ({ (s.chan h).rested with state := st, shutteredBy := b } : Channel).dstSite = (s.chan h).dstSite from rfl,
    State.shutters_dimmedAs]
  rfl

/-- A placing that merges, or finds a busy module's set full, leaves the set. -/
theorem State.shutters_of_still (hs : (s.link (s.chan h).dstSite).merges h (s.chan h) = true ∨
    s.noRoom h = true ∧ (s.link (s.chan h).dstSite).out ≠ none) :
    (((s.dimmedAs h st b).placeShutter h bound).link (s.chan h).dstSite).shutters = (s.link (s.chan h).dstSite).shutters := by
  have g := (State.placing (s.dimmedAs h st b) h bound).shutters
  rw [State.merges_dimmedAs, (s.noRoom_dimmedAs h st b).1, s.chan_dimmedAs] at g
  have g' := g (hs.imp_right fun hn => ⟨hn.1, fun hi => hn.2 ((State.idle_dimmedAs st b).mp hi)⟩)
  exact g'.trans (State.shutters_dimmedAs st b)

/-- The link after a placing that is added to the set. -/
theorem State.link_of_added (hm : (s.link (s.chan h).dstSite).merges h (s.chan h) = false) (hr : s.noRoom h = false) :
    ((s.dimmedAs h st b).placeShutter h bound).link (s.chan h).dstSite =
      ((s.dimmedAs h st b).link (s.chan h).dstSite).placing (s.chan h).dstSite (shutterEntry h (s.chan h) bound) := by
  have g := (State.placing (s.dimmedAs h st b) h bound).placed
  rw [State.merges_dimmedAs, (s.noRoom_dimmedAs h st b).1, s.chan_dimmedAs] at g
  exact g hm hr

theorem State.shutters_of_added (hm : (s.link (s.chan h).dstSite).merges h (s.chan h) = false) (hr : s.noRoom h = false)
    (ho : (s.link (s.chan h).dstSite).out ≠ none) :
    (((s.dimmedAs h st b).placeShutter h bound).link (s.chan h).dstSite).shutters =
      (s.link (s.chan h).dstSite).shutters ++ [shutterEntry h (s.chan h) bound] := by
  rw [State.link_of_added st b bound hm hr, Link.placing_busy fun hi => ho ((State.idle_dimmedAs st b).mp hi)]
  dsimp only
  rw [State.shutters_dimmedAs]

/-- An idle module with an empty set is sent the entry at once (R114, R119). -/
theorem State.link_of_sent (ho : (s.link (s.chan h).dstSite).out = none) (hs : (s.link (s.chan h).dstSite).shutters = []) :
    (((s.dimmedAs h st b).placeShutter h bound).link (s.chan h).dstSite).shutters = [] ∧
    (((s.dimmedAs h st b).placeShutter h bound).link (s.chan h).dstSite).seq = (s.link (s.chan h).dstSite).seq + 1 ∧
    (((s.dimmedAs h st b).placeShutter h bound).link (s.chan h).dstSite).out = some
      { timer := 8, bind := if bound then .channel h else .detached,
        msg := { module := (s.chan h).dstSite, seq := (s.link (s.chan h).dstSite).seq, first := (s.chan h).first,
                 count := (s.chan h).count, input := (s.chan h).input, port := (s.chan h).outPort, setting := .blocked,
                 cls := .shutter } } := by
  have hm : (s.link (s.chan h).dstSite).merges h (s.chan h) = false := by unfold Link.merges; rw [hs]; rfl
  have hr : s.noRoom h = false := State.noRoom_of_room (by rw [hs]; decide)
  rw [State.link_of_added st b bound hm hr,
    Link.placing_empty ((State.idle_dimmedAs st b).mpr ho) ((State.shutters_dimmedAs st b).trans hs)]
  have hseq : ((s.dimmedAs h st b).link (s.chan h).dstSite).seq = (s.link (s.chan h).dstSite).seq := (s.link_dimmed_rest h _).2.1
  refine ⟨rfl, ?_, ?_⟩
  · rw [← hseq]; rfl
  · rw [← hseq]; rfl

end

end

end Sys2Proof.Machine
end

section
/-!
SUPPORT. The SHUTTER action on one channel, what the tables and the module's link read after it (R145, R146).
-/

namespace Sys2Proof.Machine

open Sys2Proof

theorem Outstanding.detachIf_detachIf (o : Outstanding) (b : Bool) (h : Handle) (c : MsgClass) :
    (o.detachIf b).detachIf (decide ((o.detachIf b).bind = .channel h ∧ (o.detachIf b).msg.cls = c)) =
      o.detachIf (b || decide (o.bind = .channel h ∧ o.msg.cls = c)) := by
  cases b with
  | true => simp [Outstanding.detachIf]
  | false => rfl

section
variable {s q : State} {h : Handle} {fl freed : Bool} (w : s.Shut q h fl) (items : List Item)
include w

theorem State.Shut.end_shutters : ((q.shutEnd h freed items).link (s.chan h).dstSite).shutters =
    if freed then (q.link (s.chan h).dstSite).shutters.map fun e => if e.handle = h then { e with bound := false } else e
    else (q.link (s.chan h).dstSite).shutters := by
  rw [w.end_link]
  cases freed <;> rfl

/-- The message outstanding at a busy module loses its binding to the channel's slot, LEVEL work, and shutter work if the channel is freed. -/
theorem State.Shut.end_out (hd : s.slotHere h) {o : Outstanding} (ho : (s.link (s.chan h).dstSite).out = some o) :
    ((q.shutEnd h freed items).link (s.chan h).dstSite).out = some (o.detachIf (s.losesRamp h o ||
      decide (o.bind = .channel h ∧ (o.msg.cls = .level ∨ freed = true ∧ o.msg.cls = .shutter)))) := by
  have hq := (w.busy (by rw [ho]; simp)).trans (State.out_dimmed hd ho)
  rw [w.end_link]
  cases freed with
  | false =>
    rw [if_neg (by decide), hq]
    simp
  | true =>
    rw [if_pos rfl]
    simp only [Link.withUnbound, Link.withoutLevel, hq, Option.map_some, Outstanding.detachIf_detachIf]
    cases s.losesRamp h o with
    | true => rfl
    | false =>
      cases hb : decide (o.bind = .channel h) with
      | false => rw [decide_eq_false_iff_not] at hb; simp [hb]
      | true => rw [decide_eq_true_eq] at hb; cases hc : o.msg.cls <;> simp [hb]

/-- The channel's requests leave the queue of its module. -/
theorem State.Shut.end_queue (hd : s.slotHere h) (hf : fl = false) : ((q.shutEnd h freed items).link (s.chan h).dstSite).queue =
    (s.link (s.chan h).dstSite).queue.filter fun r => !r.isLevelOf h && s.keepsRamp h r := by
  have hq := (w.calm hf).2.2.2.trans (State.queue_dimmed hd)
  rw [w.end_link]
  cases freed with
  | false => exact hq
  | true =>
    rw [if_pos rfl]
    simp only [Link.withUnbound, Link.withoutLevel, hq, List.filter_filter]
    refine List.filter_congr fun r _ => ?_
    cases r.isLevelOf h <;> simp

/-- The slot of the channel is free, a pass is due, and its swing is released. -/
theorem State.Shut.end_slotOf {k : SlotId} {x : Slot} (hp : (s.chan h).pending = some (.slot k)) (hx : s.slot k = some x) :
    (q.shutEnd h freed items).slot k = none ∧ (q.shutEnd h freed items).passDue = true ∧
    ∀ d, (q.shutEnd h freed items).swingOf d = if x.dest = degreeSite d then s.swingOf d - x.swing else s.swingOf d := by
  obtain ⟨-, -, -, -, hcommitted, -, hslots⟩ := w.end_tables (freed := freed) items
  refine ⟨?_, ?_, fun d => ?_⟩
  · have hf := w.free k (by rw [State.slot_dropTransition, if_pos hp])
    rw [← hf]
    exact congrArg (fun v => Vector.get v k) hslots
  · rw [w.end_passDue, State.dropDue, hp]
    simp [hx]
  · have : (q.shutEnd h freed items).swingOf d = (s.dropTransition h).swingOf d := congrArg (fun v => Vector.get v d) hcommitted
    rw [this, State.swingOf_dropTransition, hp]
    exact State.swingOf_endSlot hx d

theorem State.Shut.end_committed (hn : ∀ k x, ¬((s.chan h).pending = some (.slot k) ∧ s.slot k = some x)) :
    (q.shutEnd h freed items).committed = s.committed := by
  obtain ⟨-, -, -, -, hcommitted, -⟩ := w.end_tables (freed := freed) items
  rw [hcommitted]
  by_cases hp : ∃ k, (s.chan h).pending = some (.slot k)
  · obtain ⟨k, hp⟩ := hp
    have hx : s.slot k = none := Option.eq_none_iff_forall_not_mem.mpr fun x hx => hn k x ⟨hp, hx⟩
    rw [State.dropTransition_eq, State.setChan_committed, State.liftTransition, hp]
    dsimp only
    rw [State.endSlot_of_none hx]
  · exact (State.dropTransition_of_unslotted fun k hk => hp ⟨k, hk⟩).2.2

theorem State.Shut.end_slot_ne (hf : fl = false) {j : SlotId} (hj : ∀ x, ¬((s.chan h).pending = some (.slot j) ∧ s.slot j = some x)) :
    (q.shutEnd h freed items).slot j = s.slot j := by
  obtain ⟨-, -, -, -, -, -, hslots⟩ := w.end_tables (freed := freed) items
  have hs : (q.shutEnd h freed items).slot j = (s.dropTransition h).slot j :=
    congrArg (fun v => Vector.get v j) (hslots.trans (w.calm hf).2.1)
  rw [hs, State.slot_dropTransition]
  split
  · rename_i hp
    exact (Option.eq_none_iff_forall_not_mem.mpr fun x hx => hj x ⟨hp, hx⟩).symm
  · rfl

/-- When a pass is due: it was, a slot is freed, an acting barrier goes, or a claim passes (R22, R83, R90). -/
theorem State.Shut.end_passDue_iff : (q.shutEnd h freed items).passDue = true ↔
    s.passDue = true ∨ (∃ k x, (s.chan h).pending = some (.slot k) ∧ s.slot k = some x) ∨
    ((s.chan h).pending = some .waiting ∧ ∃ e, s.entryOf h = some e ∧ e.barrier = true ∧ s.isHeld h = false) ∨
    freed = true ∧ ∃ y ∈ (s.chan h).footprint, (s.entry y).owner = some h ∧ (s.entry y).claimant ≠ none := by
  rw [w.end_passDue, Bool.or_eq_true, Bool.or_eq_true, or_assoc]
  refine or_congr_right ?_
  have hdue : s.dropDue h = true ↔ (∃ k x, (s.chan h).pending = some (.slot k) ∧ s.slot k = some x) ∨
      ((s.chan h).pending = some .waiting ∧ ∃ e, s.entryOf h = some e ∧ e.barrier = true ∧ s.isHeld h = false) := by
    unfold State.dropDue
    cases hp : (s.chan h).pending with
    | none => simp
    | some r =>
      cases r with
      | waiting =>
        cases he : s.entryOf h with
        | none => simp
        | some e =>
          have hh : e.handle = h := by
            have := List.find?_some he
            simpa using this
          simp [State.acting, hh]
      | slot k => simp [Option.isSome_iff_exists]
  have hpass : (freed && (s.chan h).footprint.any fun x => (s.entry x).passes h []) = true ↔
      freed = true ∧ ∃ y ∈ (s.chan h).footprint, (s.entry y).owner = some h ∧ (s.entry y).claimant ≠ none := by
    rw [Bool.and_eq_true, List.any_eq_true]
    refine and_congr_right fun _ => exists_congr fun y => and_congr_right fun _ => ?_
    unfold Entry.passes
    cases (s.entry y).claimant <;> simp
  rw [hdue, hpass, or_assoc]

end

/-! ### The three rows together -/

/-- What the SHUTTER action makes of a channel it reaches and acts on: removals, a placing unless its RISE waits, and an end. -/
theorem shutterOne_end {s : State} {n : SiteId} {h : Handle} (hr : s.reachedFrom n h) (hc : s.risesDark h ∨ s.litDark h ∨ s.fallsDark h) :
    ∃ q fl freed items, State.shutterOne n s h = q.shutEnd h freed items ∧ s.Shut q h fl ∧ (freed = true ↔ s.fallsDark h) ∧
      (fl = true ↔ (s.litDark h ∨ s.fallsDark h) ∧ s.placeFaults h = true) ∧ recordCount items ≤ 1 ∧
      ((s.risesDark h ∨ s.litDark h) → items = s.shutItems n h) ∧ (s.fallsDark h → items = s.fallItems h) := by
  have shutCount : recordCount (s.shutItems n h) ≤ 1 := by
    unfold State.shutItems State.finalPosts
    cases (s.chan h).desc with
    | none => exact Nat.le_refl 1
    | some d => exact Nat.le_refl 1
  have fallCount : recordCount (s.fallItems h) ≤ 1 := by
    unfold State.fallItems
    cases (s.chan h).desc with
    | none => exact Nat.zero_le 1
    | some d => exact Nat.le_refl 1
  have rise_apart (hd : s.risesDark h) : ¬s.litDark h ∧ ¬s.fallsDark h := by
    unfold State.litDark State.fallsDark
    rw [hd.1]
    simp
  rcases hc with hd | hl | hf
  · obtain ⟨nl, nf⟩ := rise_apart hd
    refine ⟨s.dimmedAs h .dark (some n), false, false, s.shutItems n h, ?_, s.dimmedAs_shut h _ _, ?_, ?_, shutCount, fun _ => rfl,
      fun hf => absurd hf nf⟩
    · rw [shutterOne_of_rise hr hd, darken_eq]; rfl
    · simp [nf]
    · simp [nl, nf]
  · refine ⟨_, _, false, s.shutItems n h, ?_, s.dimmedAs_placed h .dark (some n) true, ?_, ?_, shutCount, fun _ => rfl,
      fun hf => absurd hf hl.2⟩
    · rw [shutterOne_of_lit hr hl, darken_eq]; rfl
    · simp [hl.2]
    · simp [hl]
  · refine ⟨_, _, true, s.fallItems h, ?_, s.dimmedAs_placed h (s.chan h).state (s.chan h).shutteredBy false, ?_, ?_, fallCount, fun hc => ?_, fun _ => rfl⟩
    · rw [shutterOne_of_fall hr hf, endFall_eq]
    · simp [hf]
    · simp [hf]
    · rcases hc with hd | hl
      · exact absurd hf (rise_apart hd).2
      · exact absurd hf hl.2

/-! ### The record of the channel -/

section
variable {s : State} {n : SiteId} {h : Handle} (hr : s.reachedFrom n h)
include hr

theorem chan_shutterOne_of_rise (hd : s.risesDark h) : (State.shutterOne n s h).chan h =
    { s.chan h with shutteredBy := some n, pending := none, motion := none, desc := none } := by
  rw [shutterOne_of_rise hr hd, darken_eq, State.shutEnd, chan_handOver, if_neg (by decide), if_neg (by decide), s.chan_dimmedAs,
    ← hd.1]
  rfl

theorem chan_shutterOne_of_lit (hl : s.litDark h) : (State.shutterOne n s h).chan h =
    { s.chan h with state := .dark, shutteredBy := some n, applied := .blocked, pending := none, motion := none, desc := none,
                    unconfirmed := s.noRoom h || (s.chan h).unconfirmed } := by
  rw [shutterOne_of_lit hr hl, darken_eq, State.shutEnd, chan_handOver, if_neg (by decide), if_pos rfl, s.chan_dimmedAs_placed]
  rfl

theorem chan_shutterOne_of_fall (hf : s.fallsDark h) : (State.shutterOne n s h).chan h = {} := by
  rw [shutterOne_of_fall hr hf, endFall_eq, State.shutEnd, chan_handOver, if_pos rfl, chan_toFree, if_pos rfl]

end

/-! ### The action on every channel, in handle order (R145) -/

/-- A site's condition record without MOD_FAULT, which alone a shutter placing can change. -/
def CondRec.calm (r : CondRec) : CondRec := { r with modFault := {} }

/-- What the action on one channel leaves alone. -/
structure State.shutApart (s t : State) (h : Handle) : Prop where
  chan : ∀ g, g ≠ h → t.chan g = s.chan g
  waits : ∀ g k, g ≠ h → t.waits g k = s.waits g k
  outer : t.outer = s.outer
  sites : t.sites = s.sites
  taps : t.taps = s.taps
  cond : ∀ m, (t.cond m).calm = (s.cond m).calm

theorem State.shutApart.refl (s : State) (h : Handle) : s.shutApart s h :=
  ⟨fun _ _ => rfl, fun _ _ _ => rfl, rfl, rfl, rfl, fun _ => rfl⟩

/-- The entry of another channel stands when a transition is removed. -/
theorem State.entryOf_dropTransition_of_ne (s : State) {g h : Handle} (hg : g ≠ h) :
    (s.dropTransition h).waitList.find? (fun e => decide (e.handle = g)) = s.entryOf g := by
  rw [State.waitList_dropTransition]
  split
  · unfold State.entryOf
    rw [List.find?_filter]
    congr 1
    funext e
    by_cases he : e.handle = g
    · simp [he, hg]
    · simp [he]
  · rfl

theorem State.Shut.apart {s q : State} {h : Handle} {fl freed : Bool} (w : s.Shut q h fl) (items : List Item) :
    s.shutApart (q.shutEnd h freed items) h := by
  obtain ⟨houter, hsites, htaps, hwait, -, hconds, -⟩ := w.end_tables (freed := freed) items
  refine ⟨fun g hg => w.end_chan_ne items hg, fun g k hg => ?_, houter, hsites, htaps, fun m => ?_⟩
  · have he : (q.shutEnd h freed items).entryOf g = s.entryOf g := by
      unfold State.entryOf
      rw [hwait]
      exact s.entryOf_dropTransition_of_ne hg
    unfold State.waits
    rw [w.end_chan_ne items hg, he]
  · have hc : (q.shutEnd h freed items).cond m = q.cond m := congrArg (fun v => Vector.get v m) hconds
    rw [hc]
    by_cases hm : m = (s.chan h).dstSite
    · cases fl with
      | true => rw [hm, w.fault rfl]; rfl
      | false =>
        have : q.cond m = s.cond m := congrArg (fun v => Vector.get v m) (w.calm rfl).1
        rw [this]
    · rw [w.conds m hm]

theorem shutterOne_apart (n : SiteId) (s : State) (h : Handle) : s.shutApart (State.shutterOne n s h) h := by
  by_cases hr : s.reachedFrom n h
  · by_cases hc : s.risesDark h ∨ s.litDark h ∨ s.fallsDark h
    · obtain ⟨q, fl, freed, items, hu, w, -⟩ := shutterOne_end hr hc
      rw [hu]
      exact w.apart items
    · have hdark : (s.chan h).state = .dark := by
        unfold State.litDark at hc
        by_cases hf : s.fallsDark h
        · exact absurd (.inr (.inr hf)) hc
        · rw [not_or, not_or] at hc
          cases hst : (s.chan h).state with
          | free => exact absurd hst hr.1
          | dark => rfl
          | falling => exact absurd (.inl hst) hf
          | rising => simp [hst, hf] at hc
          | adjusting => simp [hst, hf] at hc
          | active => simp [hst, hf] at hc
      rw [shutterOne_of_dark hdark fun hd => hc (.inl hd)]
      exact .refl s h
  · rw [shutterOne_of_not_reached hr]
    exact .refl s h

/-- The action on some channels leaves every other channel's record and what waits for it. -/
theorem foldl_shutterOne_of_not_mem (n : SiteId) {l : List Handle} {g : Handle} (hg : g ∉ l) (s : State) :
    (l.foldl (State.shutterOne n) s).chan g = s.chan g := by
  induction l generalizing s with
  | nil => rfl
  | cons h l ih =>
    rw [List.mem_cons, not_or] at hg
    rw [List.foldl_cons, ih hg.2, (shutterOne_apart n s h).chan g hg.1]

/-- What the action on all makes of one channel's record is what the action on it alone made, in a state with the same record and wait. -/
theorem foldl_shutterOne_chan (n : SiteId) {l : List Handle} (hl : l.Nodup) {g : Handle} (hg : g ∈ l) (s : State) :
    ∃ t : State, t.chan g = s.chan g ∧ (∀ k, t.waits g k = s.waits g k) ∧
      (l.foldl (State.shutterOne n) s).chan g = (State.shutterOne n t g).chan g := by
  induction l generalizing s with
  | nil => cases hg
  | cons h l ih =>
    obtain ⟨hh, hl⟩ := List.nodup_cons.mp hl
    by_cases he : g = h
    · subst he
      exact ⟨s, rfl, fun _ => rfl, foldl_shutterOne_of_not_mem n hh _⟩
    · have w := shutterOne_apart n s h
      obtain ⟨t, hc, hw, ht⟩ := ih hl ((List.mem_cons.mp hg).resolve_left he) (State.shutterOne n s h)
      exact ⟨t, hc.trans (w.chan g he), fun k => (hw k).trans (w.waits g k he), ht⟩

theorem foldl_shutterOne_rest (n : SiteId) (l : List Handle) (s : State) :
    (l.foldl (State.shutterOne n) s).outer = s.outer ∧ (l.foldl (State.shutterOne n) s).sites = s.sites ∧
    (l.foldl (State.shutterOne n) s).taps = s.taps ∧ ∀ m, ((l.foldl (State.shutterOne n) s).cond m).calm = (s.cond m).calm := by
  induction l generalizing s with
  | nil => exact ⟨rfl, rfl, rfl, fun _ => rfl⟩
  | cons h l ih =>
    have w := shutterOne_apart n s h
    obtain ⟨h1, h2, h3, h4⟩ := ih (State.shutterOne n s h)
    exact ⟨h1.trans w.outer, h2.trans w.sites, h3.trans w.taps, fun m => (h4 m).trans (w.cond m)⟩

end Sys2Proof.Machine
end

section
/-!
SUPPORT. The judgements of the conditions (R135 to R139), case by case.
-/

namespace Sys2Proof.Machine

open Sys2Proof

theorem Level.below_iff {l : Level} {t : Int} : l.below t = true ↔ l = .noLight ∨ ∃ v, l = .dt v ∧ v < t := by
  cases l with
  | noLight => simp [Level.below]
  | dt v => simp [Level.below]

theorem Level.above_iff {l : Level} {t : Int} : l.above t = true ↔ ∃ v, l = .dt v ∧ t < v := by
  cases l with
  | noLight => simp [Level.above]
  | dt v => simp [Level.above]

/-- The taps of a site are its ingress and its egress tap (Table 1-1). -/
theorem tapSite_eq_iff {t : TapId} {n : SiteId} : tapSite t = n ↔ t = ingressTap n ∨ t = egressTap n := by
  revert t n
  decide +kernel

/-- The stale flags of a site's two taps are those of every tap of the site. -/
theorem State.stale_iff (s : State) (n : SiteId) :
    ((s.tap (ingressTap n)).stale || (s.tap (egressTap n)).stale) = true ↔ ∃ t, tapSite t = n ∧ (s.tap t).stale = true := by
  rw [Bool.or_eq_true]
  constructor
  · rintro (h | h)
    · exact ⟨_, tapSite_eq_iff.mpr (.inl rfl), h⟩
    · exact ⟨_, tapSite_eq_iff.mpr (.inr rfl), h⟩
  · rintro ⟨t, ht, h⟩
    rcases tapSite_eq_iff.mp ht with rfl | rfl
    · exact .inl h
    · exact .inr h

section
variable {s : State} {n : SiteId} {level : Level}

/-! ### IN_LOS (R135, R145, R148) -/

theorem judgeInLos_of_clear (h : (s.cond n).inLos.live = false) (hl : level.below (s.params n).los = false) : s.judgeInLos n level = s := by
  unfold State.judgeInLos
  dsimp only
  rw [h, hl]
  rfl

theorem judgeInLos_of_live (h : (s.cond n).inLos.live = true) (hl : level.above ((s.params n).los + 10) = false) :
    s.judgeInLos n level = s := by
  unfold State.judgeInLos
  dsimp only
  rw [if_pos h, hl]
  rfl

theorem judgeInLos_of_rise (h : (s.cond n).inLos.live = false) (hl : level.below (s.params n).los = true) :
    s.judgeInLos n level =
      if (s.params n).inLosAct = .shutter then allHandles.foldl (State.shutterOne n) (s.riseBase n .inLos level)
      else s.riseBase n .inLos level := by
  unfold State.judgeInLos
  dsimp only
  rw [h, if_neg (by decide), if_pos hl]
  rfl

theorem judgeInLos_of_fall (h : (s.cond n).inLos.live = true) (hl : level.above ((s.params n).los + 10) = true) :
    s.judgeInLos n level = if (s.params n).holdOff = 0 then (s.fallBase n .inLos level).expireHoldOff n
      else (s.fallBase n .inLos level).setCond n
        { (s.fallBase n .inLos level).cond n with holdOff := some (s.params n).holdOff } := by
  have hp : (s.fallBase n .inLos level).params n = s.params n := by
    have hsites := (State.condCleared_fallBase (c := .inLos) level h).1.2.1
    unfold State.params
    exact congrArg (fun v => (Vector.get v n).active) hsites
  unfold State.judgeInLos State.startHoldOff
  dsimp only
  rw [if_pos h, if_pos hl, hp]

/-! ### IN_HIGH, MOD_FAULT and MON_STALE (R136, R138, R139) -/

theorem judgeInHigh_eq (s : State) (n : SiteId) (level : Level) : s.judgeInHigh n level =
    if (s.cond n).inHigh.live = true then
      (if level.below ((s.params n).high - 10) = true then s.fallBase n .inHigh level else s)
    else if level.above (s.params n).high = true then s.riseBase n .inHigh level else s := rfl

theorem judgeMonStale_eq (s : State) (n : SiteId) : s.judgeMonStale n =
    if (s.cond n).monStale.live = true then
      (if ((s.tap (ingressTap n)).stale || (s.tap (egressTap n)).stale) = true then s else s.fallBase n .monStale .noLight)
    else (if ((s.tap (ingressTap n)).stale || (s.tap (egressTap n)).stale) = true then s.riseBase n .monStale .noLight else s) := rfl

theorem faultAnswer_ok (s : State) (n : SiteId) : s.faultAnswer n true =
    if (s.site n).state = .enabled ∧ (s.cond n).modFault.live = true then s.fallBase n .modFault .noLight else s := by
  unfold State.faultAnswer State.clearModFault State.siteOn
  rw [if_pos rfl]
  by_cases h : (s.site n).state = .enabled <;> simp [h]

/-! ### The hold-off that expires at once (R148, R149) -/

/-- What the restores of an expiry look at: records, Wait List and conditions. -/
theorem State.restoredTo_of_fall {t u : State} (hc : t.chans = s.chans) (hw : t.waitList = s.waitList)
    (hu : (t.setCond n { t.cond n with holdOff := none, restoreDeferred := false }).restoredTo u n allHandles) :
    u.cond n = { t.cond n with holdOff := none, restoreDeferred := decide ((s.restored n allHandles).length <
      (allHandles.filter (s.restorable n)).length) } ∧
    u.waitList = s.waitList ++ (s.restored n allHandles).map (s.restoreEntry n) ∧
    (∀ h, u.chan h = if h ∈ s.restored n allHandles then { s.chan h with pending := some .waiting } else s.chan h) ∧
    u.passDue = (t.passDue || decide (s.restored n allHandles ≠ [])) ∧ (∀ m, m ≠ n → u.cond m = t.cond m) ∧
    u = { t with chans := u.chans, waitList := u.waitList, conds := u.conds, passDue := u.passDue } := by
  generalize hv : t.setCond n { t.cond n with holdOff := none, restoreDeferred := false } = v at hu
  have vchan (h : Handle) : v.chan h = s.chan h := by
    rw [← hv]
    exact congrArg (fun x => Vector.get x h) hc
  have vwait : v.waitList = s.waitList := by rw [← hv]; exact hw
  have filter : allHandles.filter (v.restorable n) = allHandles.filter (s.restorable n) :=
    State.restored_congr fun h _ => vchan h
  have fit : v.restored n allHandles = s.restored n allHandles := by
    unfold State.restored
    rw [filter, vwait]
  have entry : v.restoreEntry n = s.restoreEntry n := by
    funext h
    unfold State.restoreEntry
    rw [vchan]
  refine ⟨?_, ?_, fun h => ?_, ?_, fun m hm => ?_, ?_⟩
  · rw [hu.cond, fit, filter, ← hv, State.cond_setCond, if_pos rfl]
    simp
  · rw [hu.waitList, fit, entry, vwait]
  · rw [hu.chan, fit, vchan]
  · rw [hu.passDue, fit, ← hv]; rfl
  · rw [hu.conds m hm, ← hv, State.cond_setCond, if_neg hm]
  · rw [hu.only, ← hv]; rfl

/-! ### What each judgement does -/

/-- A record handed over for a site, when there is room (R184, R186). -/
def State.recorded (s t : State) (n : SiteId) (kind : RecKind) (code : Byte) (detail : Half) : Prop :=
  recordCount s.journal.handOver < 256 →
    t.journal.handOver = s.journal.handOver ++ [.record { kind, site := some n, code, tick := s.tick, detail }]

/-- The level judged, as a record carries it (R186). -/
def Level.judged (l : Level) : Half := levelBits 16 l

theorem State.recorded_riseBase (s : State) (n : SiteId) (c : Cond) (level : Level) :
    s.recorded (s.riseBase n c level) n .condRaised (BitVec.ofNat 8 c.index)
      (match c with | .inLos | .inHigh => level.judged | .modFault | .monStale => 0) := by
  cases c <;> exact State.record_riseBase n _ level

theorem State.recorded_fallBase (s : State) (n : SiteId) (c : Cond) (level : Level) :
    s.recorded (s.fallBase n c level) n .condCleared (BitVec.ofNat 8 c.index)
      (match c with | .inLos | .inHigh => level.judged | .modFault | .monStale => 0) := by
  cases c <;> exact State.record_fallBase n _ level

theorem judgeInHigh_acts (s : State) (n : SiteId) (level : Level) :
    ((s.cond n).inHigh.live = false → level.above (s.params n).high = false → s.judgeInHigh n level = s) ∧
    ((s.cond n).inHigh.live = true → level.below ((s.params n).high - 10) = false → s.judgeInHigh n level = s) ∧
    ((s.cond n).inHigh.live = false → level.above (s.params n).high = true →
      s.condRaised (s.judgeInHigh n level) n (fun h => (s.chan h).srcSite = n) (s.params n).inHighAct ∧
      s.recorded (s.judgeInHigh n level) n .condRaised 1 level.judged ∧
      (s.judgeInHigh n level).cond n = { s.cond n with inHigh := { live := true, sticky := true } }) ∧
    ((s.cond n).inHigh.live = true → level.below ((s.params n).high - 10) = true →
      s.condCleared (s.judgeInHigh n level) n (s.params n).inHighAct (s.params n).inLosAct (s.cond n).inLos.live ∧
      s.recorded (s.judgeInHigh n level) n .condCleared 1 level.judged ∧
      (s.judgeInHigh n level).cond n = { s.cond n with inHigh := { (s.cond n).inHigh with live := false } }) := by
  rw [judgeInHigh_eq]
  refine ⟨fun hl ha => ?_, fun hl hb => ?_, fun hl ha => ?_, fun hl hb => ?_⟩
  · rw [hl, ha]; rfl
  · rw [if_pos hl, hb]; rfl
  · rw [hl, if_neg (by decide), if_pos ha]
    exact ⟨s.condRaised_riseBase n .inHigh level, s.recorded_riseBase n .inHigh level, s.cond_riseBase n .inHigh level⟩
  · rw [if_pos hl, if_pos hb]
    exact ⟨State.condCleared_fallBase (c := .inHigh) level hl, s.recorded_fallBase n .inHigh level, s.cond_fallBase n .inHigh level⟩

theorem judgeMonStale_acts (s : State) (n : SiteId) :
    ((s.cond n).monStale.live = false → (¬∃ t, tapSite t = n ∧ (s.tap t).stale = true) → s.judgeMonStale n = s) ∧
    ((s.cond n).monStale.live = true → (∃ t, tapSite t = n ∧ (s.tap t).stale = true) → s.judgeMonStale n = s) ∧
    ((s.cond n).monStale.live = false → (∃ t, tapSite t = n ∧ (s.tap t).stale = true) →
      s.condRaised (s.judgeMonStale n) n (fun h => (s.chan h).dstSite = n) (s.params n).monStaleAct ∧
      s.recorded (s.judgeMonStale n) n .condRaised 3 0 ∧
      (s.judgeMonStale n).cond n = { s.cond n with monStale := { live := true, sticky := true } }) ∧
    ((s.cond n).monStale.live = true → (¬∃ t, tapSite t = n ∧ (s.tap t).stale = true) →
      s.condCleared (s.judgeMonStale n) n (s.params n).monStaleAct (s.params n).modFaultAct (s.cond n).modFault.live ∧
      s.recorded (s.judgeMonStale n) n .condCleared 3 0 ∧
      (s.judgeMonStale n).cond n = { s.cond n with monStale := { (s.cond n).monStale with live := false } }) := by
  rw [judgeMonStale_eq, ← s.stale_iff]
  refine ⟨fun hl hs => ?_, fun hl hs => ?_, fun hl hs => ?_, fun hl hs => ?_⟩
  · rw [hl, if_neg (by decide), if_neg hs]
  · rw [if_pos hl, if_pos hs]
  · rw [hl, if_neg (by decide), if_pos hs]
    exact ⟨s.condRaised_riseBase n .monStale .noLight, s.recorded_riseBase n .monStale .noLight, s.cond_riseBase n .monStale .noLight⟩
  · rw [if_pos hl, if_neg hs]
    exact ⟨State.condCleared_fallBase (c := .monStale) .noLight hl, s.recorded_fallBase n .monStale .noLight,
      s.cond_fallBase n .monStale .noLight⟩

theorem faultAnswer_ok_acts (s : State) (n : SiteId) :
    (¬((s.site n).state = .enabled ∧ (s.cond n).modFault.live = true) → s.faultAnswer n true = s) ∧
    ((s.site n).state = .enabled ∧ (s.cond n).modFault.live = true →
      s.condCleared (s.faultAnswer n true) n (s.params n).modFaultAct (s.params n).monStaleAct (s.cond n).monStale.live ∧
      s.recorded (s.faultAnswer n true) n .condCleared 2 0 ∧
      (s.faultAnswer n true).cond n = { s.cond n with modFault := { (s.cond n).modFault with live := false } }) := by
  rw [faultAnswer_ok]
  refine ⟨fun hn => if_neg hn, fun hf => ?_⟩
  rw [if_pos hf]
  exact ⟨State.condCleared_fallBase (c := .modFault) .noLight hf.2, s.recorded_fallBase n .modFault .noLight,
    s.cond_fallBase n .modFault .noLight⟩

/-- A rise of IN_LOS without the SHUTTER action (R135, R140, R148). -/
theorem judgeInLos_rises (h : (s.cond n).inLos.live = false) (hl : level.below (s.params n).los = true)
    (ha : (s.params n).inLosAct ≠ .shutter) :
    s.condRaised (s.judgeInLos n level) n (fun h => (s.chan h).srcSite = n) (s.params n).inLosAct ∧
    s.recorded (s.judgeInLos n level) n .condRaised 0 level.judged ∧ (s.judgeInLos n level).cond n = s.risen n .inLos := by
  rw [judgeInLos_of_rise h hl, if_neg ha]
  exact ⟨s.condRaised_riseBase n .inLos level, s.recorded_riseBase n .inLos level, s.cond_riseBase n .inLos level⟩

/-- A rise of IN_LOS with the SHUTTER action, which follows the rise itself (R145). -/
theorem judgeInLos_shutters (h : (s.cond n).inLos.live = false) (hl : level.below (s.params n).los = true)
    (ha : (s.params n).inLosAct = .shutter) : ∃ b : State, s.judgeInLos n level = allHandles.foldl (State.shutterOne n) b ∧
    s.condRaised b n (fun h => (s.chan h).srcSite = n) .shutter ∧ s.recorded b n .condRaised 0 level.judged ∧
    b.cond n = s.risen n .inLos := by
  refine ⟨s.riseBase n .inLos level, ?_, ?_, s.recorded_riseBase n .inLos level, s.cond_riseBase n .inLos level⟩
  · rw [judgeInLos_of_rise h hl, if_pos ha]
  · have := s.condRaised_riseBase n .inLos level
    rwa [show (s.params n).action .inLos = .shutter from ha] at this

/-- A fall of IN_LOS that starts a hold-off (R148). -/
theorem judgeInLos_falls (h : (s.cond n).inLos.live = true) (hl : level.above ((s.params n).los + 10) = true)
    (hv : (s.params n).holdOff ≠ 0) :
    s.condCleared (s.judgeInLos n level) n (s.params n).inLosAct (s.params n).inHighAct (s.cond n).inHigh.live ∧
    s.recorded (s.judgeInLos n level) n .condCleared 0 level.judged ∧
    (s.judgeInLos n level).cond n =
      { s.cond n with inLos := { (s.cond n).inLos with live := false }, holdOff := some (s.params n).holdOff } := by
  rw [judgeInLos_of_fall h hl, if_neg hv]
  have hcleared := State.condCleared_fallBase (c := .inLos) level h
  have hrecord := s.recorded_fallBase n .inLos level
  have hcond := s.cond_fallBase n .inLos level
  generalize s.fallBase n .inLos level = t at *
  refine ⟨hcleared.withHoldOff _, hrecord, ?_⟩
  rw [State.cond_setCond, if_pos rfl, hcond]
  rfl

/-- A fall of IN_LOS whose hold-off of 0 expires at once (R148, R149). -/
theorem judgeInLos_restores (h : (s.cond n).inLos.live = true) (hl : level.above ((s.params n).los + 10) = true)
    (hv : (s.params n).holdOff = 0) : ∃ v : State,
    s.condCleared v n (s.params n).inLosAct (s.params n).inHighAct (s.cond n).inHigh.live ∧
    s.recorded v n .condCleared 0 level.judged ∧
    (s.judgeInLos n level).cond n = { s.cond n with
      inLos := { (s.cond n).inLos with live := false }, holdOff := none,
      restoreDeferred := decide ((s.restored n allHandles).length < (allHandles.filter (s.restorable n)).length) } ∧
    (s.judgeInLos n level).waitList = s.waitList ++ (s.restored n allHandles).map (s.restoreEntry n) ∧
    (∀ h, (s.judgeInLos n level).chan h =
      if h ∈ s.restored n allHandles then { s.chan h with pending := some .waiting } else s.chan h) ∧
    (s.judgeInLos n level).passDue = (v.passDue || decide (s.restored n allHandles ≠ [])) ∧
    (s.judgeInLos n level).outer = s.outer ∧ (s.judgeInLos n level).journal = v.journal ∧
    (s.judgeInLos n level).engine = { v.engine with
      chans := (s.judgeInLos n level).chans, waitList := (s.judgeInLos n level).waitList,
      conds := (s.judgeInLos n level).conds, passDue := (s.judgeInLos n level).passDue } ∧
    ∀ m, m ≠ n → (s.judgeInLos n level).cond m = s.cond m := by
  rw [judgeInLos_of_fall h hl, if_pos hv]
  have hcleared := State.condCleared_fallBase (c := .inLos) level h
  have hrecord := s.recorded_fallBase n .inLos level
  have hcond := s.cond_fallBase n .inLos level
  generalize s.fallBase n .inLos level = v at *
  have hexp := v.restoredTo_expireHoldOff n
  generalize v.expireHoldOff n = u at *
  obtain ⟨hkept, -⟩ := id hcleared
  obtain ⟨gouter, -, -, gchans, gwait, -, -, gconds, -⟩ := hkept
  obtain ⟨econd, ewait, echan, epass, econds, eonly⟩ := State.restoredTo_of_fall gchans gwait hexp
  refine ⟨v, hcleared, hrecord, ?_, ewait, echan, epass, ?_, ?_, ?_, fun m hm => (econds m hm).trans (gconds m hm)⟩
  · rw [econd, hcond]; rfl
  · rw [← gouter, eonly]; rfl
  · rw [eonly]
  · rw [eonly]; rfl

end

end Sys2Proof.Machine
end

section
/-!
SUPPORT. The obligation on the conditions and on the SHUTTER action.
-/

namespace Sys2Proof.Machine

open Sys2Proof

/-- With action SHUTTER: what every channel's record becomes (Table 8-3). -/
theorem chan_shutterAll {s b : State} {n : SiteId} (hk : s.condKept b n .shutter) (h : Handle) :
    let u := allHandles.foldl (State.shutterOne n) b
    (¬s.reachedFrom n h → u.chan h = s.chan h) ∧
    (s.reachedFrom n h → (s.chan h).state = .dark → s.waits h .rise = false → u.chan h = s.chan h) ∧
    (s.reachedFrom n h → (s.chan h).state = .dark → s.waits h .rise = true →
      u.chan h = { s.chan h with shutteredBy := some n, pending := none, motion := none, desc := none }) ∧
    (s.reachedFrom n h → ((s.chan h).state = .rising ∨ (s.chan h).state = .adjusting ∨ (s.chan h).state = .active) →
      ¬((s.chan h).state = .active ∧ s.waits h .fall = true) → ∃ unconfirmed, u.chan h =
        { s.chan h with state := .dark, shutteredBy := some n, applied := .blocked, pending := none, motion := none, desc := none,
                        unconfirmed }) ∧
    (s.reachedFrom n h → ((s.chan h).state = .falling ∨ (s.chan h).state = .active ∧ s.waits h .fall = true) → u.chan h = {}) := by
  intro u
  obtain ⟨-, -, -, hchans, hwait, -⟩ := hk
  obtain ⟨t, hc, hw, ht⟩ := foldl_shutterOne_chan n (List.nodup_finRange 256) (List.mem_finRange h) b
  have hbc : b.chan h = s.chan h := congrArg (fun v => Vector.get v h) hchans
  have hchan : t.chan h = s.chan h := hc.trans hbc
  have hwaits (k : TransKind) : t.waits h k = s.waits h k := by
    rw [hw]
    unfold State.waits State.entryOf
    rw [hbc, hwait]
  change u.chan h = _ at ht
  have reached : t.reachedFrom n h ↔ s.reachedFrom n h := by unfold State.reachedFrom; rw [hchan]
  refine ⟨fun hr => ?_, fun hr hd hn => ?_, fun hr hd hn => ?_, fun hr hl hf => ?_, fun hr hf => ?_⟩
  · rw [ht, shutterOne_of_not_reached (fun h => hr (reached.mp h)), hchan]
  · rw [ht, shutterOne_of_dark (by rw [hchan]; exact hd) fun hx => by rw [State.risesDark, hwaits, hn] at hx; exact Bool.noConfusion hx.2, hchan]
  · rw [ht, chan_shutterOne_of_rise (reached.mpr hr) ⟨by rw [hchan]; exact hd, by rw [hwaits]; exact hn⟩, hchan]
  · have hlit : t.litDark h := by
      unfold State.litDark State.fallsDark
      rw [hchan, hwaits]
      refine ⟨hl, fun hx => ?_⟩
      rcases hx with hx | hx
      · rcases hl with hl | hl | hl <;> rw [hl] at hx <;> cases hx
      · exact hf hx
    exact ⟨_, by rw [ht, chan_shutterOne_of_lit (reached.mpr hr) hlit, hchan]⟩
  · rw [ht, chan_shutterOne_of_fall (reached.mpr hr)]
    unfold State.fallsDark
    rwa [hchan, hwaits]

/-! ### The module's link, row by row (R111, R117 to R119) -/

section
variable {s : State} {n : SiteId} {h : Handle} (hr : s.reachedFrom n h)
include hr

theorem shutters_shutterOne_of_rise (hd : s.risesDark h) :
    ((State.shutterOne n s h).link (s.chan h).dstSite).shutters = (s.link (s.chan h).dstSite).shutters := by
  rw [shutterOne_of_rise hr hd, darken_eq, if_neg (by decide), (s.dimmedAs_shut h .dark (some n)).end_link, if_neg (by decide)]
  exact State.shutters_dimmedAs _ _

theorem link_shutterOne_of_lit (hl : s.litDark h) : (State.shutterOne n s h).link (s.chan h).dstSite =
    ((s.dimmedAs h .dark (some n)).placeShutter h true).link (s.chan h).dstSite := by
  rw [shutterOne_of_lit hr hl, darken_eq, if_pos rfl, (s.dimmedAs_placed h .dark (some n) true).end_link, if_neg (by decide)]

theorem link_shutterOne_of_fall (hf : s.fallsDark h) : (State.shutterOne n s h).link (s.chan h).dstSite =
    ((((s.dimmedAs h (s.chan h).state (s.chan h).shutteredBy).placeShutter h false).link (s.chan h).dstSite).withoutLevel h).withUnbound h := by
  rw [shutterOne_of_fall hr hf, endFall_eq, (s.dimmedAs_placed h _ _ false).end_link, if_pos rfl]

/-- An idle module with an empty set is sent the entry, bound to the channel unless it is freed. -/
theorem sent_shutterOne (hc : s.litDark h ∨ s.fallsDark h) (ho : (s.link (s.chan h).dstSite).out = none)
    (hs : (s.link (s.chan h).dstSite).shutters = []) :
    ((State.shutterOne n s h).link (s.chan h).dstSite).shutters = [] ∧
    ((State.shutterOne n s h).link (s.chan h).dstSite).seq = (s.link (s.chan h).dstSite).seq + 1 ∧
    ∀ b : Bool, (b = true ↔ s.litDark h) → ((State.shutterOne n s h).link (s.chan h).dstSite).out = some
      { timer := 8, bind := if b then .channel h else .detached,
        msg := { module := (s.chan h).dstSite, seq := (s.link (s.chan h).dstSite).seq, first := (s.chan h).first,
                 count := (s.chan h).count, input := (s.chan h).input, port := (s.chan h).outPort, setting := .blocked,
                 cls := .shutter } } := by
  rcases hc with hl | hf
  · rw [link_shutterOne_of_lit hr hl]
    obtain ⟨h1, h2, h3⟩ := State.link_of_sent .dark (some n) true ho hs
    exact ⟨h1, h2, fun b hb => by rw [hb.mpr hl]; exact h3⟩
  · rw [link_shutterOne_of_fall hr hf]
    obtain ⟨h1, h2, h3⟩ := State.link_of_sent (s.chan h).state (s.chan h).shutteredBy false ho hs
    refine ⟨?_, h2, fun b hb => ?_⟩
    · simp only [Link.withUnbound, Link.withoutLevel, h1, List.map_nil]
    · have hb' : b = false := Bool.eq_false_iff.mpr fun ht => (hb.mp ht).2 hf
      rw [hb']
      simp only [Link.withUnbound, Link.withoutLevel, h3]
      rfl

end

/-- Settles O57: each judgement by its cases, which are rises, falls and nothing; the SHUTTER action on one channel by the rows of
Table 8-3, and on all in turn, since the action on one leaves the others' records and waits. -/
theorem lossOfLightActsByItsAction : Obligations.LossOfLightActsByItsAction := by
  unfold Obligations.LossOfLightActsByItsAction
  refine ⟨fun s n level => ?_, fun s n h => ?_⟩
  · have hlow (t : Int) : level.below t = true ↔ level = .noLight ∨ ∃ v, level = .dt v ∧ v < t := Level.below_iff
    have hhigh (t : Int) : level.above t = true ↔ ∃ v, level = .dt v ∧ t < v := Level.above_iff
    have notLow {t : Int} (hn : ¬(level = .noLight ∨ ∃ v, level = .dt v ∧ v < t)) : level.below t = false :=
      Bool.eq_false_iff.mpr fun hb => hn ((hlow t).mp hb)
    have notHigh {t : Int} (hn : ¬∃ v, level = .dt v ∧ t < v) : level.above t = false :=
      Bool.eq_false_iff.mpr fun hb => hn ((hhigh t).mp hb)
    intro r p u low high judged room item ingressAt egressAt records kept raised cleared
    have hj : level.judged = judged := by cases level <;> rfl
    clear_value judged
    subst hj
    refine ⟨fun hl hn => judgeInLos_of_clear hl (notLow hn), fun hl hn => judgeInLos_of_live hl (notHigh hn), fun hl hlo => ?_,
      fun hl hhi => ⟨fun hv => judgeInLos_falls hl ((hhigh _).mpr hhi) hv, fun hv => judgeInLos_restores hl ((hhigh _).mpr hhi) hv⟩,
      ?_, faultAnswer_ok_acts s n, judgeMonStale_acts s n⟩
    · by_cases ha : p.inLosAct = .shutter
      · obtain ⟨b, hu, hraised, hrecord, hcond⟩ := judgeInLos_shutters hl ((hlow _).mpr hlo) ha
        have hchan := chan_shutterAll hraised.1
        obtain ⟨⟨houter, hsites, htaps, -⟩, -⟩ := id hraised
        obtain ⟨gouter, gsites, gtaps, gcalm⟩ := foldl_shutterOne_rest n allHandles b
        rw [← hu] at gouter gsites gtaps gcalm
        have hcn : (u.cond n).calm = (s.risen n .inLos).calm := by rw [gcalm, hcond]
        refine ⟨congrArg CondRec.inLos hcn, congrArg CondRec.lastLos hcn, congrArg CondRec.firstLos hcn, congrArg CondRec.holdOff hcn,
          congrArg CondRec.restoreDeferred hcn, gouter.trans houter, gsites.trans hsites, gtaps.trans htaps, fun hn => absurd ha hn,
          fun _ => ⟨⟨b, hu, hraised, hrecord, hcond⟩, ?_⟩⟩
        rw [← hu] at hchan
        exact hchan
      · obtain ⟨hraised, hrecord, hcond⟩ := judgeInLos_rises hl ((hlow _).mpr hlo) ha
        obtain ⟨⟨houter, hsites, htaps, hchans, hwait, hcommitted, hentry, -⟩, -⟩ := id hraised
        refine ⟨congrArg CondRec.inLos hcond, congrArg CondRec.lastLos hcond, congrArg CondRec.firstLos hcond,
          congrArg CondRec.holdOff hcond, congrArg CondRec.restoreDeferred hcond, houter, hsites, htaps, fun _ =>
          ⟨hchans, hwait, hcommitted, hentry, hraised, hrecord, ?_⟩, fun hs => absurd hs ha⟩
        exact hcond.trans (by rw [congrArg CondRec.inLos hcond, congrArg CondRec.firstLos hcond]; rfl)
    · obtain ⟨h1, h2, h3, h4⟩ := judgeInHigh_acts s n level
      exact ⟨fun hl hn => h1 hl (notHigh hn), fun hl hn => h2 hl (notLow hn), fun hl hn => h3 hl ((hhigh _).mpr hn),
        fun hl hn => h4 hl ((hlow _).mpr hn)⟩
  · intro c m l u reached waitsRise waitsFall freed lit tellsWhere merges placed noRoom faults fault slotOf detached
    refine ⟨fun hr => shutterOne_of_not_reached hr, fun hd hw => shutterOne_of_dark hd hw, fun hr hc => ?_⟩
    obtain ⟨q, fl, fr, items, hu, w, hfr, hfl, hcount, hitems, hfall⟩ := shutterOne_end hr hc
    change u = _ at hu
    have hroom : noRoom ↔ s.noRoom h = true := by
      unfold State.noRoom
      rw [Bool.and_eq_true, Bool.not_eq_true', decide_eq_true_eq]
      exact Iff.rfl
    have hfaults : fl = true ↔ faults := by
      rw [hfl]
      unfold State.placeFaults State.siteOn
      rw [Bool.and_eq_true, Bool.and_eq_true, Bool.not_eq_true', decide_eq_true_eq, ← hroom]
      exact Iff.rfl
    have calm (hn : ¬faults) : fl = false := Bool.eq_false_iff.mpr fun ht => hn (hfaults.mp ht)
    obtain ⟨houter, hsites, htaps, hwait, hcommitted, hconds, hslots⟩ := w.end_tables (freed := fr) items
    rw [← hu] at houter hsites htaps hwait hcommitted hconds hslots
    have here (hd : ∀ k x, slotOf k x → x.dest = m) : s.slotHere h := fun k x hp hx => hd k x ⟨hp, hx⟩
    refine ⟨fun hd => chan_shutterOne_of_rise hr hd, fun hl => ?_, fun hf => chan_shutterOne_of_fall hr hf,
      fun g hg => (shutterOne_apart n s h).chan g hg, houter, hsites, htaps, fun hn => hconds.trans (w.calm (calm hn)).1,
      hwait.trans (s.waitList_dropTransition h), fun k x hk => ?_, fun hn => ?_, fun hn j hj => ?_, ?_, fun y => ?_,
      fun hcnt => ?_, fun hf => ?_, fun hd => shutters_shutterOne_of_rise hr hd, fun hl hs => ?_, fun hl hm hnr ho => ?_,
      fun hf hs => ?_, fun hf hm hnr ho => ?_, fun hlf ho hs => ?_, fun hd o ho => ?_, fun hd hn => ?_⟩
    · have hd : decide noRoom = s.noRoom h := Bool.eq_iff_iff.mpr (by rw [decide_eq_true_eq, hroom])
      rw [hd]
      exact chan_shutterOne_of_lit hr hl
    · rw [hu]; exact w.end_slotOf items hk.1 hk.2
    · rw [hu]; exact w.end_committed items hn
    · rw [hu]; exact w.end_slot_ne items (calm hn) hj
    · rw [hu, w.end_passDue_iff, hfr]; exact Iff.rfl
    · rw [hu, w.end_entry, Entry.unclaim_passOn]
      have hif : (y ∉ (s.chan h).footprint ∨ fr = false) ↔ (y ∉ c.footprint ∨ ¬freed) :=
        or_congr_right (by rw [← Bool.not_eq_true]; exact not_congr hfr)
      exact if_congr hif rfl rfl
    · have hj := w.end_journal (freed := fr) items hcount hcnt
      rw [← hu] at hj
      have hfault : (if fl then [.record { kind := .condRaised, site := some (s.chan h).dstSite, code := 2, tick := s.tick }]
          else []) = fault := if_congr hfaults rfl rfl
      rw [hfault] at hj
      refine ⟨fun hd d hdesc => ?_, fun hd hdesc => ?_, fun hf d hdesc => ?_, fun hf hdesc => ?_⟩
      · rw [hj, hitems hd, State.shutItems, show (s.chan h).desc = some d from hdesc]
        rfl
      · rw [hj, hitems hd, State.shutItems, show (s.chan h).desc = none from hdesc]
        rfl
      · rw [hj, hfall hf, State.fallItems, show (s.chan h).desc = some d from hdesc]
        rfl
      · rw [hj, hfall hf, State.fallItems, show (s.chan h).desc = none from hdesc, List.append_nil]
    · have hm : u.cond m = q.cond m := congrArg (fun v => Vector.get v m) hconds
      rw [hm, w.fault (hfaults.mpr hf)]
    · rw [link_shutterOne_of_lit hr hl]
      exact State.shutters_of_still _ _ true (hs.imp_right fun hn => ⟨hroom.mp hn.1, hn.2⟩)
    · rw [link_shutterOne_of_lit hr hl]
      exact State.shutters_of_added _ _ true hm (Bool.eq_false_iff.mpr fun ht => hnr (hroom.mpr ht)) ho
    · rw [link_shutterOne_of_fall hr hf]
      exact congrArg _ (State.shutters_of_still _ _ false (hs.imp_right fun hn => ⟨hroom.mp hn.1, hn.2⟩))
    · rw [link_shutterOne_of_fall hr hf]
      exact congrArg _ (State.shutters_of_added _ _ false hm (Bool.eq_false_iff.mpr fun ht => hnr (hroom.mpr ht)) ho)
    · obtain ⟨h1, h2, h3⟩ := sent_shutterOne hr hlf ho hs
      refine ⟨h1, h2, ?_⟩
      have := h3 (decide lit) decide_eq_true_iff
      simpa using this
    · have hdet : (s.losesRamp h o || decide (o.bind = .channel h ∧ (o.msg.cls = .level ∨ fr = true ∧ o.msg.cls = .shutter))) =
          detached o := by
        have hff : (fr = true) = freed := propext hfr
        unfold State.losesRamp
        cases hb : o.bind with
        | slot k => simp [detached, hb, c]
        | channel g => simp [detached, hb, hff]
        | detached => simp [detached, hb]
      rw [hu, w.end_out items (here hd) ho, hdet]
      rfl
    · rw [hu, w.end_queue items (here hd) (calm hn)]
      refine List.filter_congr fun r _ => ?_
      cases r with
      | level g _ => simp [Request.isLevelOf, State.keepsRamp]
      | ramp k =>
        simp only [Request.isLevelOf, State.keepsRamp, slotOf, c]
        rw [Bool.eq_iff_iff]
        simp only [Bool.not_false, Bool.true_and, Bool.or_eq_true, Bool.not_eq_true', decide_eq_false_iff_not, Option.all_eq_true,
          decide_eq_true_eq]
        constructor
        · rintro (hp | hall) x hx ⟨⟨hp', -⟩, hq⟩
          · exact hp hp'
          · exact hall x hx hq
        · intro hall
          by_cases hp : (s.chan h).pending = some (.slot k)
          · exact .inr fun x hx hq => hall x hx ⟨⟨hp, hx⟩, hq⟩
          · exact .inl hp

end Sys2Proof.Machine
end

section
/-!
SUPPORT. A site that goes down (R161, R163): its own state, its conditions and taps, its fetch, and its record.
-/

namespace Sys2Proof.Machine

open Sys2Proof

/-! ### The fetch abandoned (R156, R161, R163, R176, R177) -/

/-- Two states differ at most in the setup fetch and the SRAM port. -/
def SameButFetch (s t : State) : Prop := t = { s with setup := t.setup, port := t.port }

theorem SameButFetch.trans {s t u : State} (h : SameButFetch s t) (g : SameButFetch t u) : SameButFetch s u := by
  unfold SameButFetch at *
  rw [g, h]

theorem requestSetup_only (s : State) : SameButFetch s s.requestSetup := by
  unfold State.requestSetup
  split <;> rfl

theorem settleFairness_only (s : State) : SameButFetch s s.settleFairness := by
  unfold State.settleFairness
  split <;> rfl

theorem abandonFetch_only (s : State) (n : SiteId) : SameButFetch s (s.abandonFetch n) := by
  unfold State.abandonFetch
  split
  · exact rfl
  · split
    · refine SameButFetch.trans (SameButFetch.trans ?_ (requestSetup_only _)) (settleFairness_only _)
      exact rfl
    · exact rfl

theorem abandonFetch_of_burst {s : State} {n : SiteId} {b : SetupBurst} (hb : s.setup.burst = some b) (hn : b.site = n) :
    (s.abandonFetch n).setup = { s.setup with burst := some { b with discard := true } } ∧ (s.abandonFetch n).port = s.port := by
  have hr : s.burstRuns n = true := by simp [State.burstRuns, hb, hn]
  unfold State.abandonFetch
  rw [if_pos hr, hb]
  exact ⟨rfl, rfl⟩

/-- A state in which a site has left the fetch queue and the part's requests are given. -/
def State.leftFetch (s : State) (n : SiteId) (requests : List Burst) : State :=
  { s with setup := { s.setup with queue := s.setup.queue.erase n }, port := { s.port with requests } }

theorem requestSetup_leftFetch_of_anew {s : State} {n : SiteId} {req : List Burst}
    (h : s.setup.queue.erase n ≠ [] ∧ s.setup.burst = none ∧ .setup ∉ req) :
    (s.leftFetch n req).requestSetup = s.leftFetch n (req ++ [.setup]) := if_pos h

theorem requestSetup_leftFetch_of_not_anew {s : State} {n : SiteId} {req : List Burst}
    (h : ¬(s.setup.queue.erase n ≠ [] ∧ s.setup.burst = none ∧ .setup ∉ req)) :
    (s.leftFetch n req).requestSetup = s.leftFetch n req := if_neg h

theorem State.partWaits_leftFetch (s : State) (n : SiteId) (req : List Burst) :
    (s.leftFetch n req).partWaits = true ↔ ¬(req = [] ∧ (s.port.holder = .posting ∨ s.queue = [])) := by
  unfold State.partWaits State.leftFetch
  simp only [Bool.or_eq_true, Bool.and_eq_true, decide_eq_true_eq, not_and_or, not_or]

theorem settleFairness_leftFetch (s : State) (n : SiteId) (req : List Burst) :
    let u := (s.leftFetch n req).settleFairness
    u.setup = { s.setup with queue := s.setup.queue.erase n } ∧ u.port.requests = req ∧
    u.port = { s.port with requests := u.port.requests, fairness := u.port.fairness } ∧
    u.port.fairness = if u.port.requests = [] ∧ (s.port.holder = .posting ∨ s.queue = []) then 0 else s.port.fairness := by
  intro u
  by_cases hw : (s.leftFetch n req).partWaits = true
  · have hu : u = s.leftFetch n req := if_pos hw
    rw [hu]
    exact ⟨rfl, rfl, rfl, (if_neg ((s.partWaits_leftFetch n req).mp hw)).symm⟩
  · have hu : u = { s.leftFetch n req with port := { (s.leftFetch n req).port with fairness := 0 } } := if_neg hw
    have hn : req = [] ∧ (s.port.holder = .posting ∨ s.queue = []) := not_not.mp fun h => hw ((s.partWaits_leftFetch n req).mpr h)
    rw [hu]
    exact ⟨rfl, rfl, rfl, (if_pos hn).symm⟩

section
variable {s : State} {n : SiteId} (hb : ∀ b, s.setup.burst = some b → b.site ≠ n)
include hb

theorem State.not_burstRuns : ¬s.burstRuns n = true := by
  unfold State.burstRuns
  rw [Option.any_eq_true]
  rintro ⟨b, hsome, hd⟩
  exact hb b hsome (of_decide_eq_true hd)

theorem abandonFetch_of_apart (hh : s.setup.queue.head? ≠ some n) :
    (s.abandonFetch n).setup = { s.setup with queue := s.setup.queue.erase n } ∧ (s.abandonFetch n).port = s.port := by
  unfold State.abandonFetch
  rw [if_neg (State.not_burstRuns hb), if_neg hh]
  exact ⟨rfl, rfl⟩

/-- The site was at the head: its request is withdrawn, and made anew for the next head. -/
theorem abandonFetch_of_head (hh : s.setup.queue.head? = some n) :
    let left := if s.setup.burst = none then s.port.requests.erase .setup else s.port.requests
    let anew := s.setup.queue.erase n ≠ [] ∧ s.setup.burst = none ∧ .setup ∉ left
    let u := s.abandonFetch n
    u.setup = { s.setup with queue := s.setup.queue.erase n } ∧
    u.port = { s.port with requests := u.port.requests, fairness := u.port.fairness } ∧
    (anew → u.port.requests = left ++ [.setup]) ∧ (¬anew → u.port.requests = left) ∧
    u.port.fairness = if u.port.requests = [] ∧ (s.port.holder = .posting ∨ s.queue = []) then 0 else s.port.fairness := by
  intro left anew u
  have hu : u = (s.leftFetch n left).requestSetup.settleFairness := by
    show s.abandonFetch n = _
    unfold State.abandonFetch
    rw [if_neg (State.not_burstRuns hb), if_pos hh]
    rfl
  by_cases ha : anew
  · rw [requestSetup_leftFetch_of_anew ha] at hu
    obtain ⟨h1, h2, h3, h4⟩ := settleFairness_leftFetch s n (left ++ [.setup])
    rw [← hu] at h1 h2 h3 h4
    exact ⟨h1, h3, fun _ => h2, fun hn => absurd ha hn, h4⟩
  · rw [requestSetup_leftFetch_of_not_anew ha] at hu
    obtain ⟨h1, h2, h3, h4⟩ := settleFairness_leftFetch s n left
    rw [← hu] at h1 h2 h3 h4
    exact ⟨h1, h3, fun hp => absurd hp ha, fun _ => h2, h4⟩

end

/-! ### A site that goes down -/

theorem ingressTap_ne_egressTap (n : SiteId) : ingressTap n ≠ egressTap n := by
  revert n
  decide

/-- The site's own record as it goes down: the active copy, the setup-clamped flag and the clamp mask are kept (R163). -/
def Site.down (x : Site) : Site :=
  { x with state := .disabled, buffered := none, reload := .idle, refetch := false, frozen := false }

/-- A tap's starting state, its values kept (R50). -/
def Tap.down (x : Tap) : Tap := { x with received := false, lastSeq := none, stale := false, timer := none }

section
variable (s : State) (n : SiteId)

/-- What a site that goes down leaves alone: the engine but for its conditions, its taps and its own record, and all outside the engine but
for the fetch. -/
theorem siteDown_only : s.siteDown n = { s with
    conds := (s.siteDown n).conds, taps := (s.siteDown n).taps, sites := (s.siteDown n).sites,
    setup := ((s.setCond n {}).abandonFetch n).setup, port := ((s.setCond n {}).abandonFetch n).port,
    journal := (s.siteDown n).journal } := by
  have ha := abandonFetch_only (s.setCond n {}) n
  unfold SameButFetch at ha
  unfold State.siteDown
  generalize (s.setCond n {}).abandonFetch n = t at ha ⊢
  rw [handOver_journal, ha]
  rfl

/-- What the site's own state, its conditions and its taps become (R50, R151, R163). -/
theorem siteDown_site : (s.siteDown n).site n =
      (s.site n).down ∧
    (∀ m, m ≠ n → (s.siteDown n).site m = s.site m) ∧ (s.siteDown n).cond n = {} ∧ (∀ m, m ≠ n → (s.siteDown n).cond m = s.cond m) ∧
    ∀ p, (s.siteDown n).tap p = if tapSite p = n then (s.tap p).down else s.tap p := by
  have ha := abandonFetch_only (s.setCond n {}) n
  unfold SameButFetch at ha
  have hcond (m : SiteId) : ((s.setCond n {}).abandonFetch n).cond m = if m = n then {} else s.cond m := by
    rw [ha]; exact State.cond_setCond s n {} m
  have hsite (m : SiteId) : ((s.setCond n {}).abandonFetch n).site m = s.site m := by rw [ha]; rfl
  have htap (p : TapId) : ((s.setCond n {}).abandonFetch n).tap p = s.tap p := by rw [ha]; rfl
  unfold State.siteDown
  generalize (s.setCond n {}).abandonFetch n = t at hcond hsite htap ⊢
  dsimp only
  refine ⟨?_, fun m hm => ?_, ?_, fun m hm => ?_, fun p => ?_⟩
  · rw [State.site_handOver, ← hsite]
    exact State.site_setSite_self _ _ _
  · rw [State.site_handOver, ← hsite]
    exact State.site_setSite_of_ne _ _ _ hm
  · rw [State.cond_handOver]
    exact (hcond n).trans (if_pos rfl)
  · rw [State.cond_handOver]
    exact (hcond m).trans (if_neg hm)
  · have hne : ingressTap n ≠ egressTap n := ingressTap_ne_egressTap n
    have htap' : (((t.setSite n (t.site n).down).clearTap (ingressTap n)).clearTap (egressTap n)).tap p =
        if tapSite p = n then (t.tap p).down else t.tap p := by
      unfold State.clearTap
      simp only [State.tap_setTap, tapSite_eq_iff]
      by_cases h1 : p = egressTap n
      · subst h1
        simp [hne.symm, Tap.down]
      · by_cases h2 : p = ingressTap n
        · subst h2; simp [h1, Tap.down]
        · simp [h1, h2]
    rw [← htap p, ← htap']
    exact congrArg (fun v => Vector.get v p) (State.handOver_taps _ _)

/-- The site's record is handed over, when there is room (R163, R184). -/
theorem siteDown_record (hroom : recordCount s.journal.handOver < 256) : (s.siteDown n).journal.handOver =
    s.journal.handOver ++ [.record { kind := .site, site := some n, code := 3, tick := s.tick }] := by
  have ha := abandonFetch_only (s.setCond n {}) n
  unfold SameButFetch at ha
  have hj : ((s.setCond n {}).abandonFetch n).journal = s.journal := by rw [ha]; rfl
  unfold State.siteDown
  generalize (s.setCond n {}).abandonFetch n = t at hj ⊢
  dsimp only
  have hj' : (((t.setSite n (t.site n).down).clearTap (ingressTap n)).clearTap (egressTap n)).journal = s.journal := hj
  have hone : recordCount [Item.record (siteRecord s.tick n .disabled false)] = 1 := rfl
  have hr := State.handOver_of_room (s := ((t.setSite n (t.site n).down).clearTap (ingressTap n)).clearTap (egressTap n))
    (items := [.record (siteRecord s.tick n .disabled false)]) (by rw [hj', hone]; omega)
  rw [hj'] at hr
  exact congrArg (fun v : State => v.journal.handOver) hr

end

end Sys2Proof.Machine
end

section
/-!
SUPPORT. The first steps of a teardown (R162): the transitions of the channels concerned removed and their descriptors CANCELLED, table by
table.
-/

namespace Sys2Proof.Machine

open Sys2Proof

/-! ### Removing one transition -/

section
variable (s : State) (h : Handle)

theorem cancelOne_channels : s.cancelOne h = { s.dropTransition h with journal := (s.cancelOne h).journal } := handOver_journal _ _

theorem waitList_cancelOne : (s.cancelOne h).waitList =
    if (s.chan h).pending = some .waiting then s.waitList.filter fun e => decide (e.handle ≠ h) else s.waitList := by
  unfold State.cancelOne
  rw [State.handOver_waitList, State.waitList_dropTransition]

theorem slot_cancelOne (k : SlotId) : (s.cancelOne h).slot k = if (s.chan h).pending = some (.slot k) then none else s.slot k := by
  unfold State.cancelOne
  rw [State.slot_handOver, State.slot_dropTransition]

theorem passDue_cancelOne : (s.cancelOne h).passDue = (s.passDue || s.dropDue h) := by
  unfold State.cancelOne
  rw [State.handOver_passDue, State.passDue_dropTransition]

theorem link_cancelOne (m : SiteId) : (s.cancelOne h).link m = (s.dropTransition h).link m := by
  unfold State.cancelOne
  rw [State.link_handOver]

theorem entryOf_cancelOne {g : Handle} (hg : g ≠ h) : (s.cancelOne h).entryOf g = s.entryOf g := by
  have hw : (s.cancelOne h).waitList = (s.dropTransition h).waitList := State.handOver_waitList _ _
  unfold State.entryOf
  rw [hw]
  exact s.entryOf_dropTransition_of_ne hg

theorem isHeld_cancelOne (g : Handle) : (s.cancelOne h).isHeld g = s.isHeld g := by
  have hj : (s.cancelOne h).isHeld g = (s.dropTransition h).isHeld g := by rw [cancelOne_channels]; rfl
  rw [hj, State.isHeld_dropTransition]

/-- What another channel's removal would make due is due already, or is due with this one. -/
theorem dropDue_cancelOne {g : Handle} (hg : g ≠ h) :
    ((s.cancelOne h).dropDue g = true → s.dropDue g = true) ∧
    (s.dropDue g = true → (s.cancelOne h).dropDue g = true ∨ s.dropDue h = true) := by
  have hc : (s.cancelOne h).chan g = s.chan g := (chan_cancelOne s h g).trans (if_neg hg)
  have hact : (s.cancelOne h).acting = s.acting := by
    funext e
    unfold State.acting
    rw [isHeld_cancelOne]
  have hdue (t : State) (k : SlotId) (c : Handle) (hp : (t.chan c).pending = some (.slot k)) : t.dropDue c = (t.slot k).isSome := by
    unfold State.dropDue
    rw [hp]
  cases hp : (s.chan g).pending with
  | none =>
    have h1 : s.dropDue g = false := by unfold State.dropDue; rw [hp]
    have h2 : (s.cancelOne h).dropDue g = false := by unfold State.dropDue; rw [hc, hp]
    rw [h1, h2]
    exact ⟨id, .inl⟩
  | some r =>
    cases r with
    | waiting =>
      have h1 : (s.cancelOne h).dropDue g = s.dropDue g := by
        unfold State.dropDue
        rw [hc, hp]
        dsimp only
        rw [entryOf_cancelOne s h hg, hact]
      rw [h1]
      exact ⟨id, .inl⟩
    | slot k =>
      rw [hdue s k g hp, hdue (s.cancelOne h) k g (by rw [hc]; exact hp), slot_cancelOne]
      split
      · rename_i hk
        rw [hdue s k h hk]
        exact ⟨fun hn => absurd hn (by decide), .inr⟩
      · exact ⟨id, .inl⟩

end

/-! ### Removing those of some channels -/

theorem waitList_foldl_cancelOne {l : List Handle} (hl : l.Nodup) (s : State) : (l.foldl State.cancelOne s).waitList =
    s.waitList.filter fun e => decide ¬(e.handle ∈ l ∧ (s.chan e.handle).pending = some .waiting) := by
  induction l generalizing s with
  | nil => simp
  | cons h l ih =>
    obtain ⟨hh, hl⟩ := List.nodup_cons.mp hl
    rw [List.foldl_cons, ih hl, waitList_cancelOne]
    have key (e : WaitEntry) : (decide ¬(e.handle ∈ l ∧ ((s.cancelOne h).chan e.handle).pending = some .waiting)) =
        decide ¬(e.handle ∈ l ∧ (s.chan e.handle).pending = some .waiting) := by
      rw [chan_cancelOne]
      by_cases he : e.handle = h
      · simp [he, hh]
      · simp [he]
    rw [List.filter_congr fun e _ => key e]
    split
    · rename_i hp
      rw [List.filter_filter]
      refine List.filter_congr fun e _ => ?_
      by_cases he : e.handle = h
      · simp [he, hp]
      · simp [he, List.mem_cons]
    · rename_i hp
      refine List.filter_congr fun e _ => ?_
      by_cases he : e.handle = h
      · simp [he, hp]
      · simp [he, List.mem_cons]

theorem slot_foldl_cancelOne {l : List Handle} (hl : l.Nodup) (s : State) (k : SlotId) : (l.foldl State.cancelOne s).slot k =
    if ∃ h ∈ l, (s.chan h).pending = some (.slot k) then none else s.slot k := by
  induction l generalizing s with
  | nil => simp
  | cons h l ih =>
    obtain ⟨hh, hl⟩ := List.nodup_cons.mp hl
    have hc : (∃ g ∈ l, ((s.cancelOne h).chan g).pending = some (.slot k)) ↔ ∃ g ∈ l, (s.chan g).pending = some (.slot k) :=
      exists_congr fun g => and_congr_right fun hg => by rw [chan_cancelOne, if_neg (fun he : g = h => hh (he ▸ hg))]
    rw [List.foldl_cons, ih hl, slot_cancelOne]
    simp only [hc, List.exists_mem_cons_iff]
    by_cases h1 : (s.chan h).pending = some (.slot k) <;> simp [h1]

theorem passDue_foldl_cancelOne {l : List Handle} (hl : l.Nodup) (s : State) : (l.foldl State.cancelOne s).passDue = true ↔
    s.passDue = true ∨ ∃ h ∈ l, s.dropDue h = true := by
  induction l generalizing s with
  | nil => simp
  | cons h l ih =>
    obtain ⟨hh, hl⟩ := List.nodup_cons.mp hl
    rw [List.foldl_cons, ih hl, passDue_cancelOne, Bool.or_eq_true, or_assoc, List.exists_mem_cons_iff]
    refine or_congr_right ⟨fun hd => ?_, fun hd => ?_⟩
    · rcases hd with hd | ⟨g, hg, hd⟩
      · exact .inl hd
      · exact .inr ⟨g, hg, (dropDue_cancelOne s h fun he => hh (he ▸ hg)).1 hd⟩
    · rcases hd with hd | ⟨g, hg, hd⟩
      · exact .inl hd
      · rcases (dropDue_cancelOne s h (g := g) fun he => hh (he ▸ hg)).2 hd with hd | hd
        · exact .inr ⟨g, hg, hd⟩
        · exact .inl hd

/-! ### Swings and slots (R94, R95) -/

/-- A slot without its drive state and held flag: what a recomputation of the held flags keeps. -/
def Slot.frame (x : Slot) : Slot := { x with held := false, drive := .stopped, takeover := false }

theorem Slot.frame_of_still {o o' : Option Slot} (h : o'.map Slot.still = o.map Slot.still) : o'.map Slot.frame = o.map Slot.frame := by
  have key (o : Option Slot) : o.map Slot.frame = (o.map Slot.still).map Slot.frame := by cases o <;> rfl
  rw [key o, key o', h]

theorem Slot.eq_of_frame {x y : Slot} (h : y.frame = x.frame) : y = { x with held := y.held, drive := y.drive, takeover := y.takeover } := by
  obtain ⟨_, _, _, _, _, _, _, _, _⟩ := x
  obtain ⟨_, _, _, _, _, _, _, _, _⟩ := y
  simp only [Slot.frame, Slot.mk.injEq] at h ⊢
  simp_all

/-- The slots keep their frames and the swings stand. -/
structure SameButHolds (s t : State) : Prop where
  slot : ∀ k, (t.slot k).map Slot.frame = (s.slot k).map Slot.frame
  swing : t.committed = s.committed

theorem SameButHolds.trans {s t u : State} (h : SameButHolds s t) (g : SameButHolds t u) : SameButHolds s u :=
  ⟨fun k => (g.slot k).trans (h.slot k), g.swing.trans h.swing⟩

theorem SameButHolds.of_slots {s t : State} (h : t.slots = s.slots) (g : t.committed = s.committed) : SameButHolds s t :=
  ⟨fun k => congrArg (fun v => (Vector.get v k).map Slot.frame) h, g⟩

theorem SameButHolds.refl (s : State) : SameButHolds s s := .of_slots rfl rfl

theorem SameButDrives.holds {s t : State} (h : SameButDrives s t) : SameButHolds s t :=
  ⟨fun k => Slot.frame_of_still (h.slot k), h.only.committed⟩

theorem reholdSlot_holds (sites : List SiteId) (s : State) (k : SlotId) : SameButHolds s (State.reholdSlot sites s k) := by
  rcases reholdSlot_cases sites s k with ⟨heq, -⟩ | ⟨x, hx, hd⟩
  · rw [heq]; exact .refl s
  · refine SameButHolds.trans (t := s.setSlot k (some { x with held := s.isHeld x.handle })) ⟨fun j => ?_, rfl⟩ hd.holds
    rw [State.slot_setSlot]
    split
    · rename_i hj; rw [hj, hx]; rfl
    · rfl

theorem rehold_holds (s : State) (sites : List SiteId) : SameButHolds s (s.rehold sites) := by
  unfold State.rehold
  generalize s.slotsByHandle = l
  induction l generalizing s with
  | nil => exact .refl s
  | cons k l ih => exact (reholdSlot_holds sites s k).trans (ih _)

theorem placeShutter_holds (s : State) (h : Handle) (b : Bool) : SameButHolds s (s.placeShutter h b) := by
  unfold State.placeShutter
  dsimp only
  split
  · rename_i t ht
    have hd := (addShutter_drives ht).holds
    split
    · exact hd.trans (.of_slots rfl rfl)
    · exact hd
  · have hc : SameButHolds s (s.setChan h { s.chan h with applied := .blocked, unconfirmed := true }) := .of_slots rfl rfl
    refine hc.trans ?_
    generalize s.setChan h { s.chan h with applied := .blocked, unconfirmed := true } = t
    unfold State.raiseModFault
    split
    · rw [t.riseBase_eq]
      exact SameButHolds.trans (.of_slots (by simp) (by simp)) (rehold_holds _ _)
    · exact .refl t

theorem State.slotSwing_eq_sum (s : State) (d : Fin 8) : s.slotSwing d = ∑ k, slotCharge d (s.slot k) := (Fin.sum_univ_def _).symm

theorem SameButHolds.swingOk {s t : State} (h : SameButHolds s t) (hs : s.swingOk) : t.swingOk := by
  intro d
  have charge (k : SlotId) : slotCharge d (t.slot k) = slotCharge d (s.slot k) := by
    have key (o : Option Slot) : slotCharge d o = slotCharge d (o.map Slot.frame) := by cases o <;> rfl
    rw [key (t.slot k), key (s.slot k), h.slot]
  have swing : t.swingOf d = s.swingOf d := congrArg (fun v => Vector.get v d) h.swing
  rw [swing, hs d, State.slotSwing_eq_sum, State.slotSwing_eq_sum]
  simp only [charge]

/-- The removal of a transition takes its swing away (R95). -/
theorem State.swingOk_dropTransition {s : State} (hs : s.swingOk) (h : Handle) : (s.dropTransition h).swingOk := by
  by_cases hp : ∃ k, (s.chan h).pending = some (.slot k)
  · obtain ⟨k, hp⟩ := hp
    cases hx : s.slot k with
    | none =>
      have he : (s.dropTransition h).slots = s.slots ∧ (s.dropTransition h).committed = s.committed := by
        rw [State.dropTransition_eq, State.setChan_slots, State.setChan_committed, State.liftTransition, hp]
        dsimp only
        rw [State.endSlot_of_none hx]
        exact ⟨rfl, rfl⟩
      exact (SameButHolds.of_slots he.1 he.2).swingOk hs
    | some x =>
      intro d
      have hsum : s.slotSwing d = slotCharge d (some x) + (s.dropTransition h).slotSwing d := by
        rw [State.slotSwing_eq_sum, State.slotSwing_eq_sum, ← Finset.add_sum_erase _ (fun j => slotCharge d (s.slot j)) (Finset.mem_univ k),
          ← Finset.add_sum_erase _ (fun j => slotCharge d ((s.dropTransition h).slot j)) (Finset.mem_univ k), hx,
          State.slot_dropTransition, if_pos hp]
        have rest : ∀ j ∈ Finset.univ.erase k, slotCharge d ((s.dropTransition h).slot j) = slotCharge d (s.slot j) := fun j hj => by
          rw [State.slot_dropTransition, if_neg]
          rw [hp]
          simpa [eq_comm] using Finset.ne_of_mem_erase hj
        rw [Finset.sum_congr rfl rest]
        simp [slotCharge]
      rw [State.swingOf_dropTransition, hp]
      dsimp only
      rw [State.swingOf_endSlot hx, hs d, hsum]
      simp only [slotCharge]
      split
      · omega
      · omega
  · obtain ⟨h1, -, h3⟩ := State.dropTransition_of_unslotted (s := s) (h := h) fun k hk => hp ⟨k, hk⟩
    exact (SameButHolds.of_slots h1 h3).swingOk hs

theorem State.swingOk_foldl_cancelOne {s : State} (hs : s.swingOk) (l : List Handle) : (l.foldl State.cancelOne s).swingOk := by
  induction l generalizing s with
  | nil => exact hs
  | cons h l ih =>
    have hd : SameButHolds (s.dropTransition h) (s.cancelOne h) := .of_slots (State.handOver_slots _ _) (State.handOver_committed _ _)
    exact ih (s := s.cancelOne h) (hd.swingOk (State.swingOk_dropTransition hs h))

end Sys2Proof.Machine
end

section
/-!
SUPPORT. The links in the first steps of a teardown (R111, R117, R162): requests withdrawn and messages detached.
-/

namespace Sys2Proof.Machine

open Sys2Proof

/-! ### A link with some requests withdrawn and its message perhaps detached -/

/-- A module's link, its outstanding message detached if it is one of some, and some requests withdrawn from its queue. -/
def Link.cut (l : Link) (loses : Outstanding → Bool) (keeps : Request → Bool) : Link :=
  { l with out := l.out.map fun o => o.detachIf (loses o), queue := l.queue.filter keeps }

theorem Link.eq_of_fields {l k : Link} (h1 : l.seq = k.seq) (h2 : l.out = k.out) (h3 : l.shutters = k.shutters) (h4 : l.queue = k.queue) :
    l = k := by
  cases l; cases k
  simp only at h1 h2 h3 h4
  subst h1 h2 h3 h4
  rfl

theorem Link.cut_nothing (l : Link) : l.cut (fun _ => false) (fun _ => true) = l :=
  Link.eq_of_fields rfl (by simp [Link.cut, Outstanding.detachIf]) rfl (by simp [Link.cut])

/-- A second cut, of messages that are bound. -/
theorem Link.cut_cut (l : Link) {loses loses' : Outstanding → Bool} {keeps keeps' : Request → Bool}
    (hd : ∀ o, o.bind = .detached → loses' o = false) :
    (l.cut loses keeps).cut loses' keeps' = l.cut (fun o => loses o || loses' o) fun r => keeps' r && keeps r := by
  refine Link.eq_of_fields rfl ?_ rfl (by simp [Link.cut, List.filter_filter])
  unfold Link.cut
  dsimp only
  rw [Option.map_map]
  congr 1
  funext o
  show (o.detachIf (loses o)).detachIf (loses' (o.detachIf (loses o))) = o.detachIf (loses o || loses' o)
  cases loses o with
  | true => rw [hd (o.detachIf true) rfl]; rfl
  | false => rfl

theorem Link.cut_congr (l : Link) {loses loses' : Outstanding → Bool} {keeps keeps' : Request → Bool}
    (ho : ∀ o, l.out = some o → loses o = loses' o) (hk : ∀ r ∈ l.queue, keeps r = keeps' r) : l.cut loses keeps = l.cut loses' keeps' := by
  refine Link.eq_of_fields rfl ?_ rfl (List.filter_congr hk)
  unfold Link.cut
  cases h : l.out with
  | none => rfl
  | some o => simp [ho o h]

/-! ### The removal of transitions -/

/-- A module's link after a channel's slot, of that module, has ended. -/
theorem State.link_dropTransition_cut {s : State} {h : Handle} (hd : s.slotHere h) (m : SiteId) :
    (s.dropTransition h).link m = (s.link m).cut (fun o => decide ((s.chan h).dstSite = m) && s.losesRamp h o)
      fun r => !decide ((s.chan h).dstSite = m) || s.keepsRamp h r := by
  obtain ⟨h1, h2, h3⟩ := s.link_dropTransition_rest h m
  by_cases hm : (s.chan h).dstSite = m
  · subst hm
    refine Link.eq_of_fields h2 ?_ h1 ?_
    · cases ho : (s.link (s.chan h).dstSite).out with
      | none => rw [h3.mpr ho, Link.cut, ho]; rfl
      | some o => rw [State.out_dropTransition hd ho, Link.cut, ho]; simp
    · rw [State.queue_dropTransition hd, Link.cut]; simp
  · have hsame : (s.dropTransition h).link m = s.link m := by
      rw [State.link_dropTransition]
      cases hp : (s.chan h).pending with
      | none => rfl
      | some r =>
        cases r with
        | waiting => rfl
        | slot k =>
          dsimp only
          cases hx : s.slot k with
          | none => rw [State.endSlot_of_none hx]
          | some x => rw [State.link_endSlot hx, if_neg fun he => hm ((hd k x hp hx).symm.trans he.symm)]
    rw [hsame, ← Link.cut_nothing (s.link m), Link.cut_cut _ fun o ho => by simp [State.losesRamp, ho]]
    simp [hm]

/-- The slots of some channels are there, their own, and of their destinations' modules. -/
def State.slotsOwn (s : State) (l : List Handle) : Prop :=
  ∀ h ∈ l, ∀ k, (s.chan h).pending = some (.slot k) → ∃ x, s.slot k = some x ∧ x.handle = h ∧ x.dest = (s.chan h).dstSite

theorem State.slotsOwn.here {s : State} {l : List Handle} (w : s.slotsOwn l) {h : Handle} (hh : h ∈ l) : s.slotHere h := by
  intro k x hp hx
  obtain ⟨y, hy, -, hd⟩ := w h hh k hp
  rw [hx] at hy
  cases hy
  exact hd

theorem chan_cancelOne_of_mem {s : State} {g h : Handle} {l : List Handle} (hh : h ∉ l) (hg : g ∈ l) :
    (s.cancelOne h).chan g = s.chan g := by
  rw [chan_cancelOne, if_neg fun he : g = h => hh (he ▸ hg)]

section
variable {s : State} {h : Handle} {l : List Handle} (w : s.slotsOwn (h :: l)) (hh : h ∉ l)
include w hh

/-- The slot of another channel of the list stands when one has ended. -/
theorem State.slotsOwn.slot_cancelOne {g : Handle} (hg : g ∈ l) {k : SlotId} (hp : (s.chan g).pending = some (.slot k)) :
    (s.cancelOne h).slot k = s.slot k := by
  rw [Machine.slot_cancelOne, if_neg]
  intro hk
  obtain ⟨x, hx, hxg, -⟩ := w g (List.mem_cons_of_mem h hg) k hp
  obtain ⟨y, hy, hyh, -⟩ := w h (List.mem_cons_self ..) k hk
  rw [hx] at hy
  cases hy
  exact hh (by rw [← hyh, hxg]; exact hg)

theorem State.slotsOwn.cancelOne : (s.cancelOne h).slotsOwn l := by
  intro g hg k hp
  rw [chan_cancelOne_of_mem hh hg] at hp ⊢
  rw [w.slot_cancelOne hh hg hp]
  exact w g (List.mem_cons_of_mem h hg) k hp

theorem State.slotsOwn.losesRamp {g : Handle} (hg : g ∈ l) (o : Outstanding) : (s.cancelOne h).losesRamp g o = s.losesRamp g o := by
  unfold State.losesRamp
  cases o.bind with
  | slot k =>
    dsimp only
    rw [chan_cancelOne_of_mem hh hg]
    by_cases hp : (s.chan g).pending = some (.slot k)
    · rw [w.slot_cancelOne hh hg hp]
    · rw [decide_eq_false hp, Bool.false_and, Bool.false_and]
  | channel _ => rfl
  | detached => rfl

theorem State.slotsOwn.keepsRamp {g : Handle} (hg : g ∈ l) (r : Request) : (s.cancelOne h).keepsRamp g r = s.keepsRamp g r := by
  unfold State.keepsRamp
  cases r with
  | ramp k =>
    dsimp only
    rw [chan_cancelOne_of_mem hh hg]
    by_cases hp : (s.chan g).pending = some (.slot k)
    · rw [w.slot_cancelOne hh hg hp]
    · rw [decide_eq_false hp, Bool.not_false, Bool.true_or, Bool.true_or]
  | level _ _ => rfl

end

/-- The links after the removal of some channels' transitions. -/
theorem link_foldl_cancelOne {l : List Handle} (hl : l.Nodup) {s : State} (w : s.slotsOwn l) (m : SiteId) :
    (l.foldl State.cancelOne s).link m =
      (s.link m).cut (fun o => l.any fun h => decide ((s.chan h).dstSite = m) && s.losesRamp h o)
        fun r => l.all fun h => !decide ((s.chan h).dstSite = m) || s.keepsRamp h r := by
  induction l generalizing s with
  | nil => exact (Link.cut_nothing _).symm
  | cons h l ih =>
    obtain ⟨hh, hl⟩ := List.nodup_cons.mp hl
    rw [List.foldl_cons, ih hl (w.cancelOne hh), link_cancelOne,
      State.link_dropTransition_cut (w.here (List.mem_cons_self ..)) m, Link.cut_cut _ fun o ho => by simp [State.losesRamp, ho]]
    refine Link.cut_congr _ (fun o _ => ?_) fun r _ => ?_
    · rw [List.any_cons]
      congr 1
      rw [Bool.eq_iff_iff, List.any_eq_true, List.any_eq_true]
      exact exists_congr fun g => and_congr_right fun hg => by rw [chan_cancelOne_of_mem hh hg, w.losesRamp hh hg]
    · rw [List.all_cons, Bool.and_comm]
      congr 1
      rw [Bool.eq_iff_iff, List.all_eq_true, List.all_eq_true]
      exact forall_congr' fun g => forall_congr' fun hg => by rw [chan_cancelOne_of_mem hh hg, w.keepsRamp hh hg]

theorem Link.withoutSlot_of_idle {l : Link} (ho : l.out = none) (hq : l.queue = []) (k : SlotId) (d : Drive) : l.withoutSlot k d = l := by
  cases d with
  | queued => exact Link.eq_of_fields rfl rfl rfl (by simp [Link.withoutSlot, hq])
  | sent => exact Link.eq_of_fields rfl (by simp [Link.withoutSlot, ho]) rfl rfl
  | pacing _ => rfl
  | stopped => rfl

/-- Sets and sequence numbers stand, an idle module stays idle, and one with nothing in its queue keeps its link. -/
theorem link_foldl_cancelOne_rest (l : List Handle) (s : State) (m : SiteId) :
    ((l.foldl State.cancelOne s).link m).shutters = (s.link m).shutters ∧
    (((l.foldl State.cancelOne s).link m).out = none ↔ (s.link m).out = none) ∧
    ((s.link m).out = none → (s.link m).queue = [] → (l.foldl State.cancelOne s).link m = s.link m) := by
  induction l generalizing s with
  | nil => exact ⟨rfl, Iff.rfl, fun _ _ => rfl⟩
  | cons h l ih =>
    obtain ⟨h1, -, h3⟩ := s.link_dropTransition_rest h m
    rw [← link_cancelOne] at h1 h3
    obtain ⟨i1, i2, i3⟩ := ih (s.cancelOne h)
    refine ⟨i1.trans h1, i2.trans h3, fun ho hq => ?_⟩
    have hsame : (s.cancelOne h).link m = s.link m := by
      rw [link_cancelOne, State.link_dropTransition]
      cases hp : (s.chan h).pending with
      | none => rfl
      | some r =>
        cases r with
        | waiting => rfl
        | slot k =>
          dsimp only
          cases hx : s.slot k with
          | none => rw [State.endSlot_of_none hx]
          | some x =>
            rw [State.link_endSlot hx]
            split
            · exact Link.withoutSlot_of_idle ho hq k _
            · rfl
    exact (i3 (by rw [hsame]; exact ho) (by rw [hsame]; exact hq)).trans hsame

/-! ### LEVEL work (R117) -/

theorem Link.withoutLevel_eq (l : Link) (h : Handle) :
    l.withoutLevel h = l.cut (fun o => decide (o.bind = .channel h ∧ o.msg.cls = .level)) fun r => !r.isLevelOf h := rfl

theorem foldl_dropLevelOf_only (l : List Handle) (s : State) : SameButLinks s (l.foldl State.dropLevelOf s) :=
  foldl_only (fun t h => dropLevel_only t _ h) l s

theorem foldl_dropLevelOf_slots (l : List Handle) (s : State) : (l.foldl State.dropLevelOf s).slots = s.slots := by
  induction l generalizing s with
  | nil => rfl
  | cons h l ih => rw [List.foldl_cons, ih]; exact State.dropLevel_slots _ _ _

theorem link_foldl_dropLevelOf (l : List Handle) (s : State) (m : SiteId) : (l.foldl State.dropLevelOf s).link m =
    (s.link m).cut (fun o => l.any fun h => decide ((s.chan h).dstSite = m) && decide (o.bind = .channel h ∧ o.msg.cls = .level))
      fun r => l.all fun h => !decide ((s.chan h).dstSite = m) || !r.isLevelOf h := by
  induction l generalizing s with
  | nil => exact (Link.cut_nothing _).symm
  | cons h l ih =>
    have hchan (g : Handle) : (s.dropLevelOf h).chan g = s.chan g := (dropLevel_only _ _ _).chan g
    have hlink : (s.dropLevelOf h).link m =
        (s.link m).cut (fun o => decide ((s.chan h).dstSite = m) && decide (o.bind = .channel h ∧ o.msg.cls = .level))
          fun r => !decide ((s.chan h).dstSite = m) || !r.isLevelOf h := by
      refine (State.link_dropLevel s _ h m).trans ?_
      by_cases hm : (s.chan h).dstSite = m
      · rw [if_pos hm.symm, Link.withoutLevel_eq]
        simp [hm]
      · rw [if_neg (Ne.symm hm), ← Link.cut_nothing (s.link m), Link.cut_cut _ fun o ho => by simp [ho]]
        simp [hm]
    rw [List.foldl_cons, ih, hlink, Link.cut_cut _ fun o ho => by simp [ho]]
    simp only [hchan]
    refine Link.cut_congr _ (fun o _ => ?_) fun r _ => ?_
    · rw [List.any_cons]
    · rw [List.all_cons, Bool.and_comm]

end Sys2Proof.Machine
end

section
/-!
SUPPORT. The shutter entries of a teardown (R118, R162): where there is room for all of them nothing changes but the links, and what a busy
and an idle module's link become.
-/

namespace Sys2Proof.Machine

open Sys2Proof

/-! ### One entry on a link -/

/-- Does a teardown add an entry for a channel to a module's set: the channel is to be dark, and no bound entry takes it up (R118)? -/
def Link.needs (l : Link) (dark : Handle → Bool) (c : Handle → Channel) (h : Handle) : Bool := dark h && !l.merges h (c h)

/-- A module's link after the teardown's placing for one of its channels. -/
def Link.placeDown (m : SiteId) (dark : Handle → Bool) (c : Handle → Channel) (l : Link) (h : Handle) : Link :=
  if l.needs dark c h then l.placing m (shutterEntry h (c h) false) else l

theorem firstShutter_mem {l : List ShutterEntry} {e : ShutterEntry} (h : firstShutter l = some e) : e ∈ l := by
  induction l generalizing e with
  | nil => cases h
  | cons a l ih =>
    unfold firstShutter at h
    split at h
    · cases h; exact List.mem_cons_self ..
    · rename_i f hf
      split at h
      · cases h; exact List.mem_cons_of_mem _ (ih hf)
      · cases h; exact List.mem_cons_self ..

theorem Link.merges_of_shutters {l l' : Link} (h : l'.shutters = l.shutters) (g : Handle) (c : Channel) : l'.merges g c = l.merges g c := by
  unfold Link.merges
  rw [h]

/-- An unbound entry takes no placing up. -/
theorem Link.merges_append {l l' : Link} {es : List ShutterEntry} (hl : l'.shutters = l.shutters ++ es) (hb : ∀ e ∈ es, e.bound = false)
    (g : Handle) (c : Channel) : l'.merges g c = l.merges g c := by
  unfold Link.merges
  rw [hl, List.any_append]
  have : (es.any fun f => f.bound && decide (f.handle = g ∧ f.first = c.first ∧ f.count = c.count)) = false := by
    rw [List.any_eq_false]
    intro e he
    simp [hb e he]
  rw [this, Bool.or_false]

/-- The loss of one entry makes a difference to its own channel alone. -/
theorem Link.merges_erase {l l' : Link} {f : ShutterEntry} (hl : l'.shutters = l.shutters.erase f) {g : Handle} {c : Channel}
    (hg : g ≠ f.handle) : l'.merges g c = l.merges g c := by
  unfold Link.merges
  rw [hl, Bool.eq_iff_iff, List.any_eq_true, List.any_eq_true]
  constructor
  · rintro ⟨e, he, h⟩
    exact ⟨e, List.mem_of_mem_erase he, h⟩
  · rintro ⟨e, he, h⟩
    refine ⟨e, (List.mem_erase_of_ne fun hef => ?_).mpr he, h⟩
    rw [Bool.and_eq_true, decide_eq_true_eq] at h
    exact hg (h.2.1.symm.trans (congrArg ShutterEntry.handle hef))

/-- The set after a placing: one entry more, or as many, one other entry having been sent. -/
theorem Link.placing_shutters (m : SiteId) (l : Link) (e : ShutterEntry) :
    (l.placing m e).shutters = l.shutters ++ [e] ∨
      ∃ f ∈ l.shutters ++ [e], (l.placing m e).shutters = (l.shutters ++ [e]).erase f := by
  unfold Link.placing
  dsimp only
  split
  · obtain ⟨f, hf⟩ := firstShutter_isSome (l := l.shutters ++ [e]) (by simp)
    rw [hf]
    exact .inr ⟨f, firstShutter_mem hf, rfl⟩
  · exact .inl rfl

/-! ### Room for all -/

theorem length_filter_of_but_one {l : List Handle} (hl : l.Nodup) {p q : Handle → Bool} {a : Handle}
    (h : ∀ g ∈ l, q g = true → p g = true ∨ g = a) : (l.filter q).length ≤ (l.filter p).length + 1 := by
  have hsub : (l.filter q).length ≤ (a :: l.filter p).length := by
    refine List.Subperm.length_le (List.subperm_of_subset (hl.filter q) fun g hg => ?_)
    obtain ⟨hgl, hgq⟩ := List.mem_filter.mp hg
    rcases h g hgl hgq with hp | rfl
    · exact List.mem_cons_of_mem _ (List.mem_filter.mpr ⟨hgl, hp⟩)
    · exact List.mem_cons_self ..
  simpa using hsub

section
variable {m : SiteId} {dark : Handle → Bool} {c : Handle → Channel} {l : Link} {h : Handle} {hs : List Handle}

/-- Room for the entries of some channels leaves room for the first, and then for the others. -/
theorem Link.room_placeDown (hh : (h :: hs).Nodup)
    (hroom : l.shutters.length + ((h :: hs).filter (l.needs dark c)).length ≤ 256) :
    (l.needs dark c h = true → l.shutters.length < 256) ∧
    (l.placeDown m dark c h).shutters.length + (hs.filter ((l.placeDown m dark c h).needs dark c)).length ≤ 256 := by
  obtain ⟨hn, hs'⟩ := List.nodup_cons.mp hh
  unfold Link.placeDown
  by_cases hneed : l.needs dark c h = true
  · rw [List.filter_cons_of_pos hneed, List.length_cons] at hroom
    refine ⟨fun _ => by omega, ?_⟩
    rw [if_pos hneed]
    have grows {l' : Link} (g : Handle) (hl' : l'.shutters = l.shutters ++ [shutterEntry h (c h) false]) :
        l'.merges g (c g) = l.merges g (c g) := Link.merges_append hl' (by simp [shutterEntry]) g (c g)
    rcases l.placing_shutters m (shutterEntry h (c h) false) with hp | ⟨f, hf, hp⟩
    · have hsame : hs.filter ((l.placing m (shutterEntry h (c h) false)).needs dark c) = hs.filter (l.needs dark c) :=
        List.filter_congr fun g _ => by unfold Link.needs; rw [grows g hp]
      rw [hsame, hp, List.length_append, List.length_singleton]
      omega
    · have hlen := length_filter_of_but_one hs' (p := l.needs dark c) (q := (l.placing m (shutterEntry h (c h) false)).needs dark c)
        (a := f.handle) fun g _ hq => by
          by_cases hg : g = f.handle
          · exact .inr hg
          · refine .inl ?_
            unfold Link.needs at hq ⊢
            rwa [Link.merges_erase (l := { l with shutters := l.shutters ++ [shutterEntry h (c h) false] }) hp hg, grows g rfl] at hq
      rw [hp, List.length_erase_of_mem hf, List.length_append, List.length_singleton]
      omega
  · rw [List.filter_cons_of_neg hneed] at hroom
    rw [if_neg hneed]
    exact ⟨fun h => absurd h hneed, hroom⟩

end

/-- A channel's own placing, where there is room or its entry merges, changes its module's link alone. -/
theorem shutterDown_of_room {sent : List Handle} {t : State} {h : Handle} {dark : Handle → Bool}
    (hd : dark h = ((t.chan h).lit || sent.contains h))
    (hr : (t.link (t.chan h).dstSite).needs dark t.chan h = true → (t.link (t.chan h).dstSite).shutters.length < 256) :
    t.shutterDown sent h =
      t.setLink (t.chan h).dstSite ((t.link (t.chan h).dstSite).placeDown (t.chan h).dstSite dark t.chan h) := by
  unfold State.shutterDown Link.placeDown
  unfold Link.needs at hr ⊢
  rw [← hd]
  cases hdark : dark h with
  | false => rw [if_neg (by decide), if_neg (by simp), State.setLink_link]
  | true =>
    rw [hdark] at hr
    rw [if_pos rfl]
    unfold State.placeShutter
    dsimp only
    cases hm : (t.link (t.chan h).dstSite).merges h (t.chan h) with
    | true =>
      rw [State.addShutter_of_merges hm, if_neg (by simp), State.setLink_link]
      rfl
    | false =>
      rw [State.addShutter_of_room hm (hr (by rw [hm]; rfl)), if_pos (by simp)]
      rfl

/-- The placings of a teardown, where there is room for all: the links alone change. -/
theorem foldl_shutterDown_of_room {sent : List Handle} {dark : Handle → Bool} {l : List Handle} (hl : l.Nodup) {t : State}
    (hd : ∀ h ∈ l, dark h = ((t.chan h).lit || sent.contains h))
    (hr : ∀ m, (t.link m).shutters.length +
      ((l.filter fun h => decide ((t.chan h).dstSite = m)).filter ((t.link m).needs dark t.chan)).length ≤ 256) :
    l.foldl (State.shutterDown sent) t = { t with links := (l.foldl (State.shutterDown sent) t).links } ∧
    ∀ m, (l.foldl (State.shutterDown sent) t).link m =
      (l.filter fun h => decide ((t.chan h).dstSite = m)).foldl (Link.placeDown m dark t.chan) (t.link m) := by
  induction l generalizing t with
  | nil => exact ⟨rfl, fun _ => rfl⟩
  | cons h l ih =>
    have hl0 := hl
    obtain ⟨hh, hl⟩ := List.nodup_cons.mp hl
    have hmine := hr (t.chan h).dstSite
    rw [List.filter_cons_of_pos (by simp)] at hmine
    have hnodup : (h :: l.filter fun g => decide ((t.chan g).dstSite = (t.chan h).dstSite)).Nodup :=
      List.nodup_cons.mpr ⟨fun hm => hh (List.mem_of_mem_filter hm), hl.filter _⟩
    obtain ⟨hfits, hrest⟩ := Link.room_placeDown (m := (t.chan h).dstSite) hnodup hmine
    have hstep := shutterDown_of_room (hd h (List.mem_cons_self ..)) hfits
    rw [List.foldl_cons, hstep]
    generalize hu : t.setLink (t.chan h).dstSite ((t.link (t.chan h).dstSite).placeDown (t.chan h).dstSite dark t.chan h) = u
    have uchan : u.chan = t.chan := by rw [← hu]; rfl
    have ulink (m : SiteId) : u.link m =
        if m = (t.chan h).dstSite then (t.link (t.chan h).dstSite).placeDown (t.chan h).dstSite dark t.chan h else t.link m := by
      rw [← hu, State.link_setLink]
    obtain ⟨honly, hlinks⟩ := ih hl (t := u) (fun g hg => by rw [uchan]; exact hd g (List.mem_cons_of_mem h hg)) fun m => by
      rw [uchan, ulink]
      by_cases hm : m = (t.chan h).dstSite
      · rw [if_pos hm, hm]
        exact hrest
      · rw [if_neg hm]
        have := hr m
        rwa [List.filter_cons_of_neg (by simpa using fun he => hm he.symm)] at this
    refine ⟨?_, fun m => ?_⟩
    · rw [honly, ← hu]; rfl
    · rw [hlinks m, uchan, ulink]
      by_cases hm : m = (t.chan h).dstSite
      · rw [if_pos hm, List.filter_cons_of_pos (by simp [hm]), List.foldl_cons, hm]
      · rw [if_neg hm, List.filter_cons_of_neg (by simpa using fun he => hm he.symm)]

/-! ### Busy and idle modules -/

section
variable {m : SiteId} {dark : Handle → Bool} {c : Handle → Channel}

/-- A busy module's set takes the entries in the order of the channels. -/
theorem Link.foldl_placeDown_busy {l : Link} (ho : l.out ≠ none) (hs : List Handle) : hs.foldl (Link.placeDown m dark c) l =
    { l with shutters := l.shutters ++ (hs.filter (l.needs dark c)).map fun h => shutterEntry h (c h) false } := by
  induction hs generalizing l with
  | nil => simp
  | cons h hs ih =>
    rw [List.foldl_cons]
    by_cases hn : l.needs dark c h = true
    · have hstep : l.placeDown m dark c h = { l with shutters := l.shutters ++ [shutterEntry h (c h) false] } :=
        (if_pos hn).trans (Link.placing_busy ho)
      have hneeds : ({ l with shutters := l.shutters ++ [shutterEntry h (c h) false] } : Link).needs dark c = l.needs dark c := by
        funext g
        unfold Link.needs
        rw [Link.merges_append (l := l) rfl (by simp [shutterEntry])]
      rw [hstep, ih (l := { l with shutters := l.shutters ++ [shutterEntry h (c h) false] }) ho, hneeds, List.filter_cons_of_pos hn]
      simp
    · have hstep : l.placeDown m dark c h = l := if_neg hn
      rw [hstep, ih ho, List.filter_cons_of_neg hn]

/-- An idle module with an empty set is sent the first entry, and the others follow it in the set (R119). -/
theorem Link.foldl_placeDown_idle {l : Link} (ho : l.out = none) (hsh : l.shutters = []) (hs : List Handle) :
    hs.foldl (Link.placeDown m dark c) l = match hs.filter (l.needs dark c) with
      | [] => l
      | h :: rest =>
        { l.sendingShutter m (shutterEntry h (c h) false) with shutters := rest.map fun h => shutterEntry h (c h) false } := by
  induction hs with
  | nil => rfl
  | cons h hs ih =>
    rw [List.foldl_cons]
    by_cases hn : l.needs dark c h = true
    · have hstep : l.placeDown m dark c h = { l.sendingShutter m (shutterEntry h (c h) false) with shutters := [] } :=
        (if_pos hn).trans (Link.placing_empty ho hsh)
      have hneeds : ({ l.sendingShutter m (shutterEntry h (c h) false) with shutters := [] } : Link).needs dark c = l.needs dark c := by
        funext g
        unfold Link.needs
        rw [Link.merges_of_shutters (l := l) hsh.symm]
      rw [hstep, Link.foldl_placeDown_busy (by simp [Link.sendingShutter]), hneeds, List.filter_cons_of_pos hn]
      simp
    · have hstep : l.placeDown m dark c h = l := if_neg hn
      rw [hstep, ih, List.filter_cons_of_neg hn]

end

end Sys2Proof.Machine
end

section
/-!
SUPPORT. The last step of a teardown (R17, R22, R23, R117, R118, R162): the channels concerned return to FREE, table by table.
-/

namespace Sys2Proof.Machine

open Sys2Proof

/-! ### The shutter entries, whether or not there is room -/

/-- What the shutter entries of a teardown leave alone. -/
structure State.shutDown (s t : State) : Prop where
  steady : Steady s t
  holds : SameButHolds s t
  waitList : t.waitList = s.waitList
  passDue : t.passDue = s.passDue
  sites : t.sites = s.sites
  taps : t.taps = s.taps

theorem State.shutDown.refl (s : State) : s.shutDown s := ⟨.refl s, .refl s, rfl, rfl, rfl, rfl⟩

theorem State.shutDown.trans {s t u : State} (h : s.shutDown t) (g : t.shutDown u) : s.shutDown u :=
  ⟨h.steady.trans g.steady, h.holds.trans g.holds, g.waitList.trans h.waitList, g.passDue.trans h.passDue, g.sites.trans h.sites,
    g.taps.trans h.taps⟩

theorem shutterDown_shutDown (sent : List Handle) (s : State) (h : Handle) : s.shutDown (s.shutterDown sent h) := by
  have w := State.placing s h false
  have hs := placeShutter_holds s h false
  have hst := placeShutter_steady s h false
  unfold State.shutterDown
  split
  · exact ⟨hst, hs, w.waitList, w.passDue, w.sites, w.taps⟩
  · exact .refl s

theorem foldl_shutterDown_shutDown (sent l : List Handle) (s : State) : s.shutDown (l.foldl (State.shutterDown sent) s) := by
  induction l generalizing s with
  | nil => exact .refl s
  | cons h l ih => exact (shutterDown_shutDown sent s h).trans (ih _)

theorem SameButHolds.free {s t : State} (h : SameButHolds s t) {k : SlotId} (hk : s.slot k = none) : t.slot k = none := by
  have := h.slot k
  rw [hk] at this
  simpa using this

/-! ### One channel that returns to FREE without a transition -/

section
variable {t : State} {h : Handle} (hp : (t.chan h).pending = none) (doomed : List Handle)
include hp

theorem dropTransition_of_resting : t.dropTransition h = t.setChan h (t.chan h).rested := State.dropTransition_of_none hp

theorem toFree_tables : (t.toFree h doomed).waitList = t.waitList ∧ (t.toFree h doomed).slots = t.slots ∧
    (t.toFree h doomed).committed = t.committed ∧ (t.toFree h doomed).conds = t.conds ∧ (t.toFree h doomed).sites = t.sites ∧
    (t.toFree h doomed).taps = t.taps ∧ (t.toFree h doomed).journal = t.journal := by
  have hc := toFree_channels t h doomed
  refine ⟨?_, ?_, ?_, hc.conds, hc.sites, hc.taps, hc.journal⟩
  · rw [State.waitList_toFree, dropTransition_of_resting hp, State.setChan_waitList]
  · rw [State.slots_toFree, dropTransition_of_resting hp, State.setChan_slots]
  · rw [State.committed_toFree, dropTransition_of_resting hp, State.setChan_committed]

theorem toFree_passDue : (t.toFree h doomed).passDue =
    (t.passDue || (t.chan h).footprint.any fun x => (t.entry x).passes h doomed) := by
  have hdue : t.dropDue h = false := by unfold State.dropDue; rw [hp]
  rw [State.passDue_toFree, hdue, Bool.or_false]

theorem toFree_link (m : SiteId) : (t.toFree h doomed).link m =
    if m = (t.chan h).dstSite then ((t.link m).withoutLevel h).withUnbound h else t.link m := by
  rw [State.link_toFree, dropTransition_of_resting hp, State.link_setChan]

end

/-! ### All of them: the tables that stand -/

section
variable {l : List Handle} (doomed : List Handle)

/-- The channels that follow one that is freed keep their records. -/
theorem chan_freeDown_of_mem {t : State} {h g : Handle} (hh : h ∉ l) (hg : g ∈ l) : (State.freeDown doomed t h).chan g = t.chan g := by
  unfold State.freeDown
  rw [chan_toFree, if_neg fun he : g = h => hh (he ▸ hg)]

theorem foldl_freeDown_tables (hl : l.Nodup) {t : State} (hp : ∀ h ∈ l, (t.chan h).pending = none) :
    let u := l.foldl (State.freeDown doomed) t
    u.waitList = t.waitList ∧ u.slots = t.slots ∧ u.committed = t.committed ∧ u.conds = t.conds ∧ u.sites = t.sites ∧
    u.taps = t.taps ∧ u.journal = t.journal := by
  induction l generalizing t with
  | nil => exact ⟨rfl, rfl, rfl, rfl, rfl, rfl, rfl⟩
  | cons h l ih =>
    obtain ⟨hh, hl⟩ := List.nodup_cons.mp hl
    obtain ⟨h1, h2, h3, h4, h5, h6, h7⟩ := toFree_tables (hp h (List.mem_cons_self ..)) doomed
    obtain ⟨i1, i2, i3, i4, i5, i6, i7⟩ := ih hl (t := State.freeDown doomed t h) fun g hg => by
      rw [chan_freeDown_of_mem doomed hh hg]
      exact hp g (List.mem_cons_of_mem h hg)
    exact ⟨i1.trans h1, i2.trans h2, i3.trans h3, i4.trans h4, i5.trans h5, i6.trans h6, i7.trans h7⟩

/-! ### The links (R117, R118) -/

/-- Is a message LEVEL or shutter work of some channels? -/
def Outstanding.workOf (gone : Handle → Bool) (o : Outstanding) : Bool :=
  match o.bind with
  | .channel h => gone h && decide (o.msg.cls = .level ∨ o.msg.cls = .shutter)
  | .slot _ => false
  | .detached => false

/-- Is a request none of the LEVEL requests of some channels? -/
def Request.apart (gone : Handle → Bool) : Request → Bool
  | .level h _ => !gone h
  | .ramp _ => true

/-- An entry of a shutter set, unbound if it is of some channels. -/
def ShutterEntry.unboundFor (gone : Handle → Bool) (f : ShutterEntry) : ShutterEntry :=
  if gone f.handle then { f with bound := false } else f

theorem ShutterEntry.unboundFor_unboundFor (a b : Handle → Bool) (f : ShutterEntry) :
    (f.unboundFor a).unboundFor b = f.unboundFor fun g => a g || b g := by
  unfold ShutterEntry.unboundFor
  by_cases ha : a f.handle = true
  · by_cases hb : b f.handle = true <;> simp [ha, hb]
  · by_cases hb : b f.handle = true <;> simp [ha, hb]

/-- A module's link without the LEVEL and shutter work of some channels. -/
def Link.freed (l : Link) (gone : Handle → Bool) : Link :=
  { l.cut (Outstanding.workOf gone) (Request.apart gone) with
    shutters := l.shutters.map (ShutterEntry.unboundFor gone) }

theorem Outstanding.workOf_none (o : Outstanding) : o.workOf (fun _ => false) = false := by
  unfold Outstanding.workOf
  cases o.bind <;> rfl

theorem Outstanding.workOf_or (a b : Handle → Bool) (o : Outstanding) :
    (o.workOf a || o.workOf b) = o.workOf fun g => a g || b g := by
  unfold Outstanding.workOf
  cases o.bind with
  | channel h => exact (Bool.and_or_distrib_right _ _ _).symm
  | slot _ => rfl
  | detached => rfl

theorem Request.apart_and (a b : Handle → Bool) (r : Request) : (r.apart b && r.apart a) = r.apart fun g => a g || b g := by
  cases r with
  | level h _ => exact (Bool.and_comm _ _).trans (Bool.not_or _ _).symm
  | ramp _ => rfl

theorem Link.freed_none (l : Link) : l.freed (fun _ => false) = l := by
  have hcut : l.cut (Outstanding.workOf fun _ => false) (Request.apart fun _ => false) = l :=
    (l.cut_congr (fun o _ => o.workOf_none) fun r _ => by cases r <;> rfl).trans l.cut_nothing
  have hout := congrArg Link.out hcut
  have hqueue := congrArg Link.queue hcut
  refine Link.eq_of_fields rfl hout ?_ hqueue
  exact (List.map_congr_left fun f _ => by simp [ShutterEntry.unboundFor]).trans (List.map_id _)

theorem Link.freed_one (l : Link) (h : Handle) : (l.withoutLevel h).withUnbound h = l.freed fun g => decide (g = h) := by
  have hcut : (l.withoutLevel h).cut (fun o => decide (o.bind = .channel h ∧ o.msg.cls = .shutter)) (fun _ => true) =
      l.cut (Outstanding.workOf fun g => decide (g = h)) (Request.apart fun g => decide (g = h)) := by
    rw [Link.withoutLevel_eq, Link.cut_cut _ fun o ho => by simp [ho]]
    refine l.cut_congr (fun o _ => ?_) fun r _ => ?_
    · unfold Outstanding.workOf
      cases hb : o.bind with
      | channel g => simp [Bool.and_or_distrib_left]
      | slot _ => simp
      | detached => simp
    · cases r <;> simp [Request.isLevelOf, Request.apart]
  have hout := congrArg Link.out hcut
  have hqueue : (l.withoutLevel h).queue.filter (fun _ => true) = _ := congrArg Link.queue hcut
  rw [List.filter_true] at hqueue
  refine Link.eq_of_fields rfl hout ?_ hqueue
  unfold Link.withUnbound Link.withoutLevel Link.freed
  exact List.map_congr_left fun f _ => by simp [ShutterEntry.unboundFor]

theorem Link.freed_freed (l : Link) (a b : Handle → Bool) : (l.freed a).freed b = l.freed fun g => a g || b g := by
  have hcut : (l.cut (Outstanding.workOf a) (Request.apart a)).cut (Outstanding.workOf b) (Request.apart b) =
      l.cut (Outstanding.workOf fun g => a g || b g) (Request.apart fun g => a g || b g) := by
    rw [Link.cut_cut _ fun o ho => by unfold Outstanding.workOf; rw [ho]]
    exact l.cut_congr (fun o _ => Outstanding.workOf_or a b o) fun r _ => Request.apart_and a b r
  have hout := congrArg Link.out hcut
  have hqueue := congrArg Link.queue hcut
  refine Link.eq_of_fields rfl hout ?_ hqueue
  unfold Link.freed
  dsimp only
  rw [List.map_map]
  exact List.map_congr_left fun f _ => ShutterEntry.unboundFor_unboundFor a b f

theorem link_foldl_freeDown (hl : l.Nodup) {t : State} (hp : ∀ h ∈ l, (t.chan h).pending = none) (m : SiteId) :
    (l.foldl (State.freeDown doomed) t).link m =
      (t.link m).freed fun g => decide (g ∈ l ∧ (t.chan g).dstSite = m) := by
  induction l generalizing t with
  | nil => simp [Link.freed_none]
  | cons h l ih =>
    obtain ⟨hh, hl⟩ := List.nodup_cons.mp hl
    have hmem (g : Handle) (hg : g ∈ l) := chan_freeDown_of_mem (t := t) doomed hh hg
    have hstep : (State.freeDown doomed t h).link m = (t.link m).freed fun g => decide (g = h ∧ (t.chan h).dstSite = m) := by
      refine (toFree_link (hp h (List.mem_cons_self ..)) doomed m).trans ?_
      by_cases hm : m = (t.chan h).dstSite
      · rw [if_pos hm, Link.freed_one]
        simp [hm]
      · rw [if_neg hm, ← Link.freed_none (t.link m), Link.freed_freed]
        simp [Ne.symm hm]
    rw [List.foldl_cons, ih hl fun g hg => by rw [hmem g hg]; exact hp g (List.mem_cons_of_mem h hg), hstep, Link.freed_freed]
    congr 1
    funext g
    by_cases hg : g = h
    · subst hg; simp [hh]
    · by_cases hgl : g ∈ l
      · simp [hg, hgl, hmem g hgl]
      · simp [hg, hgl]

/-! ### The maps, and the claims that pass (R22, R23) -/

/-- What a release leaves of an entry was there before. -/
theorem Entry.release_within {h g : Handle} {e : Entry} (hg : (e.release h).owner = some g ∨ (e.release h).claimant = some g) :
    e.owner = some g ∨ e.claimant = some g := by
  unfold Entry.release at hg
  rw [Entry.unclaim_passOn] at hg
  split at hg
  · exact .inr (by simpa using hg)
  · split at hg
    · exact .inl (by simpa using hg)
    · exact hg

/-- An entry that keeps a claimant through a release is none of the channel's. -/
theorem Entry.eq_of_release {h g : Handle} {e : Entry} (hg : (e.release h).claimant = some g) :
    e.release h = e := by
  unfold Entry.release at *
  rw [Entry.unclaim_passOn] at *
  split
  · rename_i hc
    rw [if_pos hc] at hg
    cases hg
  · rename_i hc
    rw [if_neg hc] at hg
    split
    · rename_i hd
      rw [if_pos hd] at hg
      cases hg
    · rfl

/-- An entry after the release of several channels: it passes on if its owner goes, and loses its claimant if that goes. -/
theorem Entry.foldl_release (l : List Handle) (e : Entry) (ha : ∀ g, e.claimant = some g → e.owner ≠ none ∧ e.owner ≠ some g) :
    l.foldl (fun e h => e.release h) e = match e.owner, e.claimant with
      | none, _ => {}
      | some o, none => if o ∈ l then {} else { owner := some o }
      | some o, some g =>
        if o ∈ l then (if g ∈ l then {} else { owner := some g })
        else if g ∈ l then { owner := some o } else { owner := some o, claimant := some g } := by
  have nothing (l : List Handle) : l.foldl (fun e h => Entry.release h e) {} = {} := by
    induction l with
    | nil => rfl
    | cons h l ih =>
      rw [List.foldl_cons, Entry.release_of_other (by simp) (by simp), ih]
  have alone (l : List Handle) (o : Handle) : l.foldl (fun e h => Entry.release h e) { owner := some o, claimant := none } =
      if o ∈ l then {} else { owner := some o } := by
    induction l with
    | nil => rfl
    | cons h l ih =>
      rw [List.foldl_cons]
      by_cases hh : o = h
      · rw [Entry.release_of_owner (by rw [hh]) (by simp), if_pos (by rw [hh]; exact List.mem_cons_self ..)]
        exact nothing l
      · rw [Entry.release_of_other (by simpa using hh) (by simp), ih]
        simp [hh]
  obtain ⟨owner, claimant⟩ := e
  cases owner with
  | none =>
    cases claimant with
    | none => exact nothing l
    | some g => exact absurd rfl (ha g rfl).1
  | some o =>
    cases claimant with
    | none => exact alone l o
    | some g =>
      have hne : o ≠ g := fun he => (ha g rfl).2 (congrArg some he)
      clear ha
      dsimp only
      induction l with
      | nil => rfl
      | cons h l ih =>
        rw [List.foldl_cons]
        by_cases ho : o = h
        · subst ho
          rw [Entry.release_of_owner rfl (by simpa using Ne.symm hne)]
          simp only [alone, List.mem_cons, true_or, if_true, Ne.symm hne, false_or]
        · by_cases hg : g = h
          · subst hg
            rw [Entry.release_of_claimant (by simpa using hne) rfl]
            simp only [alone, List.mem_cons, true_or, if_true, hne, false_or]
          · rw [Entry.release_of_other (by simpa using ho) (by simpa using hg), ih]
            simp only [List.mem_cons, ho, hg, false_or]

/-- Channels without a transition, whose entries are in their footprints. -/
def State.freeable (t : State) (l : List Handle) : Prop := ∀ h ∈ l, (t.chan h).pending = none ∧ t.reservesWithin h

theorem State.freeable.freeDown {t : State} {h : Handle} {l : List Handle} (w : t.freeable (h :: l)) (hh : h ∉ l) :
    (State.freeDown doomed t h).freeable l := by
  obtain ⟨-, hres⟩ := w h (List.mem_cons_self ..)
  intro g hg
  obtain ⟨hp, hw⟩ := w g (List.mem_cons_of_mem h hg)
  have hc := chan_freeDown_of_mem (t := t) doomed hh hg
  refine ⟨by rw [hc]; exact hp, fun r hr => ?_⟩
  rw [hc]
  have he : (State.freeDown doomed t h).entry r = (t.entry r).release h := State.entry_toFree_within hres doomed r
  rw [he] at hr
  exact hw r (Entry.release_within hr)

theorem entry_foldl_freeDown (hl : l.Nodup) {t : State} (w : t.freeable l) (x : EntryRef) :
    (l.foldl (State.freeDown doomed) t).entry x = l.foldl (fun e h => e.release h) (t.entry x) := by
  induction l generalizing t with
  | nil => rfl
  | cons h l ih =>
    obtain ⟨hh, hl⟩ := List.nodup_cons.mp hl
    have he : (State.freeDown doomed t h).entry x = (t.entry x).release h :=
      State.entry_toFree_within (w h (List.mem_cons_self ..)).2 doomed x
    rw [List.foldl_cons, List.foldl_cons, ih hl (w.freeDown doomed hh), he]

theorem Entry.passes_iff {h : Handle} {e : Entry} :
    e.passes h doomed = true ↔ e.owner = some h ∧ ∃ g, e.claimant = some g ∧ g ∉ doomed := by
  unfold Entry.passes
  cases e.claimant <;> simp

/-- A pass is due when an entry passes to a claimant that remains (R22, R23). -/
theorem passDue_foldl_freeDown (hl : l.Nodup) (hsub : ∀ h ∈ l, h ∈ doomed) {t : State} (w : t.freeable l) :
    (l.foldl (State.freeDown doomed) t).passDue = true ↔ t.passDue = true ∨
      ∃ x o g, (t.entry x).owner = some o ∧ (t.entry x).claimant = some g ∧ o ∈ l ∧ g ∉ doomed := by
  induction l generalizing t with
  | nil => simp
  | cons h l ih =>
    obtain ⟨hh, hl⟩ := List.nodup_cons.mp hl
    obtain ⟨hp, hres⟩ := w h (List.mem_cons_self ..)
    have he (x : EntryRef) : (State.freeDown doomed t h).entry x = (t.entry x).release h := State.entry_toFree_within hres doomed x
    have hdue : (State.freeDown doomed t h).passDue = true ↔ t.passDue = true ∨
        ∃ x ∈ (t.chan h).footprint, (t.entry x).owner = some h ∧ ∃ g, (t.entry x).claimant = some g ∧ g ∉ doomed := by
      refine (by rw [State.freeDown, toFree_passDue hp, Bool.or_eq_true, List.any_eq_true] :
        (State.freeDown doomed t h).passDue = true ↔ t.passDue = true ∨
          ∃ x ∈ (t.chan h).footprint, (t.entry x).passes h doomed = true).trans ?_
      exact or_congr_right (exists_congr fun x => and_congr_right fun _ => Entry.passes_iff doomed)
    rw [List.foldl_cons, ih hl (fun g hg => hsub g (List.mem_cons_of_mem h hg)) (w.freeDown doomed hh), hdue, or_assoc]
    refine or_congr_right ⟨?_, ?_⟩
    · rintro (⟨x, -, ho, g, hg, hn⟩ | ⟨x, o, g, ho, hg, hol, hn⟩)
      · exact ⟨x, h, g, ho, hg, List.mem_cons_self .., hn⟩
      · rw [he] at ho hg
        have hsame := Entry.eq_of_release hg
        rw [hsame] at ho hg
        exact ⟨x, o, g, ho, hg, List.mem_cons_of_mem h hol, hn⟩
    · rintro ⟨x, o, g, ho, hg, hol, hn⟩
      by_cases hoh : o = h
      · subst hoh
        exact .inl ⟨x, hres x (.inl ho), ho, g, hg, hn⟩
      · have hgh : g ≠ h := fun hgh => hn (hgh ▸ hsub h (List.mem_cons_self ..))
        have hsame : (t.entry x).release h = t.entry x :=
          Entry.release_of_other (by rw [ho]; simpa using hoh) (by rw [hg]; simpa using hgh)
        exact .inr ⟨x, o, g, by rw [he, hsame]; exact ho, by rw [he, hsame]; exact hg, (List.mem_cons.mp hol).resolve_left hoh, hn⟩

end

end Sys2Proof.Machine
end

section
/-!
SUPPORT. The teardown as a whole (R162), table by table.
-/

namespace Sys2Proof.Machine

open Sys2Proof

/-! ### The steps -/

section
variable (s : State) (n : SiteId)

/-- A teardown after its first step: the transitions of the channels concerned removed, their descriptors CANCELLED. -/
def State.cutOff : State := (s.concerned n).foldl State.cancelOne s

/-- A teardown after its second step: their LEVEL work withdrawn. -/
def State.levelled : State := (s.concerned n).foldl State.dropLevelOf (s.cutOff n)

/-- A teardown after its third step: their shutter entries placed. -/
def State.shaded : State := (s.concerned n).foldl (State.shutterDown ((s.concerned n).filter s.rampSent)) (s.levelled n)

theorem State.tearDown_steps : s.tearDown n = (s.concerned n).foldl (State.freeDown (s.concerned n)) (s.shaded n) := rfl

theorem State.chan_levelled (g : Handle) : (s.levelled n).chan g = if g ∈ s.concerned n then (s.chan g).rested else s.chan g := by
  unfold State.levelled
  rw [(foldl_dropLevelOf_only _ _).chan]
  exact chan_foldl_cancelOne _ _ _

theorem State.levelled_only : SameButLinks (s.cutOff n) (s.levelled n) := foldl_dropLevelOf_only _ _

theorem State.levelled_slots : (s.levelled n).slots = (s.cutOff n).slots := foldl_dropLevelOf_slots _ _

theorem State.cutOff_channels : SameButChannels { s with journal := (s.cutOff n).journal } (s.cutOff n) := by
  unfold State.cutOff
  generalize s.concerned n = l
  induction l generalizing s with
  | nil => exact rfl
  | cons h l ih =>
    have w := ih (s.cancelOne h)
    have hc := dropTransition_channels s h
    have ho := cancelOne_channels s h
    rw [List.foldl_cons]
    generalize l.foldl State.cancelOne (s.cancelOne h) = t at w ⊢
    unfold SameButChannels at *
    rw [w, ho, hc]

theorem State.shaded_shutDown : (s.levelled n).shutDown (s.shaded n) := foldl_shutterDown_shutDown _ _ _

theorem chan_foldl_shutterDown_of_not_mem (sent : List Handle) {l : List Handle} {g : Handle} (hg : g ∉ l) (t : State) :
    (l.foldl (State.shutterDown sent) t).chan g = t.chan g := by
  induction l generalizing t with
  | nil => rfl
  | cons h l ih =>
    rw [List.mem_cons, not_or] at hg
    have hstep : (t.shutterDown sent h).chan g = t.chan g := by
      unfold State.shutterDown
      split
      · rw [(State.placing t h false).chan, if_neg hg.1]
      · rfl
    rw [List.foldl_cons, ih hg.2, hstep]

/-- The channels concerned have no transition any more, and their ends and footprints stand. -/
theorem State.chan_shaded {h : Handle} (hh : h ∈ s.concerned n) :
    ((s.shaded n).chan h).pending = none ∧ ((s.shaded n).chan h).footprint = (s.chan h).footprint := by
  have hc := (s.shaded_shutDown n).steady.alike.chan h
  rw [s.chan_levelled, if_pos hh] at hc
  exact ⟨Channel.eq_of_core Channel.pending hc, (Channel.eq_of_core (c := (s.chan h).rested) Channel.footprint hc :)⟩

/-- Is a slot that of a channel concerned? -/
def State.tornSlot (k : SlotId) : Prop := ∃ h ∈ s.concerned n, (s.chan h).pending = some (.slot k)

/-! ### What the teardown leaves, and the tables it rewrites -/

theorem chan_tearDown (h : Handle) : (s.tearDown n).chan h = if h ∈ s.concerned n then {} else s.chan h := by
  rw [s.tearDown_steps, chan_foldl_freeDown]
  split
  · rfl
  · rename_i hh
    exact (chan_foldl_shutterDown_of_not_mem _ hh _).trans ((s.chan_levelled n h).trans (if_neg hh))

theorem tearDown_tables : (s.tearDown n).sites = s.sites ∧ (s.tearDown n).taps = s.taps ∧
    (s.tearDown n).waitList = (s.cutOff n).waitList ∧ (s.tearDown n).slots = (s.shaded n).slots ∧
    (s.tearDown n).committed = (s.shaded n).committed ∧ (s.tearDown n).conds = (s.shaded n).conds ∧
    (s.tearDown n).journal = (s.shaded n).journal := by
  have w := s.shaded_shutDown n
  have hc := (s.levelled_only n).channels
  have hs := s.cutOff_channels n
  obtain ⟨h1, h2, h3, h4, h5, h6, h7⟩ := foldl_freeDown_tables (s.concerned n) (s.concerned_nodup n) (t := s.shaded n) fun h hh =>
    (s.chan_shaded n hh).1
  rw [s.tearDown_steps]
  exact ⟨h5.trans (w.sites.trans (hc.sites.trans hs.sites)), h6.trans (w.taps.trans (hc.taps.trans hs.taps)),
    h1.trans (w.waitList.trans (s.levelled_only n).waitList), h2, h3, h4, h7⟩

theorem waitList_tearDown : (s.tearDown n).waitList =
    s.waitList.filter fun e => decide ¬(e.handle ∈ s.concerned n ∧ (s.chan e.handle).pending = some .waiting) := by
  obtain ⟨-, -, hw, -⟩ := tearDown_tables s n
  exact hw.trans (waitList_foldl_cancelOne (s.concerned_nodup n) s)

theorem slot_cutOff_of_torn {k : SlotId} (hk : s.tornSlot n k) : (s.cutOff n).slot k = none := by
  unfold State.cutOff
  rw [slot_foldl_cancelOne (s.concerned_nodup n)]
  exact if_pos hk

theorem slot_cutOff_of_not_torn {k : SlotId} (hk : ¬s.tornSlot n k) : (s.cutOff n).slot k = s.slot k := by
  unfold State.cutOff
  rw [slot_foldl_cancelOne (s.concerned_nodup n)]
  exact if_neg hk

theorem cutOff_shaded_holds : SameButHolds (s.cutOff n) (s.shaded n) :=
  SameButHolds.trans (.of_slots (s.levelled_slots n) (s.levelled_only n).committed) (s.shaded_shutDown n).holds

theorem shaded_tearDown_holds : SameButHolds (s.shaded n) (s.tearDown n) := by
  obtain ⟨-, -, -, hs, hc, -⟩ := tearDown_tables s n
  exact .of_slots hs hc

theorem slot_tearDown (k : SlotId) : (s.tornSlot n k → (s.tearDown n).slot k = none) ∧
    (s.slot k = none → (s.tearDown n).slot k = none) ∧
    ∀ x, ¬s.tornSlot n k → s.slot k = some x → ∃ y, (s.tearDown n).slot k = some y ∧
      y = { x with held := y.held, drive := y.drive, takeover := y.takeover } := by
  have w := (cutOff_shaded_holds s n).trans (shaded_tearDown_holds s n)
  refine ⟨fun hk => w.free (slot_cutOff_of_torn s n hk), fun hk => ?_, fun x hk hx => ?_⟩
  · by_cases ht : s.tornSlot n k
    · exact w.free (slot_cutOff_of_torn s n ht)
    · exact w.free ((slot_cutOff_of_not_torn s n ht).trans hk)
  · have hf := w.slot k
    rw [slot_cutOff_of_not_torn s n hk, hx, Option.map_some, Option.map_eq_some_iff] at hf
    obtain ⟨y, hy, hyx⟩ := hf
    exact ⟨y, hy, Slot.eq_of_frame hyx⟩

theorem swingOk_tearDown (hs : s.swingOk) : (s.tearDown n).swingOk :=
  ((cutOff_shaded_holds s n).trans (shaded_tearDown_holds s n)).swingOk (State.swingOk_foldl_cancelOne hs _)

theorem passDue_cutOff : (s.cutOff n).passDue = true ↔ s.passDue = true ∨ ∃ h ∈ s.concerned n, s.dropDue h = true :=
  passDue_foldl_cancelOne (s.concerned_nodup n) s

theorem passDue_shaded : (s.shaded n).passDue = (s.cutOff n).passDue :=
  (s.shaded_shutDown n).passDue.trans (s.levelled_only n).passDue

theorem passDue_foldl_freeDown_mono (doomed l : List Handle) {t : State} (h : t.passDue = true) :
    (l.foldl (State.freeDown doomed) t).passDue = true := by
  induction l generalizing t with
  | nil => exact h
  | cons g l ih =>
    refine ih (t := State.freeDown doomed t g) ?_
    unfold State.freeDown
    rw [State.passDue_toFree, h]
    rfl

/-- A pass is due when the teardown frees a slot in use (R83). -/
theorem passDue_tearDown_of_torn {k : SlotId} (hk : s.tornSlot n k) (hx : s.slot k ≠ none) : (s.tearDown n).passDue = true := by
  obtain ⟨h, hh, hp⟩ := hk
  rw [s.tearDown_steps]
  refine passDue_foldl_freeDown_mono _ _ ?_
  rw [passDue_shaded, passDue_cutOff]
  refine .inr ⟨h, hh, ?_⟩
  unfold State.dropDue
  rw [hp]
  exact Option.isSome_iff_ne_none.mpr hx

theorem entry_shaded (x : EntryRef) : (s.shaded n).entry x = s.entry x := by
  rw [(s.shaded_shutDown n).steady.alike.entry, (s.levelled_only n).entry]
  exact entry_foldl entry_cancelOne _ _ _

end

/-! ### With coherence -/

section
variable {s : State} (w : s.coherent) (n : SiteId)
include w

theorem State.coherent.slotsOwn (l : List Handle) : s.slotsOwn l := by
  intro h _ k hp
  obtain ⟨x, hx, hxh⟩ := w.slotOf h k hp
  exact ⟨x, hx, hxh, by rw [← hxh]; exact (w.slots k x hx).2.2.1⟩

theorem State.coherent.apart (x : EntryRef) (g : Handle) (hg : (s.entry x).claimant = some g) :
    (s.entry x).owner ≠ none ∧ (s.entry x).owner ≠ some g := by
  obtain ⟨hdark, h, ho, hf⟩ := w.claimed x g hg
  rw [ho]
  refine ⟨by simp, fun he => ?_⟩
  cases he
  rw [hdark] at hf
  cases hf

theorem State.coherent.freeable : (s.shaded n).freeable (s.concerned n) := by
  intro h hh
  obtain ⟨hp, hf⟩ := s.chan_shaded n hh
  refine ⟨hp, fun r hr => ?_⟩
  rw [hf]
  rw [entry_shaded s n] at hr
  exact (w.reserved r h hr).2

theorem entry_tearDown (x : EntryRef) : (s.tearDown n).entry x = match (s.entry x).owner, (s.entry x).claimant with
    | none, _ => {}
    | some o, none => if o ∈ s.concerned n then {} else { owner := some o }
    | some o, some g =>
      if o ∈ s.concerned n then (if g ∈ s.concerned n then {} else { owner := some g })
      else if g ∈ s.concerned n then { owner := some o } else { owner := some o, claimant := some g } := by
  rw [s.tearDown_steps, entry_foldl_freeDown _ (s.concerned_nodup n) (w.freeable n), entry_shaded s n]
  exact Entry.foldl_release _ _ (w.apart x)

theorem passDue_tearDown : (s.tearDown n).passDue = true ↔ s.passDue = true ∨ (∃ k, s.tornSlot n k ∧ s.slot k ≠ none) ∨
    (∃ e ∈ s.waitList, e.handle ∈ s.concerned n ∧ e.barrier = true ∧ s.isHeld e.handle = false) ∨
    ∃ x o g, (s.entry x).owner = some o ∧ (s.entry x).claimant = some g ∧ o ∈ s.concerned n ∧ g ∉ s.concerned n := by
  rw [s.tearDown_steps, passDue_foldl_freeDown _ (s.concerned_nodup n) (fun _ => id) (w.freeable n), passDue_shaded, passDue_cutOff, or_assoc]
  refine or_congr_right ?_
  simp only [entry_shaded s n]
  rw [← or_assoc]
  refine or_congr_left ⟨?_, ?_⟩
  · rintro ⟨h, hh, hd⟩
    unfold State.dropDue at hd
    split at hd
    · cases hd
    · rename_i hp
      obtain ⟨e, he, hact⟩ := (Option.any_eq_true _ _).mp hd
      have heh : e.handle = h := by simpa using List.find?_some he
      unfold State.acting at hact
      rw [Bool.and_eq_true, Bool.not_eq_true'] at hact
      exact .inr ⟨e, List.mem_of_find?_eq_some he, heh ▸ hh, hact.1, hact.2⟩
    · rename_i k hp
      exact .inl ⟨k, ⟨h, hh, hp⟩, Option.isSome_iff_ne_none.mp hd⟩
  · rintro (⟨k, ⟨h, hh, hp⟩, hx⟩ | ⟨e, he, hh, hb, hheld⟩)
    · refine ⟨h, hh, ?_⟩
      unfold State.dropDue
      rw [hp]
      exact Option.isSome_iff_ne_none.mpr hx
    · refine ⟨e.handle, hh, ?_⟩
      have hentry : s.entryOf e.handle = some e := by
        obtain ⟨hnodup, -⟩ := w.waitOf
        cases hf : s.entryOf e.handle with
        | none => exact absurd (decide_eq_true rfl) (List.find?_eq_none.mp hf e he)
        | some e' =>
          have heh : e'.handle = e.handle := by simpa using List.find?_some hf
          rw [List.inj_on_of_nodup_map hnodup (List.mem_of_find?_eq_some hf) he heh]
      unfold State.dropDue
      rw [(w.waits e he).1]
      dsimp only
      rw [hentry]
      simp [State.acting, hb, hheld]

/-- No swing is left toward a site torn down (R94, R162). -/
theorem swingOf_tearDown (hs : s.swingOk) {d : Fin 8} (hd : degreeSite d = n) : (s.tearDown n).swingOf d = 0 := by
  rw [swingOk_tearDown s n hs d]
  unfold State.slotSwing
  refine List.sum_eq_zero fun v hv => ?_
  obtain ⟨k, -, rfl⟩ := List.mem_map.mp hv
  obtain ⟨h1, h2, h3⟩ := slot_tearDown s n k
  cases hx : s.slot k with
  | none => rw [h2 hx]; rfl
  | some x =>
    by_cases hk : s.tornSlot n k
    · rw [h1 hk]; rfl
    · obtain ⟨y, hy, hyx⟩ := h3 x hk hx
      obtain ⟨hp, hst, hdest, -⟩ := w.slots k x hx
      have hnot : x.handle ∉ s.concerned n := fun hm => hk ⟨x.handle, hm, hp⟩
      have hfree : (s.chan x.handle).state ≠ .free := by rw [hst]; cases x.kind <;> decide
      have hne : y.dest ≠ degreeSite d := by
        rw [hyx, hd]
        intro he
        exact hnot (State.mem_concerned.mpr ⟨hfree, .inr (hdest.symm.trans he)⟩)
      rw [hy]
      simp [slotCharge, hne]

end

end Sys2Proof.Machine
end

section
/-!
SUPPORT. The teardown where there is room for its shutter entries (R118, R162): the links, and what is handed over.
-/

namespace Sys2Proof.Machine

open Sys2Proof

/-! ### Links with little to lose -/

theorem Link.cut_of_idle {l : Link} (ho : l.out = none) (hq : l.queue = []) (loses : Outstanding → Bool) (keeps : Request → Bool) :
    l.cut loses keeps = l := Link.eq_of_fields rfl (by simp [Link.cut, ho]) rfl (by simp [Link.cut, hq])

/-- A module with a detached message, no request and unbound entries alone loses nothing when channels return to FREE. -/
theorem Link.freed_of_unbound {l : Link} (ho : ∀ o, l.out = some o → o.bind = .detached) (hq : l.queue = [])
    (hs : ∀ f ∈ l.shutters, f.bound = false) (gone : Handle → Bool) : l.freed gone = l := by
  refine Link.eq_of_fields rfl ?_ ?_ (by simp [Link.freed, Link.cut, hq])
  · show l.out.map (fun o => o.detachIf (o.workOf gone)) = l.out
    cases hout : l.out with
    | none => rfl
    | some o =>
      have hw : o.workOf gone = false := by unfold Outstanding.workOf; rw [ho o hout]
      rw [Option.map_some, hw]
      rfl
  · refine (List.map_congr_left fun f hf => ?_).trans (List.map_id _)
    have hb := hs f hf
    unfold ShutterEntry.unboundFor
    split
    · rw [← hb]; rfl
    · rfl

section
variable (s : State) (n : SiteId)

/-! ### The channels that get an entry -/

/-- Is a channel to be dark after the teardown: it is lit, or its RAMP message was outstanding (R162)? -/
def State.darkens (h : Handle) : Bool := (s.chan h).lit || s.rampSent h

/-- The channels concerned that a module's set gets an entry for, ascending. -/
def State.placedDown (m : SiteId) : List Handle :=
  ((s.concerned n).filter fun h => decide ((s.chan h).dstSite = m)).filter ((s.link m).needs s.darkens s.chan)

/-- Is a channel concerned, with its output at a module? -/
def State.goneAt (m : SiteId) (h : Handle) : Bool := decide (h ∈ s.concerned n ∧ (s.chan h).dstSite = m)

/-- Every module's set has room for its entries (R118). -/
def State.roomDown : Prop := ∀ m, (s.link m).shutters.length + (s.placedDown n m).length ≤ 256

/-- What a record keeps when its transition is removed. -/
theorem State.of_chan_levelled {α : Type} (f : Channel → α) (h : Handle) (hf : ∀ c : Channel, f c.rested = f c := by exact fun _ => rfl) :
    f ((s.levelled n).chan h) = f (s.chan h) := by
  rw [s.chan_levelled]
  split
  · exact hf _
  · rfl

theorem State.levelled_link_rest (m : SiteId) : ((s.levelled n).link m).shutters = (s.link m).shutters ∧
    (((s.levelled n).link m).out = none ↔ (s.link m).out = none) ∧
    ((s.link m).out = none → (s.link m).queue = [] → (s.levelled n).link m = s.link m) := by
  obtain ⟨h1, h2, h3⟩ := link_foldl_cancelOne_rest (s.concerned n) s m
  have hl := link_foldl_dropLevelOf (s.concerned n) (s.cutOff n) m
  change ((s.levelled n).link m) = _ at hl
  rw [hl]
  refine ⟨h1, ?_, fun ho hq => ?_⟩
  · rw [← h2]
    exact Option.map_eq_none_iff
  · have hsame := h3 ho hq
    change (s.cutOff n).link m = s.link m at hsame
    rw [hsame]
    exact Link.cut_of_idle ho hq _ _

theorem State.needs_levelled (m : SiteId) :
    ((s.levelled n).link m).needs s.darkens (s.levelled n).chan = (s.link m).needs s.darkens s.chan := by
  funext h
  unfold Link.needs Link.merges
  rw [(s.levelled_link_rest n m).1, s.of_chan_levelled n Channel.first, s.of_chan_levelled n Channel.count]

theorem State.placedDown_levelled (m : SiteId) :
    ((s.concerned n).filter fun h => decide (((s.levelled n).chan h).dstSite = m)).filter
      (((s.levelled n).link m).needs s.darkens (s.levelled n).chan) = s.placedDown n m := by
  rw [s.needs_levelled]
  unfold State.placedDown
  simp only [s.of_chan_levelled n Channel.dstSite]

theorem State.shutterEntry_levelled (h : Handle) : shutterEntry h ((s.levelled n).chan h) false = shutterEntry h (s.chan h) false :=
  s.of_chan_levelled n (fun c => shutterEntry h c false) h

theorem link_tearDown_freed (m : SiteId) : (s.tearDown n).link m = ((s.shaded n).link m).freed (s.goneAt n m) := by
  rw [s.tearDown_steps, link_foldl_freeDown _ (s.concerned_nodup n) (fun h hh => (s.chan_shaded n hh).1)]
  congr 1
  funext g
  have hd : ((s.shaded n).chan g).dstSite = (s.chan g).dstSite :=
    (Channel.eq_of_core Channel.dstSite ((s.shaded_shutDown n).steady.alike.chan g)).trans (s.of_chan_levelled n Channel.dstSite g)
  unfold State.goneAt
  rw [hd]

end

/-! ### Where there is room for the entries -/

section
variable {s : State} {n : SiteId} (hr : s.roomDown n)
include hr

theorem State.roomDown.shaded : s.shaded n = { s.levelled n with links := (s.shaded n).links } ∧ ∀ m, (s.shaded n).link m =
    ((s.concerned n).filter fun h => decide (((s.levelled n).chan h).dstSite = m)).foldl
      (Link.placeDown m s.darkens (s.levelled n).chan) ((s.levelled n).link m) := by
  refine foldl_shutterDown_of_room (s.concerned_nodup n) (fun h hh => ?_) fun m => ?_
  · unfold State.darkens
    rw [s.of_chan_levelled n Channel.lit]
    congr 1
    simp [hh]
  · rw [s.placedDown_levelled, (s.levelled_link_rest n m).1]
    exact hr m

/-- The conditions stand, and the slots that are not torn down. -/
theorem State.roomDown.tables : (s.tearDown n).conds = s.conds ∧ (s.tearDown n).slots = (s.cutOff n).slots ∧
    (s.tearDown n).journal = (s.cutOff n).journal := by
  obtain ⟨-, -, -, hslots, -, hconds, hjournal⟩ := tearDown_tables s n
  obtain ⟨honly, -⟩ := hr.shaded
  have hc := congrArg State.conds honly
  have hk := congrArg State.slots honly
  have hj := congrArg State.journal honly
  refine ⟨hconds.trans (hc.trans ((s.levelled_only n).channels.conds.trans (s.cutOff_channels n).conds)), hslots.trans (hk.trans
    (s.levelled_slots n)), hjournal.trans (hj.trans (s.levelled_only n).channels.journal)⟩

/-- A busy module's set: the entries placed follow those there, and the entries of the channels concerned are unbound. -/
theorem State.roomDown.link_busy {m : SiteId} (ho : (s.link m).out ≠ none) : (s.tearDown n).link m =
    ({ (s.levelled n).link m with
        shutters := (s.link m).shutters ++ (s.placedDown n m).map fun h => shutterEntry h (s.chan h) false } : Link).freed (s.goneAt n m) := by
  obtain ⟨hset, hout, -⟩ := s.levelled_link_rest n m
  rw [link_tearDown_freed, (hr.shaded).2, Link.foldl_placeDown_busy fun h => ho (hout.mp h), s.placedDown_levelled, hset]
  simp only [s.shutterEntry_levelled]

/-- An idle module with nothing to send is sent the lowest handle's entry, the others following in its set. -/
theorem State.roomDown.link_idle {m : SiteId} (ho : (s.link m).out = none) (hq : (s.link m).queue = []) (hs : (s.link m).shutters = []) :
    (s.tearDown n).link m = match s.placedDown n m with
      | [] => s.link m
      | h :: rest =>
        { (s.link m).sendingShutter m (shutterEntry h (s.chan h) false) with
          shutters := rest.map fun h => shutterEntry h (s.chan h) false } := by
  obtain ⟨-, -, hsame⟩ := s.levelled_link_rest n m
  have hl := (hr.shaded).2 m
  rw [Link.foldl_placeDown_idle (by rw [hsame ho hq]; exact ho) (by rw [hsame ho hq]; exact hs), s.placedDown_levelled, hsame ho hq] at hl
  rw [link_tearDown_freed, hl]
  cases s.placedDown n m with
  | nil => exact Link.freed_of_unbound (by simp [ho]) hq (by simp [hs]) _
  | cons h rest =>
    dsimp only
    simp only [s.shutterEntry_levelled]
    refine Link.freed_of_unbound (l := { (s.link m).sendingShutter m (shutterEntry h (s.chan h) false) with
      shutters := rest.map fun h => shutterEntry h (s.chan h) false }) (fun o he => ?_) hq (fun f hf => ?_) _
    · cases he; rfl
    · obtain ⟨g, -, rfl⟩ := List.mem_map.mp hf; rfl

end

/-! ### What is handed over (R56, R58, R162) -/

theorem recordCount_cancelItems (s : State) (h : Handle) : recordCount (s.cancelItems h) ≤ 1 := by
  unfold State.cancelItems
  dsimp only
  split
  · exact Nat.le_refl 1
  · exact Nat.zero_le 1

theorem State.slotsOwn.cancelItems {s : State} {h : Handle} {l : List Handle} (w : s.slotsOwn (h :: l)) (hh : h ∉ l) {g : Handle} (hg : g ∈ l) :
    (s.cancelOne h).cancelItems g = s.cancelItems g := by
  have hgh : g ≠ h := fun he => hh (he ▸ hg)
  have hc := chan_cancelOne_of_mem (s := s) hh hg
  have htick : (s.cancelOne h).tick = s.tick := by
    have ho : (s.cancelOne h).outer = s.outer := by simp [State.cancelOne]
    exact congrArg (fun v => v.tick) ho
  have ht : (s.cancelOne h).transOf g = s.transOf g := by
    unfold State.transOf
    rw [hc]
    cases hp : (s.chan g).pending with
    | none => rfl
    | some r =>
      cases r with
      | waiting => dsimp only; rw [entryOf_cancelOne s h hgh]
      | slot k => dsimp only; rw [w.slot_cancelOne hh hg hp]
  cases hx : s.transOf g with
  | none => rw [State.cancelItems_of_none hx, State.cancelItems_of_none (ht.trans hx)]
  | some x =>
    obtain ⟨k, o⟩ := x
    rw [State.cancelItems_of_some hx, State.cancelItems_of_some (ht.trans hx), hc, htick]

theorem handOver_foldl_cancelOne {l : List Handle} (hl : l.Nodup) {s : State} (w : s.slotsOwn l)
    (hroom : recordCount s.journal.handOver + l.length ≤ 256) :
    (l.foldl State.cancelOne s).journal.handOver = s.journal.handOver ++ l.flatMap s.cancelItems := by
  induction l generalizing s with
  | nil => simp
  | cons h l ih =>
    obtain ⟨hh, hl⟩ := List.nodup_cons.mp hl
    have hone := recordCount_cancelItems s h
    have hj : (s.cancelOne h).journal.handOver = s.journal.handOver ++ s.cancelItems h := by
      have hd : (s.dropTransition h).journal = s.journal := (dropTransition_channels s h).journal
      unfold State.cancelOne
      rw [State.handOver_of_room (by rw [hd]; rw [List.length_cons] at hroom; omega)]
      rw [← hd]
    rw [List.foldl_cons, ih hl (w.cancelOne hh), hj, List.flatMap_cons, List.append_assoc]
    · congr 2
      exact List.flatMap_congr fun g hg => w.cancelItems hh hg
    · rw [hj, recordCount_append]
      rw [List.length_cons] at hroom
      omega

theorem recordCount_flatMap_cancelItems (s : State) (l : List Handle) : recordCount (l.flatMap s.cancelItems) ≤ l.length := by
  induction l with
  | nil => exact Nat.le_refl 0
  | cons h l ih =>
    have hone := recordCount_cancelItems s h
    rw [List.flatMap_cons, recordCount_append, List.length_cons]
    omega

/-! ### The messages and requests withdrawn, with coherence (R111, R117) -/

section
variable (s : State) (n : SiteId)

/-- Does a teardown detach a module's outstanding message? -/
def State.losesDown (m : SiteId) (o : Outstanding) : Bool :=
  match o.bind with
  | .slot k => (s.slot k).any fun x => decide (x.handle ∈ s.concerned n ∧ x.drive = .sent ∧ x.dest = m)
  | .channel h => decide (h ∈ s.concerned n ∧ (s.chan h).dstSite = m ∧ (o.msg.cls = .level ∨ o.msg.cls = .shutter))
  | .detached => false

/-- Does a teardown leave a request in a module's queue? -/
def State.keepsDown (m : SiteId) : Request → Bool
  | .level h _ => decide ¬(h ∈ s.concerned n ∧ (s.chan h).dstSite = m)
  | .ramp k => (s.slot k).all fun x => decide ¬(x.handle ∈ s.concerned n ∧ x.drive = .queued ∧ x.dest = m)

variable {s} (w : s.coherent)
include w

/-- The channel of a slot's transition is the slot's own. -/
theorem State.coherent.slot_handle {k : SlotId} {x : Slot} (hx : s.slot k = some x) {h : Handle}
    (hp : (s.chan h).pending = some (.slot k)) : x.handle = h := by
  obtain ⟨y, hy, hyh⟩ := w.slotOf h k hp
  rw [hx] at hy
  cases hy
  exact hyh

theorem State.coherent.losesDown_eq (m : SiteId) (o : Outstanding) : (((s.concerned n).any fun h =>
      decide ((s.chan h).dstSite = m) && s.losesRamp h o) || ((s.concerned n).any fun h =>
      decide ((s.chan h).dstSite = m) && decide (o.bind = .channel h ∧ o.msg.cls = .level)) || o.workOf (s.goneAt n m)) =
    s.losesDown n m o := by
  rw [Bool.eq_iff_iff]
  unfold State.losesRamp State.losesDown Outstanding.workOf State.goneAt
  cases hb : o.bind with
  | detached => simp
  | channel h => 
    simp only [Bool.and_false, List.any_eq_true, Bool.or_eq_true, Bool.and_eq_true, decide_eq_true_eq, and_false, exists_false, false_or,
      Bool.false_eq_true, Binding.channel.injEq]
    constructor
    · rintro (⟨g, hg, hd, rfl, hc⟩ | ⟨⟨hg, hd⟩, hc⟩)
      · exact ⟨hg, hd, .inl hc⟩
      · exact ⟨hg, hd, hc⟩
    · rintro ⟨hg, hd, hc⟩
      exact .inr ⟨⟨hg, hd⟩, hc⟩
  | slot k =>
    simp only [List.any_eq_true, Bool.or_eq_true, Bool.and_eq_true, decide_eq_true_eq, Option.any_eq_true, reduceCtorEq, false_and,
      and_false, exists_false, or_false]
    constructor
    · rintro ⟨h, hh, hd, hp, x, hx, hs⟩
      have hxh := w.slot_handle hx hp
      exact ⟨x, hx, hxh ▸ hh, hs, by rw [(w.slots k x hx).2.2.1, hxh]; exact hd⟩
    · rintro ⟨x, hx, hh, hs, hd⟩
      obtain ⟨hp, -, hdest, -⟩ := w.slots k x hx
      exact ⟨x.handle, hh, hdest.symm.trans hd, hp, x, hx, hs⟩

theorem State.coherent.keepsDown_eq (m : SiteId) (r : Request) : (r.apart (s.goneAt n m) && (((s.concerned n).all fun h =>
      !decide ((s.chan h).dstSite = m) || !r.isLevelOf h) && (s.concerned n).all fun h =>
      !decide ((s.chan h).dstSite = m) || s.keepsRamp h r)) = s.keepsDown n m r := by
  rw [Bool.eq_iff_iff]
  unfold State.keepsRamp State.keepsDown Request.apart State.goneAt Request.isLevelOf
  cases r with
  | level h a =>
    simp only [Bool.and_eq_true, Bool.not_eq_true', decide_eq_false_iff_not, List.all_eq_true, Bool.or_eq_true, decide_not, Bool.or_true,
      implies_true, and_true]
    constructor
    · exact fun h => h.1
    · refine fun hn => ⟨hn, fun g hg => ?_⟩
      by_cases hgh : h = g
      · subst hgh
        exact .inl fun hd => hn ⟨hg, hd⟩
      · exact .inr hgh
  | ramp k =>
    simp only [Bool.and_eq_true, Bool.not_eq_true', decide_eq_false_iff_not, List.all_eq_true, Bool.or_eq_true, Bool.not_false,
      Bool.or_true, implies_true, true_and, Option.all_eq_true, decide_eq_true_eq]
    constructor
    · rintro hall x hx ⟨hh, hq, hd⟩
      obtain ⟨hp, -, hdest, -⟩ := w.slots k x hx
      rcases hall x.handle hh with hm | hp' | ha
      · exact hm (hdest.symm.trans hd)
      · exact hp' hp
      · exact ha x hx hq
    · intro hall h hh
      by_cases hd : (s.chan h).dstSite = m
      · by_cases hp : (s.chan h).pending = some (.slot k)
        · refine .inr (.inr fun x hx hq => ?_)
          have hxh := w.slot_handle hx hp
          exact hall x hx ⟨hxh ▸ hh, hq, by rw [(w.slots k x hx).2.2.1, hxh]; exact hd⟩
        · exact .inr (.inl hp)
      · exact .inl hd

theorem State.coherent.link_levelled (m : SiteId) : (s.levelled n).link m = (s.link m).cut
    (fun o => ((s.concerned n).any fun h => decide ((s.chan h).dstSite = m) && s.losesRamp h o) ||
      (s.concerned n).any fun h => decide ((s.chan h).dstSite = m) && decide (o.bind = .channel h ∧ o.msg.cls = .level))
    fun r => ((s.concerned n).all fun h => !decide ((s.chan h).dstSite = m) || !r.isLevelOf h) &&
      (s.concerned n).all fun h => !decide ((s.chan h).dstSite = m) || s.keepsRamp h r := by
  have hl := link_foldl_dropLevelOf (s.concerned n) (s.cutOff n) m
  have hc := link_foldl_cancelOne (s.concerned_nodup n) (w.slotsOwn (s.concerned n)) m
  change (s.levelled n).link m = _ at hl
  change (s.cutOff n).link m = _ at hc
  have hd (h : Handle) : ((s.cutOff n).chan h).dstSite = (s.chan h).dstSite := by
    unfold State.cutOff
    rw [chan_foldl_cancelOne]
    split <;> rfl
  simp only [hd] at hl
  rw [hl, hc, Link.cut_cut _ fun o ho => by simp [ho]]

/-- What a busy module's message, its requests and its sequence number become. -/
theorem State.coherent.link_tearDown (hr : s.roomDown n) {m : SiteId} (ho : (s.link m).out ≠ none) :
    ((s.tearDown n).link m).seq = (s.link m).seq ∧
    ((s.tearDown n).link m).out = (s.link m).out.map (fun o => o.detachIf (s.losesDown n m o)) ∧
    ((s.tearDown n).link m).queue = (s.link m).queue.filter (s.keepsDown n m) := by
  have hcut := Link.cut_cut (s.link m) (loses' := Outstanding.workOf (s.goneAt n m)) (keeps' := Request.apart (s.goneAt n m))
    (loses := fun o => ((s.concerned n).any fun h => decide ((s.chan h).dstSite = m) && s.losesRamp h o) ||
      (s.concerned n).any fun h => decide ((s.chan h).dstSite = m) && decide (o.bind = .channel h ∧ o.msg.cls = .level))
    (keeps := fun r => ((s.concerned n).all fun h => !decide ((s.chan h).dstSite = m) || !r.isLevelOf h) &&
      (s.concerned n).all fun h => !decide ((s.chan h).dstSite = m) || s.keepsRamp h r)
    fun o ho => by unfold Outstanding.workOf; rw [ho]
  rw [← w.link_levelled n m, (s.link m).cut_congr (fun o _ => w.losesDown_eq n m o) fun r _ => w.keepsDown_eq n m r] at hcut
  rw [hr.link_busy ho]
  have hseq := congrArg Link.seq hcut
  have hout := congrArg Link.out hcut
  have hqueue := congrArg Link.queue hcut
  exact ⟨hseq, hout, hqueue⟩

/-- The descriptors of the channels concerned are CANCELLED, ascending. -/
theorem State.coherent.handOver_tearDown (hr : s.roomDown n)
    (hroom : recordCount s.journal.handOver + (s.concerned n).length ≤ 256) :
    (s.tearDown n).journal.handOver = s.journal.handOver ++ (s.concerned n).flatMap s.cancelItems := by
  rw [(hr.tables).2.2]
  exact handOver_foldl_cancelOne (s.concerned_nodup n) (w.slotsOwn _) hroom

end

end Sys2Proof.Machine
end

section
/-!
SUPPORT. DISABLE (R64, R161 to R163): what of a teardown the site's own going down keeps, the command's answers, and O26.
-/

namespace Sys2Proof.Machine

open Sys2Proof

/-! ### The site's own going down, after a step that keeps its fetch, its taps and the sites -/

section
variable (s : State) (n : SiteId)

/-- The tables that a site's own going down leaves alone. -/
theorem siteDown_tables : (∀ h, (s.siteDown n).chan h = s.chan h) ∧ (s.siteDown n).waitList = s.waitList ∧
    (∀ k, (s.siteDown n).slot k = s.slot k) ∧ (s.siteDown n).passDue = s.passDue ∧
    (∀ d, (s.siteDown n).swingOf d = s.swingOf d) ∧ (∀ x, (s.siteDown n).entry x = s.entry x) ∧
    ∀ m, (s.siteDown n).link m = s.link m := by
  have h := siteDown_only s n
  generalize s.siteDown n = u at h
  rw [h]
  exact ⟨fun _ => rfl, rfl, fun _ => rfl, rfl, fun _ => rfl, fun x => by cases x <;> rfl, fun _ => rfl⟩

theorem engine_siteDown : (s.siteDown n).engine =
    { s.engine with conds := (s.siteDown n).conds, taps := (s.siteDown n).taps, sites := (s.siteDown n).sites } := by
  have h := siteDown_only s n
  generalize s.siteDown n = u at h ⊢
  rw [h]
  rfl

theorem fetch_siteDown : (s.siteDown n).setup = ((s.setCond n {}).abandonFetch n).setup ∧
    (s.siteDown n).port = ((s.setCond n {}).abandonFetch n).port := by
  have h := siteDown_only s n
  generalize ((s.setCond n {}).abandonFetch n).setup = a at h ⊢
  generalize ((s.setCond n {}).abandonFetch n).port = p at h ⊢
  generalize s.siteDown n = u at h ⊢
  rw [h]
  exact ⟨rfl, rfl⟩

theorem outer_siteDown : (s.siteDown n).outer = { s.outer with setup := (s.siteDown n).setup, port := (s.siteDown n).port } := by
  obtain ⟨h1, h2⟩ := fetch_siteDown s n
  rw [h1, h2]
  have ha := abandonFetch_only (s.setCond n {}) n
  unfold SameButFetch at ha
  unfold State.siteDown
  generalize (s.setCond n {}).abandonFetch n = t at ha ⊢
  dsimp only
  rw [State.outer_handOver, ha]
  rfl

end

/-- A site's going down as it is seen from a state with the same fetch, taps and sites. -/
theorem siteDown_seen {s t : State} (n : SiteId) (ho : t.outer = s.outer) (hsites : t.sites = s.sites) (htaps : t.taps = s.taps) :
    let u := t.siteDown n
    u.site n = (s.site n).down ∧ (∀ m, m ≠ n → u.site m = s.site m) ∧ u.cond n = {} ∧
    (∀ p, u.tap p = if tapSite p = n then (s.tap p).down else s.tap p) ∧
    u.outer = { s.outer with setup := u.setup, port := u.port } ∧
    (∀ b, s.setup.burst = some b → b.site = n →
      u.setup = { s.setup with burst := some { b with discard := true } } ∧ u.port = s.port) ∧
    ((∀ b, s.setup.burst = some b → b.site ≠ n) →
      u.setup = { s.setup with queue := s.setup.queue.erase n } ∧
      (s.setup.queue.head? ≠ some n → u.port = s.port) ∧
      (s.setup.queue.head? = some n →
        let left := if s.setup.burst = none then s.port.requests.erase .setup else s.port.requests
        let anew := s.setup.queue.erase n ≠ [] ∧ s.setup.burst = none ∧ .setup ∉ left
        u.port = { s.port with requests := u.port.requests, fairness := u.port.fairness } ∧
        (anew → u.port.requests = left ++ [.setup]) ∧ (¬anew → u.port.requests = left) ∧
        u.port.fairness = if u.port.requests = [] ∧ (s.port.holder = .posting ∨ s.queue = []) then 0 else s.port.fairness)) := by
  have hsite (m : SiteId) : t.site m = s.site m := congrArg (fun v => Vector.get v m) hsites
  have htap (p : TapId) : t.tap p = s.tap p := congrArg (fun v => Vector.get v p) htaps
  have hsetup : t.setup = s.setup := congrArg Outer.setup ho
  have hport : t.port = s.port := congrArg Outer.port ho
  have hqueue : t.queue = s.queue := congrArg Outer.queue ho
  obtain ⟨h1, h2, h3, -, h5⟩ := siteDown_site t n
  obtain ⟨f1, f2⟩ := fetch_siteDown t n
  intro u
  refine ⟨by rw [h1, hsite], fun m hm => by rw [h2 m hm, hsite], h3, fun p => by rw [h5, htap], by rw [← ho]; exact outer_siteDown t n,
    fun b hb hn => ?_, fun hb => ?_⟩
  · rw [← hsetup] at hb
    rw [f1, f2, ← hsetup, ← hport]
    exact abandonFetch_of_burst (s := t.setCond n {}) hb hn
  · rw [← hsetup] at hb
    rw [f1, f2, ← hsetup, ← hport, ← hqueue]
    by_cases hh : t.setup.queue.head? = some n
    · obtain ⟨g1, g2⟩ := abandonFetch_of_head (s := t.setCond n {}) hb hh
      exact ⟨g1, fun hn => absurd hh hn, fun _ => g2⟩
    · obtain ⟨g1, g2⟩ := abandonFetch_of_apart (s := t.setCond n {}) hb hh
      exact ⟨g1, fun _ => g2, fun hn => absurd hn hh⟩

end Sys2Proof.Machine
end

section
/-!
SUPPORT. DISABLE (R64, R161 to R163): the command's answers, the teardown in the terms of R162, and O26.
-/

namespace Sys2Proof.Machine

open Sys2Proof

/-! ### The command's answers -/

section
variable {s : State} (operand : BitVec 24) (hin : s.inReset = false)
include hin

theorem exec_disable : exec (.disable operand) s =
    .next (State.logCommand ((s.withCellWrite 0 (0x06#8 ++ operand)).commandDisable operand) 6) := by
  show Host.Outcome.next (s.cellWrite 0x0000 (commandWord 0x06 operand) fun t => State.logCommand (t.commandDisable operand) 0x06) = _
  unfold State.cellWrite
  dsimp only
  rw [hin, if_neg (by decide)]
  rfl

theorem exec_disable_of_badOperand (h : 9 < operand.toNat) :
    exec (.disable operand) s = .next ((s.withCellWrite 0 (0x06#8 ++ operand)).withLog 6 3) := by
  have hop : siteOperand operand = none := dif_neg (by omega)
  rw [exec_disable operand hin, State.commandDisable, hop]
  rfl

variable {operand} {n : SiteId} (hn : operand.toNat = n.val)
include hn

theorem exec_disable_of_site : exec (.disable operand) s = .next (State.logCommand
    (if (s.site n).state = .disabled then (s.withCellWrite 0 (0x06#8 ++ operand), .state)
      else ((s.withCellWrite 0 (0x06#8 ++ operand)).disableSite n, .accepted)) 6) := by
  have hop : siteOperand operand = some n := by
    unfold siteOperand
    rw [dif_pos (by omega)]
    exact congrArg some (Fin.ext hn)
  rw [exec_disable operand hin, State.commandDisable, hop]
  rfl

theorem exec_disable_of_disabled (hd : (s.site n).state = .disabled) :
    exec (.disable operand) s = .next ((s.withCellWrite 0 (0x06#8 ++ operand)).withLog 6 4) := by
  rw [exec_disable_of_site hin hn, if_pos hd]
  rfl

theorem exec_disable_of_loading (hl : (s.site n).state = .loading) :
    exec (.disable operand) s = .next (((s.withCellWrite 0 (0x06#8 ++ operand)).siteDown n).withLog 6 1) := by
  have hsite : ((s.withCellWrite 0 (0x06#8 ++ operand)).site n).state = .loading := hl
  rw [exec_disable_of_site hin hn, if_neg (by rw [hl]; decide), State.disableSite, hsite]
  rfl

theorem exec_disable_of_enabled (he : (s.site n).state = .enabled) : exec (.disable operand) s =
    .next (((s.withCellWrite 0 (0x06#8 ++ operand)).finish
      (((s.withCellWrite 0 (0x06#8 ++ operand)).tearDown n).siteDown n)).withLog 6 1) := by
  have hsite : ((s.withCellWrite 0 (0x06#8 ++ operand)).site n).state = .enabled := he
  rw [exec_disable_of_site hin hn, if_neg (by rw [he]; decide)]
  generalize s.withCellWrite 0 (0x06#8 ++ operand) = c at hsite ⊢
  have hdown : c.disableSite n = c.finish ((c.tearDown n).siteDown n) := by unfold State.disableSite; rw [hsite]
  rw [hdown]
  generalize c.finish ((c.tearDown n).siteDown n) = u
  rfl

end

/-! ### The terms of R162 -/

section
variable (s : State) (n : SiteId)

theorem concerned_eq : allHandles.filter (fun h =>
    decide ((s.chan h).state ≠ .free ∧ ((s.chan h).srcSite = n ∨ (s.chan h).dstSite = n))) = s.concerned n :=
  List.filter_congr fun h _ => by simp

theorem tornSlot_iff (k : SlotId) : (∃ h, ((s.chan h).state ≠ .free ∧ ((s.chan h).srcSite = n ∨ (s.chan h).dstSite = n)) ∧
    (s.chan h).pending = some (.slot k)) ↔ s.tornSlot n k := by
  simp only [← State.mem_concerned]
  exact Iff.rfl

/-- The channels whose entries are placed, as R162 says it: lit or with a RAMP message outstanding, and not taken up by a bound entry. -/
theorem placedDown_eq (m : SiteId) : (s.concerned n).filter (fun h =>
      decide ((s.chan h).dstSite = m ∧ ((s.chan h).applied ≠ .blocked ∨ s.rampSent h = true)) &&
        !(s.link (s.chan h).dstSite).shutters.any fun f =>
          f.bound && decide (f.handle = h ∧ f.first = (s.chan h).first ∧ f.count = (s.chan h).count)) = s.placedDown n m := by
  unfold State.placedDown
  rw [List.filter_filter]
  refine List.filter_congr fun h _ => ?_
  by_cases hm : (s.chan h).dstSite = m
  · subst hm
    unfold Link.needs Link.merges State.darkens Channel.lit
    simp
  · simp [hm]

variable {s} {n} in
/-- What a teardown and the site's own going down hand over, where there is room (R56, R58, R163). -/
theorem State.coherent.handOver_disable (w : s.coherent) (hr : s.roomDown n)
    (hroom : recordCount s.journal.handOver + (s.concerned n).length < 256) :
    ((s.tearDown n).siteDown n).journal.handOver = s.journal.handOver ++ (s.concerned n).flatMap s.cancelItems ++
      [.record { kind := .site, site := some n, code := 3, tick := s.tick }] := by
  have hj := w.handOver_tearDown n hr (Nat.le_of_lt hroom)
  have hcount := recordCount_flatMap_cancelItems s (s.concerned n)
  have htick : (s.tearDown n).tick = s.tick := congrArg Outer.tick (State.outer_tearDown s n)
  rw [siteDown_record _ _ (by rw [hj, recordCount_append]; omega), hj, htick]

theorem cancelItems_eq (h : Handle) : s.cancelItems h = match s.transOf h with
    | some (k, some d) => cancelled s.tick (some d) (decide (k ≠ .fall) && (s.chan h).clamped) (s.chan h) h
    | _ => [] := by
  cases ht : s.transOf h with
  | none => exact State.cancelItems_of_none ht
  | some x =>
    obtain ⟨k, o⟩ := x
    rw [State.cancelItems_of_some ht]
    cases o <;> rfl

theorem losesDown_eq (m : SiteId) (o : Outstanding) : (match o.bind with
    | .slot k => (s.slot k).any fun x => decide (((s.chan x.handle).state ≠ .free ∧
        ((s.chan x.handle).srcSite = n ∨ (s.chan x.handle).dstSite = n)) ∧ x.drive = .sent ∧ x.dest = m)
    | .channel h => decide (((s.chan h).state ≠ .free ∧ ((s.chan h).srcSite = n ∨ (s.chan h).dstSite = n)) ∧
        (s.chan h).dstSite = m ∧ (o.msg.cls = .level ∨ o.msg.cls = .shutter))
    | .detached => false) = s.losesDown n m o := by
  unfold State.losesDown
  cases o.bind <;> simp only [State.mem_concerned]

theorem keepsDown_eq (m : SiteId) : (fun r : Request => match r with
    | .level h _ => decide ¬(((s.chan h).state ≠ .free ∧ ((s.chan h).srcSite = n ∨ (s.chan h).dstSite = n)) ∧ (s.chan h).dstSite = m)
    | .ramp k => (s.slot k).all fun x => decide ¬(((s.chan x.handle).state ≠ .free ∧
        ((s.chan x.handle).srcSite = n ∨ (s.chan x.handle).dstSite = n)) ∧ x.drive = .queued ∧ x.dest = m)) = s.keepsDown n m := by
  funext r
  unfold State.keepsDown
  cases r <;> simp only [State.mem_concerned]

end

end Sys2Proof.Machine
end

section
/-!
SUPPORT. O26: DISABLE tears the site down (R161 to R163).
-/

namespace Sys2Proof.Machine

open Sys2Proof

theorem State.coherent.withCellWrite {s : State} (w : s.coherent) (offset : Nat) (x : Word) : (s.withCellWrite offset x).coherent :=
  ⟨w.filled, w.footprint, w.reserved, w.claimed, w.resting, w.moving, w.slots, w.slotOf, w.waits, w.waitOf⟩

/-- Settles O26: the answers by the site's state, and for an ENABLED site the teardown, table by table, followed by the site's own going down. -/
theorem disableTearsTheSiteDown : Obligations.DisableTearsTheSiteDown := by
  unfold Obligations.DisableTearsTheSiteDown
  intro s operand hin c
  refine ⟨exec_disable_of_badOperand operand hin, fun n hn => ⟨exec_disable_of_disabled hin hn, fun hne => ?_⟩⟩
  cases hstate : (s.site n).state with
  | disabled => exact absurd hstate hne
  | loading =>
    obtain ⟨-, -, -, hcond, -⟩ := siteDown_site c n
    exact ⟨c.siteDown n, fun _ => ⟨exec_disable_of_loading hin hn hstate, engine_siteDown c n, hcond, siteDown_record c n⟩,
      (fun he => by cases he), siteDown_seen (s := c) (t := c) n rfl rfl rfl⟩
  | enabled =>
    obtain ⟨hsites, htaps, -⟩ := tearDown_tables c n
    refine ⟨(c.tearDown n).siteDown n, (fun hl => by cases hl), fun _ => ⟨exec_disable_of_enabled hin hn hstate, ?_⟩,
      siteDown_seen n (State.outer_tearDown c n) hsites htaps⟩
    obtain ⟨hchan, hwait, hslot, hpass, hswing, hentry, hlink⟩ := siteDown_tables (c.tearDown n) n
    obtain ⟨-, -, -, hcond, -⟩ := siteDown_site (c.tearDown n) n
    intro torn held hs
    have htorn (h : Handle) : torn h ↔ h ∈ c.concerned n := State.mem_concerned.symm
    have hheld (k : SlotId) : held k ↔ c.tornSlot n k := tornSlot_iff c n k
    have hhs : hs = c.concerned n := concerned_eq c n
    refine ⟨fun h => ⟨fun hh => ?_, fun hh => ?_⟩, ?_, fun k => ⟨fun hk => ?_, fun hk => ?_, fun x hk hx => ?_⟩, fun hok => ?_, fun w => ?_, ?_⟩
    · rw [hchan, chan_tearDown]
      exact if_pos ((htorn h).mp hh)
    · rw [hchan, chan_tearDown]
      exact if_neg fun hc => hh ((htorn h).mpr hc)
    · rw [hwait, waitList_tearDown]
      exact List.filter_congr fun e _ => decide_eq_decide.mpr (not_congr (and_congr_left fun _ => (htorn e.handle).symm))
    · rw [hslot, hpass]
      exact ⟨(slot_tearDown c n k).1 ((hheld k).mp hk), fun hx => passDue_tearDown_of_torn c n ((hheld k).mp hk) hx⟩
    · rw [hslot]
      exact (slot_tearDown c n k).2.1 hk
    · rw [hslot]
      exact (slot_tearDown c n k).2.2 x (fun ht => hk ((hheld k).mpr ht)) hx
    · intro d
      rw [hswing, swingOk_tearDown c n hok d]
      unfold State.slotSwing
      simp only [hslot]
    · have wc : c.coherent := w.withCellWrite _ _
      refine ⟨?_, fun hok d hd => (hswing d).trans (swingOf_tearDown wc n hok hd), fun x => ?_⟩
      · rw [hpass, passDue_tearDown wc n]
        simp only [hheld, htorn]
        exact Iff.rfl
      · have hx : c.entry x = s.entry x := rfl
        rw [hentry, entry_tearDown wc n, hx]
        simp only [htorn] <;> rfl
    · intro dark merges placed loses unbound hroom
      have hplaced (m : SiteId) : placed m = c.placedDown n m := by
        have hp := placedDown_eq c n m
        rw [← hhs] at hp
        exact hp
      have hr : c.roomDown n := fun m => by rw [← hplaced]; exact hroom m
      obtain ⟨hconds, hslots, -⟩ := hr.tables
      refine ⟨fun m hm => (hcond m hm).trans (congrArg (fun v => Vector.get v m) hconds), fun _ k x hk hx => ?_, fun w hrec => ?_,
        fun m ho hq hsh => ?_, fun w m o ho => ?_, fun m ho => ⟨?_, fun w => ?_⟩⟩
      · rw [hslot]
        exact (congrArg (fun v => Vector.get v k) hslots).trans ((slot_cutOff_of_not_torn c n fun ht => hk ((hheld k).mpr ht)).trans hx)
      · rw [hhs] at hrec ⊢
        have wc : c.coherent := w.withCellWrite _ _
        rw [wc.handOver_disable hr hrec, List.flatMap_congr fun h _ => cancelItems_eq c h]
        rfl
      · rw [hlink, hr.link_idle ho hq hsh, hplaced]
        cases c.placedDown n m with
        | nil => rfl
        | cons h rest => exact Link.eq_of_fields rfl rfl rfl hq
      · have wc : c.coherent := w.withCellWrite _ _
        obtain ⟨h1, h2, -⟩ := wc.link_tearDown n hr (m := m) (fun hn => by cases ho.symm.trans hn)
        have ho' : (c.link m).out = some o := ho
        rw [hlink, h1, h2, ho', Option.map_some, ← losesDown_eq]
        exact ⟨rfl, rfl⟩
      · rw [hlink, hr.link_busy ho, hplaced]
        refine List.map_congr_left fun f _ => ?_
        unfold ShutterEntry.unboundFor State.goneAt
        simp only [htorn, decide_eq_true_eq]
        rfl
      · have wc : c.coherent := w.withCellWrite _ _
        obtain ⟨-, -, h3⟩ := wc.link_tearDown n hr ho
        rw [hlink, h3, ← keepsDown_eq]
        rfl

end Sys2Proof.Machine
end

section
/-!
SUPPORT. Settings in range (R103), first part: records, links and waiting entries within range; what the Switch Link sends (Table 6-2) and
what its operations leave; the holds, and the removal of transitions.
-/

namespace Sys2Proof.Machine

open Sys2Proof

/-! ### Records, links and entries in range -/

/-- A record's applied setting and motion target are in range. -/
def Channel.inRange (c : Channel) : Prop := c.applied.inRange ∧ ∀ m, c.motion = some m → m.inRange

/-- A module's outstanding message and queued requests are in range. -/
def Link.inRange (l : Link) : Prop := (∀ o, l.out = some o → o.msg.setting.inRange) ∧ ∀ r ∈ l.queue, r.inRange

/-- A waiting entry's preset is in range. -/
def WaitEntry.inRange (e : WaitEntry) : Prop := ∀ p, e.preset = some p → p ≤ 200

theorem WaitEntry.inRange_of_none {e : WaitEntry} (h : e.preset = none) : e.inRange := fun p hp => by
  rw [h] at hp; cases hp

theorem Channel.inRange_free : ({} : Channel).inRange := ⟨trivial, nofun⟩

/-- A record with the same applied setting and motion target is in range. -/
theorem Channel.inRange.restate {c c' : Channel} (h : c.inRange) (ha : c'.applied = c.applied) (hm : c'.motion = c.motion) : c'.inRange :=
  ⟨ha ▸ h.1, hm ▸ h.2⟩

/-- A record that now falls is in range when its applied setting is. -/
theorem Channel.inRange.falling {c c' : Channel} (h : c.inRange) (ha : c'.applied = c.applied) (hm : c'.motion = some .blocked) :
    c'.inRange :=
  ⟨ha ▸ h.1, fun m h => by rw [hm] at h; cases h; trivial⟩

/-- A record without a motion target is in range when its applied setting is. -/
theorem Channel.inRange.resting {c c' : Channel} (h : c.inRange) (ha : c'.applied = c.applied) (hm : c'.motion = none) : c'.inRange :=
  ⟨ha ▸ h.1, fun m h => by rw [hm] at h; cases h⟩

/-- A record whose applied setting is BLOCKED is in range when its motion target is. -/
theorem Channel.inRange.blocked {c c' : Channel} (h : c.inRange) (ha : c'.applied = .blocked) (hm : c'.motion = c.motion) : c'.inRange :=
  ⟨ha ▸ trivial, hm ▸ h.2⟩

theorem Setting.inRange_getD {o : Option Setting} (h : ∀ m, o = some m → m.inRange) : (o.getD .blocked).inRange := by
  cases o with
  | none => trivial
  | some m => exact h m rfl

/-- A link that has sent nothing new and has no new request is in range. -/
theorem Link.inRange.of_less {l l' : Link} (h : l.inRange) (ho : ∀ o, l'.out = some o → ∃ p, l.out = some p ∧ o.msg = p.msg)
    (hq : ∀ r ∈ l'.queue, r ∈ l.queue) : l'.inRange := by
  refine ⟨fun o h' => ?_, fun r hr => h.2 r (hq r hr)⟩
  obtain ⟨p, hp, hm⟩ := ho o h'
  exact hm ▸ h.1 p hp

/-- A link whose outstanding message changes in its binding or its timer alone, and whose queue loses requests. -/
theorem Link.inRange.of_kept {l l' : Link} (h : l.inRange) {f : Outstanding → Outstanding} (ho : l'.out = l.out.map f)
    (hf : ∀ o, (f o).msg = o.msg) (hq : ∀ r ∈ l'.queue, r ∈ l.queue) : l'.inRange := by
  refine h.of_less (fun o h' => ?_) hq
  rw [ho, Option.map_eq_some_iff] at h'
  obtain ⟨p, hp, rfl⟩ := h'
  exact ⟨p, hp, hf p⟩

theorem Outstanding.detachIf_msg (b : Bool) (o : Outstanding) : (o.detachIf b).msg = o.msg := by
  cases b <;> rfl

theorem Link.inRange.withShutters {l : Link} (h : l.inRange) (e : List ShutterEntry) : Link.inRange { l with shutters := e } := h

/-- A request joins a queue. -/
theorem Link.inRange.join {l : Link} (h : l.inRange) {r : Request} (hr : r.inRange) : Link.inRange { l with queue := l.queue ++ [r] } :=
  ⟨h.1, fun q hq => by
    rcases List.mem_append.mp hq with hq | hq
    · exact h.2 q hq
    · rw [List.mem_singleton.mp hq]; exact hr⟩

/-! ### Attenuations (R31, R103, R128) -/

theorem rangeAtt_att_le (wanted : Int) : (rangeAtt wanted).att ≤ 200 := by
  unfold rangeAtt
  split
  · exact Nat.zero_le _
  · split
    · exact Nat.le_refl _
    · show wanted.toNat ≤ 200
      omega

/-- A target computed from a preset in range is in range (R31). -/
theorem State.target_att_le (s : State) (c : Channel) {preset : Option Nat} (h : ∀ p, preset = some p → p ≤ 200) :
    (s.target c preset).att ≤ 200 := by
  unfold State.target
  split
  · exact rangeAtt_att_le _
  · cases preset with
    | none => exact Nat.le_refl _
    | some p => exact h p rfl

/-- Each step of Table 6-2 stays between the applied setting, the motion target and 200 (R103). -/
theorem nextAttenuation_inRange (kind : TransKind) {motion applied : Setting} (step : Nat) (hm : motion.inRange)
    (ha : applied.inRange) : (nextAttenuation kind motion applied step).inRange := by
  by_cases hk : kind = .adopt
  · subst hk; rw [nextAttenuation_adopt]; exact hm
  · obtain ⟨hbb, hba, hab, haa⟩ := nextAttenuation_table hk step
    cases motion with
    | blocked =>
      cases applied with
      | blocked => rw [hbb]; trivial
      | att n =>
        rw [hba]
        split
        · trivial
        · exact Nat.min_le_right _ _
    | att g =>
      change g ≤ 200 at hm
      cases applied with
      | blocked => rw [hab]; exact Nat.le_refl 200
      | att n =>
        change n ≤ 200 at ha
        rw [haa]
        split
        · show max (n - step) g ≤ 200
          omega
        · split
          · show min (n + step) g ≤ 200
            omega
          · exact hm

/-! ### Writes -/

namespace State.settingsOk

variable {s t : State} (hs : s.settingsOk)
include hs

theorem chan (h : Handle) : (s.chan h).inRange := hs.1 h
theorem link (m : SiteId) : (s.link m).inRange := hs.2.1 m
theorem waits {e : WaitEntry} (he : e ∈ s.waitList) : e.inRange := hs.2.2 e he

/-- Records, links and Wait List are all that settings stand in. -/
theorem of_tables (chans : t.chans = s.chans) (links : t.links = s.links) (waits : t.waitList = s.waitList) : t.settingsOk := by
  refine ⟨fun h => ?_, fun m => ?_, fun e he => hs.waits (waits ▸ he)⟩
  · unfold State.chan; rw [chans]; exact hs.chan h
  · unfold State.link; rw [links]; exact hs.link m

theorem of_engine (h : t.engine = s.engine) : t.settingsOk :=
  hs.of_tables (congrArg Engine.chans h) (congrArg Engine.links h) (congrArg Engine.waitList h)

theorem setChan {h : Handle} {c : Channel} (hc : c.inRange) : (s.setChan h c).settingsOk := by
  refine ⟨fun g => ?_, hs.2.1, hs.2.2⟩
  show ((s.setChan h c).chan g).inRange
  rw [State.chan_setChan]
  split
  · exact hc
  · exact hs.chan g

theorem setLink {m : SiteId} {l : Link} (hl : l.inRange) : (s.setLink m l).settingsOk := by
  refine ⟨hs.1, fun n => ?_, hs.2.2⟩
  show ((s.setLink m l).link n).inRange
  rw [State.link_setLink]
  split
  · exact hl
  · exact hs.link n

theorem withWaits {l : List WaitEntry} (hl : ∀ e ∈ l, e.inRange) : (s.withWaits l).settingsOk := ⟨hs.1, hs.2.1, hl⟩

theorem setSlot (k : SlotId) (x : Option Slot) : (s.setSlot k x).settingsOk := hs
theorem setSite (n : SiteId) (x : Site) : (s.setSite n x).settingsOk := hs
theorem setCond (n : SiteId) (c : CondRec) : (s.setCond n c).settingsOk := hs
theorem setTap (t : TapId) (x : Tap) : (s.setTap t x).settingsOk := hs
theorem due (b : Bool) : (s.due b).settingsOk := hs

theorem setEntry (r : EntryRef) (e : Entry) : (s.setEntry r e).settingsOk := by
  cases r <;> exact hs

theorem handOver (items : List Item) : (s.handOver items).settingsOk := by
  rw [handOver_only]; exact hs

omit hs in
theorem foldl {α : Type} {f : State → α → State} (hf : ∀ {s} a, s.settingsOk → (f s a).settingsOk) (l : List α) {s : State}
    (hs : s.settingsOk) : (l.foldl f s).settingsOk := by
  induction l generalizing s with
  | nil => exact hs
  | cons a l ih => exact ih (hf a hs)

/-! ### The Switch Link (R103, R111, R114, R117, R118) -/

theorem transmit {m : SiteId} {first count : Nat} {input : InputSel} {port : Option (Fin 12)} {setting : Setting}
    (h : setting.inRange) (cls : MsgClass) (bind : Binding) : (s.transmit m first count input port setting cls bind).settingsOk :=
  hs.setLink ⟨fun o ho => by cases ho; exact h, (hs.link m).2⟩

/-- What a module is sent is BLOCKED, a step of Table 6-2, or a queued LEVEL setting. -/
theorem sendNext (m : SiteId) : (s.sendNext m).settingsOk := by
  have without {r : Request} {rest : List Request} (hq : (s.link m).queue = r :: rest) :
      (s.setLink m { s.link m with queue := rest }).settingsOk :=
    hs.setLink ((hs.link m).of_less (fun o ho => ⟨o, ho, rfl⟩) fun q h => hq ▸ List.mem_cons_of_mem r h)
  unfold State.sendNext
  dsimp only
  split
  · exact (hs.setLink ((hs.link m).withShutters _)).transmit (setting := .blocked) trivial _ _
  · split
    · exact hs
    · rename_i hq
      split
      · exact without hq
      · rename_i x _
        obtain ⟨ha, hm⟩ := hs.chan x.handle
        exact ((without hq).setSlot _ _).transmit (nextAttenuation_inRange _ _ (Setting.inRange_getD hm) ha) _ _
    · rename_i hq
      have ha := (hs.link m).2 _ (hq ▸ List.mem_cons_self)
      exact (without hq).transmit (setting := .att _) ha _ _

theorem kick (m : SiteId) : (s.kick m).settingsOk := by
  unfold State.kick
  split
  · exact hs
  · exact hs.sendNext m

theorem placeRamp (k : SlotId) : (s.placeRamp k).settingsOk := by
  unfold State.placeRamp
  split
  · exact hs
  · exact ((hs.setLink ((hs.link _).join (r := .ramp k) trivial)).setSlot _ _).kick _

theorem withdrawRamp (m : SiteId) (k : SlotId) : (s.withdrawRamp m k).settingsOk :=
  hs.setLink ((hs.link m).of_less (fun o ho => ⟨o, ho, rfl⟩) fun _ h => List.mem_of_mem_filter h)

theorem detachRamp (m : SiteId) (k : SlotId) : (s.detachRamp m k).settingsOk :=
  hs.setLink ((hs.link m).of_kept rfl (fun o => o.detachIf_msg _) fun _ => id)

theorem releaseSwing (n : SiteId) (w : Nat) : (s.releaseSwing n w).settingsOk := by
  unfold State.releaseSwing
  split <;> exact hs

theorem commit (n : SiteId) (w : Nat) : (s.commit n w).settingsOk := by
  rw [State.commit_eq]; exact hs

theorem endSlot (k : SlotId) : (s.endSlot k).settingsOk := by
  unfold State.endSlot
  split
  · exact hs
  · refine State.settingsOk.due (State.settingsOk.setSlot (State.settingsOk.releaseSwing ?_ _ _) _ _) _
    split
    · exact hs.withdrawRamp _ k
    · exact hs.detachRamp _ k
    · exact hs
    · exact hs

theorem stopSlot (k : SlotId) : (s.stopSlot k).settingsOk := by
  unfold State.stopSlot
  split
  · exact hs
  · split
    · exact (hs.withdrawRamp _ k).setSlot _ _
    all_goals exact hs

theorem restartSlot (k : SlotId) : (s.restartSlot k).settingsOk := by
  unfold State.restartSlot
  split
  · exact hs
  · split
    · exact hs.placeRamp k
    · exact hs

theorem leaveSent (k : SlotId) : (s.leaveSent k).settingsOk := by
  unfold State.leaveSent
  split
  · exact hs
  · split
    · exact hs
    · split
      · exact hs.placeRamp k
      · exact hs

theorem placeLevel (m : SiteId) (h : Handle) {a : Nat} (ha : a ≤ 200) : (s.placeLevel m h a).settingsOk := by
  unfold State.placeLevel
  dsimp only
  split
  · refine hs.setLink ⟨(hs.link m).1, fun r hr => ?_⟩
    obtain ⟨q, hq, rfl⟩ := List.mem_map.mp hr
    split
    · exact ha
    · exact (hs.link m).2 q hq
  · split
    · exact (hs.setLink ((hs.link m).join (r := .level h a) ha)).kick m
    · exact hs

theorem withdrawLevel (m : SiteId) (h : Handle) : (s.withdrawLevel m h).settingsOk :=
  hs.setLink ((hs.link m).of_less (fun o ho => ⟨o, ho, rfl⟩) fun _ h => List.mem_of_mem_filter h)

theorem detachLevel (m : SiteId) (h : Handle) : (s.detachLevel m h).settingsOk :=
  hs.setLink ((hs.link m).of_kept rfl (fun o => o.detachIf_msg _) fun _ => id)

theorem dropLevel (m : SiteId) (h : Handle) : (s.dropLevel m h).settingsOk := (hs.withdrawLevel m h).detachLevel m h

theorem addShutter {m : SiteId} {e : ShutterEntry} (h : s.addShutter m e = some t) : t.settingsOk := by
  unfold State.addShutter at h
  dsimp only at h
  split at h
  · cases h; exact hs
  · split at h
    · cases h; exact (hs.setLink ((hs.link m).withShutters _)).kick m
    · cases h

theorem unbindShutters (m : SiteId) (h : Handle) : (s.unbindShutters m h).settingsOk :=
  hs.setLink ((hs.link m).of_kept rfl (fun o => o.detachIf_msg _) fun _ => id)

/-! ### Holds (R143), and the removal of transitions (R17, R83) -/

theorem reholdSlot (sites : List SiteId) (k : SlotId) : (s.reholdSlot sites k).settingsOk := by
  unfold State.reholdSlot
  split
  · exact hs
  · split
    · dsimp only
      split
      · exact hs
      · split
        · exact (hs.setSlot k _).stopSlot k
        · exact (hs.setSlot k _).restartSlot k
    · exact hs

theorem rehold (sites : List SiteId) : (s.rehold sites).settingsOk := foldl (fun k h => h.reholdSlot sites k) _ hs

theorem removeEntry (h : Handle) : (s.removeEntry h).settingsOk := by
  unfold State.removeEntry
  split
  · exact hs
  · exact (hs.withWaits fun e he => hs.waits (List.mem_of_mem_filter he)).due _

theorem dropTransition (h : Handle) : (s.dropTransition h).settingsOk := by
  have cleared {t : State} (ht : t.settingsOk) :
      (t.setChan h { t.chan h with pending := none, motion := none, desc := none }).settingsOk :=
    ht.setChan ((ht.chan h).resting rfl rfl)
  unfold State.dropTransition
  refine cleared ?_
  split
  · exact hs
  · exact hs.removeEntry h
  · exact hs.endSlot _

theorem handOverEntry (h : Handle) (doomed : List Handle) (r : EntryRef) : (s.handOverEntry h doomed r).settingsOk := by
  unfold State.handOverEntry
  dsimp only
  split
  · split
    · exact (hs.setEntry r _).due _
    · exact hs.setEntry r _
  · exact hs

theorem dropClaim (h : Handle) (r : EntryRef) : (s.dropClaim h r).settingsOk := by
  unfold State.dropClaim
  dsimp only
  split
  · exact hs.setEntry r _
  · exact hs

theorem reserve (h : Handle) (fp : List EntryRef) : (s.reserve h fp).settingsOk := by
  rw [reserve_only]; exact hs

theorem toFree (h : Handle) (doomed : List Handle) : (s.toFree h doomed).settingsOk := by
  unfold State.toFree
  have released := foldl (f := State.handOverEntry h doomed) (fun r ht => ht.handOverEntry h doomed r)
    ((s.dropTransition h).chan h).footprint (hs.dropTransition h)
  have unclaimed := foldl (f := State.dropClaim h) (fun r ht => ht.dropClaim h r) ((s.dropTransition h).chan h).footprint released
  exact ((unclaimed.dropLevel _ h).unbindShutters _ h).setChan Channel.inRange_free

end State.settingsOk

end Sys2Proof.Machine
end

section
/-!
SUPPORT. Settings in range (R103), second part: admissions and offers (R31, R91, R92), the Condition Unit, completions, the Level Loop, the
Site Store and the end of an event.
-/

namespace Sys2Proof.Machine

open Sys2Proof

/-- A record aimed by the target computation is in range (R31). -/
theorem Channel.inRange.aimed {c : Channel} (h : c.inRange) (s : State) (k : TransKind) {preset : Option Nat}
    (hp : ∀ p, preset = some p → p ≤ 200) : (s.aimed c k preset).inRange := by
  have target : ∀ m, some (Setting.att (s.target c preset).att) = some m → m.inRange := by
    rintro m ⟨⟩
    exact s.target_att_le c hp
  cases k with
  | fall => exact h.falling rfl rfl
  | rise => exact ⟨h.1, target⟩
  | restore => exact ⟨h.1, target⟩
  | adjust => exact ⟨h.1, target⟩
  | adopt => exact ⟨h.1, target⟩

/-- Skips and barriers touch no preset. -/
theorem State.raiseSkips_inRange (s : State) (dest : SiteId) {l : List WaitEntry} (hl : ∀ e ∈ l, e.inRange) :
    ∀ e ∈ s.raiseSkips dest l, e.inRange := by
  intro e he
  obtain ⟨x, hx, rfl⟩ := List.mem_map.mp he
  split
  · exact hl x hx
  · exact hl x hx

/-- A descriptor's preset is in range (R55). -/
theorem Desc.preset_le (d : Desc) : ∀ p, d.preset = some p → p ≤ 200 := by
  intro p hp
  unfold Desc.preset at hp
  split at hp
  · cases hp; assumption
  · cases hp

theorem Desc.preset_getD_le (d : Desc) : d.preset.getD 200 ≤ 200 := by
  cases h : d.preset with
  | none => exact Nat.le_refl _
  | some p => exact d.preset_le p h

namespace State.settingsOk

variable {s t : State} (hs : s.settingsOk)
include hs

/-! ### Admissions and offers (R88 to R92) -/

theorem admitEntry {e : WaitEntry} (he : e.inRange) : (s.admitEntry e).settingsOk := by
  unfold State.admitEntry
  split
  · exact hs
  · have hc : (s.aimed (s.chan e.handle) e.kind e.preset).inRange := (hs.chan e.handle).aimed s e.kind he
    refine placeRamp (dropLevel (setChan ((hs.commit _ _).setSlot _ _) ?_) _ _) _
    exact hc.restate rfl rfl

theorem completeAdjust (e : WaitEntry) : (s.completeAdjust e).settingsOk := hs.setChan ((hs.chan e.handle).restate rfl rfl)

theorem admitWaiting {e : WaitEntry} (he : e.inRange) : (s.admitWaiting e).settingsOk := by
  unfold State.admitWaiting
  split
  · have hd : (s.adjustDone e).settingsOk := by
      unfold State.adjustDone
      split
      · exact hs
      · exact hs.handOver _
    exact hd.completeAdjust e
  · exact hs.admitEntry he

omit hs in
theorem passFrom {older l : List WaitEntry} {s : State} (hs : s.settingsOk) (ho : ∀ e ∈ older, e.inRange) (hl : ∀ e ∈ l, e.inRange) :
    (s.passFrom older l).settingsOk := by
  induction l generalizing s older with
  | nil => exact hs.withWaits ho
  | cons e l ih =>
    obtain ⟨he, hl⟩ := List.forall_mem_cons.mp hl
    unfold State.passFrom
    dsimp only
    split
    · exact ih (hs.admitWaiting he) (State.raiseSkips_inRange _ _ ho) hl
    · exact ih hs (List.forall_mem_append.mpr ⟨ho, by simpa using he⟩) hl

theorem runPass : s.runPass.settingsOk := by
  unfold State.runPass
  split
  · exact passFrom (s := { s with passDue := false }) hs nofun hs.2.2
  · exact hs

theorem append {e : WaitEntry} (he : e.inRange) : (s.append e).settingsOk := by
  have waits : (s.withWaits (s.waitList ++ [e])).settingsOk := hs.withWaits (List.forall_mem_append.mpr ⟨hs.2.2, by simpa using he⟩)
  refine due (setChan waits ?_) true
  exact (hs.chan e.handle).restate rfl rfl

theorem offer {e : WaitEntry} (h : (s.offer e).state? = some t) (he : e.inRange) : t.settingsOk := by
  unfold State.offer at h
  split at h
  · split at h
    · cases h; exact (hs.completeAdjust e).withWaits (State.raiseSkips_inRange _ _ hs.2.2)
    · cases h; exact (hs.admitEntry he).withWaits (State.raiseSkips_inRange _ _ (hs.admitEntry he).2.2)
  · split at h
    · cases h; exact hs.append he
    · cases h

theorem placeAdopt (k : SlotId) (h : Handle) (off : Half) : (s.placeAdopt k h off).settingsOk := by
  unfold State.placeAdopt
  dsimp only
  split
  · exact (hs.setSlot k _).dropLevel _ h
  · exact ((hs.setSlot k _).dropLevel _ h).placeRamp k

theorem takeOver (k : SlotId) (h : Handle) (off : Half) : (s.takeOver k h off).settingsOk := by
  unfold State.takeOver
  split
  · exact hs
  · have fallen := ((hs.chan h).falling (c' := { s.chan h with state := .falling, motion := some .blocked, desc := some off }) rfl rfl)
    dsimp only
    split
    · exact ((((hs.releaseSwing _ _).commit _ _).setSlot k _).setChan fallen).placeRamp k
    all_goals exact (((hs.releaseSwing _ _).commit _ _).setSlot k _).setChan fallen

/-! ### The Condition Unit (R118, R140, R146, R149) -/

theorem riseBase (n : SiteId) (c : Cond) (l : Level) : (s.riseBase n c l).settingsOk := ((hs.setCond n _).handOver _).rehold _

theorem fallBase (n : SiteId) (c : Cond) (l : Level) : (s.fallBase n c l).settingsOk :=
  (((hs.setCond n _).handOver _).rehold _).due _

theorem raiseModFault (n : SiteId) : (s.raiseModFault n).settingsOk := by
  unfold State.raiseModFault
  split
  · exact hs.riseBase n _ _
  · exact hs

theorem clearModFault (n : SiteId) : (s.clearModFault n).settingsOk := by
  unfold State.clearModFault
  split
  · exact hs.fallBase n _ _
  · exact hs

theorem placeShutter (h : Handle) (b : Bool) : (s.placeShutter h b).settingsOk := by
  unfold State.placeShutter
  dsimp only
  split
  · rename_i ht
    have hu := hs.addShutter ht
    split
    · exact hu.setChan ((hu.chan h).blocked rfl rfl)
    · exact hu
  · refine raiseModFault (setChan hs ?_) _
    exact (hs.chan h).blocked rfl rfl

theorem darken (site : SiteId) (h : Handle) (b : Bool) : (s.darken site h b).settingsOk := by
  have dark {u : State} (hu : u.settingsOk) :
      (u.setChan h { u.chan h with state := .dark, shutteredBy := some site }).settingsOk := by
    refine hu.setChan ?_
    exact (hu.chan h).restate rfl rfl
  have hd := dark ((hs.dropTransition h).dropLevel (s.chan h).dstSite h)
  unfold State.darken
  dsimp only
  refine State.settingsOk.handOver ?_ _
  split
  · exact hd.placeShutter h true
  · exact hd

theorem endFall (h : Handle) : (s.endFall h).settingsOk := by
  unfold State.endFall
  exact handOver (toFree (placeShutter (dropLevel (hs.dropTransition h) _ h) h false) h []) _

theorem shutterOne (site : SiteId) (h : Handle) : (s.shutterOne site h).settingsOk := by
  unfold State.shutterOne
  dsimp only
  split
  · exact hs
  · split
    · exact hs
    · split
      · exact hs.darken site h _
      · exact hs
    · exact hs.darken site h _
    · exact hs.darken site h _
    · split
      · exact hs.endFall h
      · exact hs.darken site h _
    · exact hs.endFall h

theorem restoreOne (site : SiteId) (h : Handle) : (s.restoreOne site h).settingsOk := by
  unfold State.restoreOne
  dsimp only
  split
  · split
    · exact hs.append (WaitEntry.inRange_of_none rfl)
    · exact hs
  · exact hs

theorem restoreAll (site : SiteId) : (s.restoreAll site).settingsOk :=
  foldl (fun h ht => ht.restoreOne site h) _ (hs.setCond site _)

theorem expireHoldOff (site : SiteId) : (s.expireHoldOff site).settingsOk := (hs.setCond site _).restoreAll site

theorem rerunDeferred : s.rerunDeferred.settingsOk :=
  foldl (fun n ht => by
    unfold State.rerunOne
    split
    · exact ht.restoreAll n
    · exact ht) _ hs

theorem startHoldOff (n : SiteId) : (s.startHoldOff n).settingsOk := by
  unfold State.startHoldOff
  dsimp only
  split
  · exact hs.expireHoldOff n
  · exact hs

theorem judgeInLos (n : SiteId) (l : Level) : (s.judgeInLos n l).settingsOk := by
  unfold State.judgeInLos
  dsimp only
  split
  · split
    · exact (hs.fallBase n _ l).startHoldOff n
    · exact hs
  · split
    · split
      · exact foldl (fun h ht => ht.shutterOne n h) _ (hs.riseBase n _ l)
      · exact hs.riseBase n _ l
    · exact hs

theorem judgeInHigh (n : SiteId) (l : Level) : (s.judgeInHigh n l).settingsOk := by
  rw [judgeInHigh_eq]
  split
  · split
    · exact hs.fallBase n _ l
    · exact hs
  · split
    · exact hs.riseBase n _ l
    · exact hs

theorem judgeIngress (n : SiteId) : (s.judgeIngress n).settingsOk := (hs.judgeInLos n _).judgeInHigh n _

theorem judgeMonStale (n : SiteId) : (s.judgeMonStale n).settingsOk := by
  unfold State.judgeMonStale
  dsimp only
  split
  · split
    · exact hs
    · exact hs.fallBase n _ _
  · split
    · exact hs.riseBase n _ _
    · exact hs

/-! ### The Level Loop (R125 to R130) -/

theorem correctOne (n : SiteId) (h : Handle) : (s.correctOne n h).settingsOk := by
  have hc := hs.chan h
  unfold State.correctOne
  dsimp only
  split
  · split
    · exact hs.setChan (hc.restate rfl rfl)
    · exact hs.setChan (hc.restate rfl rfl)
    · split
      · refine withdrawLevel (setChan hs ?_) n h
        exact hc.restate rfl rfl
      · refine placeLevel (setChan hs ?_) n h (rangeAtt_att_le _)
        exact hc.restate rfl rfl
  · exact hs

theorem levelLoop (n : SiteId) : (s.levelLoop n).settingsOk := by
  unfold State.levelLoop
  split
  · exact foldl (fun h ht => ht.correctOne n h) _ hs
  · exact hs

/-! ### The Site Store and the end of an event (R156 to R163) -/

theorem swap (n : SiteId) : (s.swap n).settingsOk := by
  unfold State.swap
  dsimp only
  split
  · exact hs
  · exact (((hs.setSite n _).handOver _).rehold _).due true

theorem finish (before : State) : (State.finish before s).settingsOk :=
  (foldl (fun n ht => by
    unfold State.swapIfQuiet
    split
    · exact ht.swap n
    · exact ht) _ hs).runPass

theorem joinFetch (n : SiteId) : (s.joinFetch n).settingsOk := hs.of_engine (joinFetch_engine s n)

theorem enabled (n : SiteId) (p : Params) (mask : Half) : (s.enabled n p mask).settingsOk :=
  ((((hs.setSite n _).setTap _ _).setTap _ _).handOver _).judgeIngress n

theorem reloaded (n : SiteId) (p : Params) (mask : Half) : (s.reloaded n p mask).settingsOk := by
  unfold State.reloaded
  dsimp only
  split
  · exact (hs.setSite n _).joinFetch n
  · split
    · exact (hs.setSite n _).swap n
    · exact hs.setSite n _

theorem deliver (b : SetupBurst) : (s.deliver b).settingsOk := by
  unfold State.deliver
  dsimp only
  split
  · split
    · exact hs.joinFetch _
    · exact hs
  · split
    · exact hs.enabled _ _ _
    · exact hs.reloaded _ _ _
    · exact hs

theorem setupDone : s.setupDone.settingsOk := by
  unfold State.setupDone
  split
  · split
    · exact hs
    · dsimp only
      refine State.settingsOk.finish (of_engine (deliver ?_ _) (requestSetup_engine _)) s
      exact hs.of_engine rfl
  · exact hs

theorem siteDown (n : SiteId) : (s.siteDown n).settingsOk :=
  ((((of_engine (hs.setCond n _) (abandonFetch_engine _ n)).setSite n _).setTap _ _).setTap _ _).handOver _

theorem tearDown (n : SiteId) : (s.tearDown n).settingsOk := by
  unfold State.tearDown
  have cancelled := foldl (f := State.cancelOne) (fun h ht => (ht.dropTransition h).handOver _) (s.concerned n) hs
  have dropped := foldl (f := State.dropLevelOf) (fun h ht => ht.dropLevel _ h) (s.concerned n) cancelled
  have dark := foldl (f := State.shutterDown ((s.concerned n).filter s.rampSent)) (fun h ht => by
    unfold State.shutterDown
    split
    · exact ht.placeShutter h false
    · exact ht) (s.concerned n) dropped
  exact foldl (f := State.freeDown (s.concerned n)) (fun h ht => ht.toFree h _) (s.concerned n) dark

theorem disableSite (n : SiteId) : (s.disableSite n).settingsOk := by
  unfold State.disableSite
  split
  · exact hs
  · exact hs.siteDown n
  · exact ((hs.tearDown n).siteDown n).finish s

theorem reloadSite (n : SiteId) : (s.reloadSite n).settingsOk := by
  unfold State.reloadSite
  dsimp only
  split
  · exact (hs.setSite n _).joinFetch n
  · split
    · exact hs.setSite n _
    · exact hs
  · exact (hs.setSite n _).joinFetch n

end State.settingsOk

end Sys2Proof.Machine
end

section
/-!
SUPPORT. Settings in range (R103), third part: the decisions, the answers, the scan link, the commands and the reset input; and O11.
-/

namespace Sys2Proof.Machine

open Sys2Proof

namespace State.settingsOk

variable {s t : State} (hs : s.settingsOk)
include hs

/-! ### Decisions (R71 to R76) -/

theorem enterFlight (off : Half) : (s.enterFlight off).settingsOk := by
  rw [enterFlight_only]; exact hs

/-- The record a SETUP or an ADOPT fills is dark. -/
theorem setFilled (u : State) (h : Handle) (d : Desc) (off : Half) (a b : End) (k : ConnKind) :
    (s.setChan h (u.filled d off a b k)).settingsOk := by
  refine hs.setChan ?_
  exact Channel.inRange_free.restate rfl rfl

theorem decideSetup (off : Half) (d : Desc) : (s.decideSetup off d).1.settingsOk := by
  unfold State.decideSetup
  split
  · exact hs
  · rename_i a b k _
    dsimp only
    split
    · exact hs
    · have hf := (hs.reserve d.handle (s.filled d off a b k).footprint).setFilled s d.handle d off a b k
      split <;> rename_i heq
      · exact (hf.offer (congrArg Offer.state? heq) d.preset_le).enterFlight off
      · exact (hf.offer (congrArg Offer.state? heq) d.preset_le).enterFlight off
      · exact (hf.offer (congrArg Offer.state? heq) d.preset_le).enterFlight off
      · exact hs

theorem decideAdopt (off : Half) (d : Desc) : (s.decideAdopt off d).1.settingsOk := by
  unfold State.decideAdopt
  split
  · exact hs
  · rename_i a b k _
    dsimp only
    split
    · exact hs
    · split
      · exact hs
      · refine enterFlight (placeAdopt (setChan (hs.reserve d.handle _) ?_) _ d.handle off) off
        refine ⟨trivial, ?_⟩
        rintro m ⟨⟩
        exact d.preset_getD_le

theorem decideRetarget (off : Half) (d : Desc) : (s.decideRetarget off d).1.settingsOk := by
  unfold State.decideRetarget
  dsimp only
  split
  case h_6 =>
    split
    · exact hs
    · split
      · exact hs
      · have hc (target : Int) (clamped : Bool) :
            (s.setChan d.handle { s.chan d.handle with target, clamped, desc := some off }).settingsOk := by
          refine hs.setChan ?_
          exact (hs.chan d.handle).restate rfl rfl
        split <;> rename_i heq
        · exact ((hc _ _).offer (congrArg Offer.state? heq) d.preset_le).enterFlight off
        · exact (hc _ _).offer (congrArg Offer.state? heq) d.preset_le
        · exact ((hc _ _).offer (congrArg Offer.state? heq) d.preset_le).enterFlight off
        · exact hs
  all_goals exact hs

theorem offerFall {s1 : State} (hs1 : s1.settingsOk) (off : Half) (d : Desc) (items : List Item) :
    (s.offerFall s1 off d items).1.settingsOk := by
  have hc : (s1.setChan d.handle { s1.chan d.handle with desc := some off }).settingsOk := by
    refine hs1.setChan ?_
    exact (hs1.chan d.handle).restate rfl rfl
  unfold State.offerFall
  dsimp only
  split <;> rename_i heq
  · exact (hc.offer (congrArg Offer.state? heq) (WaitEntry.inRange_of_none rfl)).enterFlight off
  · exact (hc.offer (congrArg Offer.state? heq) (WaitEntry.inRange_of_none rfl)).enterFlight off
  · exact (hc.offer (congrArg Offer.state? heq) (WaitEntry.inRange_of_none rfl)).enterFlight off
  · exact hs

theorem decideRelease (off : Half) (d : Desc) : (s.decideRelease off d).1.settingsOk := by
  unfold State.decideRelease
  dsimp only
  split
  · exact hs
  · exact hs
  · exact hs.toFree d.handle []
  · split
    · exact hs
    · exact hs.offerFall (hs.dropTransition d.handle) off d _
  all_goals
    split
    · exact (hs.takeOver _ d.handle off).enterFlight off
    all_goals exact hs

omit hs in
theorem settle {r : Decision} (hr : r.1.settingsOk) : (s.settle r).settingsOk := by
  have h := hr.finish s
  unfold State.settle
  dsimp only
  generalize State.finish s r.1 = u at h ⊢
  exact of_engine (h.of_engine rfl) (walkerRun_engine _)

theorem decideStep (applies : Half → Desc → Bool) {decision : State → Half → Desc → Decision}
    (h : ∀ t off d, t.settingsOk → (decision t off d).1.settingsOk) : (s.decideStep applies decision).settingsOk := by
  unfold State.decideStep
  split
  · exact hs
  · split
    · have hd := hs.of_engine (enterDeciding_engine s)
      exact settle (h _ _ _ hd)
    · exact hs

/-! ### The answers (R105 to R121) -/

theorem complete (x : Slot) : (s.complete x).settingsOk := by
  unfold State.complete
  dsimp only
  refine rerunDeferred (handOver ?_ _)
  split
  · exact hs.toFree _ []
  · have hd := hs.dropTransition x.handle
    refine hd.setChan ?_
    exact (hd.chan x.handle).restate rfl rfl

/-- A matched OK makes the setting that was sent the applied one (R106). -/
theorem apply (h : Handle) {setting : Setting} (ha : setting.inRange) (u : Bool) :
    (s.setChan h { s.chan h with applied := setting, unconfirmed := u }).settingsOk := by
  refine hs.setChan ?_
  exact ⟨ha, (hs.chan h).2⟩

theorem rampAnswer (k : SlotId) {setting : Setting} (ha : setting.inRange) (ok : Bool) : (s.rampAnswer k setting ok).settingsOk := by
  unfold State.rampAnswer
  split
  · exact hs
  · split
    · dsimp only
      split
      · exact (hs.apply _ ha false).complete _
      · exact (hs.apply _ ha false).leaveSent k
    · exact hs.leaveSent k

theorem channelAnswer (h : Handle) {m : SettingMsg} (ha : m.setting.inRange) (ok : Bool) : (s.channelAnswer h m ok).settingsOk := by
  unfold State.channelAnswer
  dsimp only
  split
  · split
    · exact hs.apply h ha false
    · exact hs
  · refine hs.setChan ?_
    exact (hs.chan h).restate rfl rfl
  · exact hs

theorem classAnswer {o : Outstanding} (ha : o.msg.setting.inRange) (ok : Bool) : (s.classAnswer o ok).settingsOk := by
  unfold State.classAnswer
  split
  · exact hs.rampAnswer _ ha ok
  · exact hs.channelAnswer _ ha ok
  · exact hs

theorem faultAnswer (m : SiteId) (ok : Bool) : (s.faultAnswer m ok).settingsOk := by
  unfold State.faultAnswer
  split
  · exact hs.clearModFault m
  · exact hs.raiseModFault m

theorem busy (m : SiteId) : (s.busy m).settingsOk := hs.setLink ((hs.link m).of_kept rfl (fun _ => rfl) fun _ => id)

theorem abandonMessage (m : SiteId) : (s.abandonMessage m).settingsOk := hs.setLink ⟨nofun, (hs.link m).2⟩

theorem closeAnswer (before : State) (m : SiteId) : (State.closeAnswer before s m).settingsOk :=
  ((hs.finish before).abandonMessage m).kick m

theorem messageEnds (m : SiteId) (ok : Bool) : (s.messageEnds m ok).settingsOk := by
  unfold State.messageEnds
  split
  · exact hs
  · rename_i o ho
    exact (((hs.busy m).classAnswer ((hs.link m).1 o ho) ok).faultAnswer m ok).closeAnswer s m

theorem takeAck (l : SiteId) (m q o : Byte) : (s.takeAck l m q o).settingsOk := by
  unfold State.takeAck
  split
  · exact hs
  · split
    · exact hs
    · split
      · exact hs.messageEnds l _
      · exact hs

theorem ackExpires (m : SiteId) : (s.ackExpires m).settingsOk := by
  unfold State.ackExpires
  split
  · exact hs.messageEnds m false
  · exact hs

theorem pacingExpires (k : SlotId) : (s.pacingExpires k).settingsOk := by
  unfold State.pacingExpires
  split
  · exact hs.placeRamp k
  · exact hs

theorem holdOffExpires (n : SiteId) : (s.holdOffExpires n).settingsOk := by
  unfold State.holdOffExpires
  split
  · exact (hs.expireHoldOff n).finish s
  · exact hs

/-! ### The scan link (R46 to R48) -/

theorem offerFrame (t : TapId) (b : Bool) : (s.offerFrame t b).settingsOk := by
  unfold State.offerFrame
  dsimp only
  have judged : (if b then s.judgeMonStale (tapSite t) else s).settingsOk := by
    split
    · exact hs.judgeMonStale _
    · exact hs
  split
  · exact (judged.judgeIngress _).due _
  · exact judged.levelLoop _

theorem storeFrame (t : TapId) (f : List Byte) : (s.storeFrame t f).settingsOk := by
  unfold State.storeFrame
  dsimp only
  split <;> exact hs.setTap t _

theorem goodFrame (t : TapId) (f : List Byte) : (s.goodFrame t f).settingsOk := by
  unfold State.goodFrame
  dsimp only
  split
  · exact ((hs.storeFrame t f).offerFrame t _).finish s
  · exact hs.storeFrame t f

theorem scanStep (b : Byte) : (s.scanStep b).settingsOk := by
  unfold State.scanStep State.takeByte
  split
  · exact hs
  · split
    · dsimp only
      split
      · unfold State.endFrame
        dsimp only
        split
        · exact hs
        · exact hs
        · refine goodFrame ?_ _ _
          exact hs.of_engine rfl
      · exact hs
    · split
      · exact hs
      · exact hs

theorem staleExpires (t : TapId) : (s.staleExpires t).settingsOk := by
  unfold State.staleExpires
  split
  · exact ((hs.setTap t _).judgeMonStale _).finish s
  · exact hs

/-! ### Commands and control cells (R60 to R64, R168) -/

theorem freezes (v : Bool) (l : List SiteId) : (l.foldl (State.setFreeze v) s).settingsOk := by
  rw [freezes_only]; exact hs

theorem command (code : Byte) (x : BitVec 24) : (s.command code x).1.settingsOk := by
  unfold State.command
  split
  · exact hs.of_engine (commandGo_engine s x)
  · exact hs.of_engine (commandHalt_engine s)
  · unfold State.commandFreeze
    split
    · exact hs
    · dsimp only
      exact (hs.freezes true _).rehold _
  · unfold State.commandThaw
    split
    · exact hs
    · dsimp only
      exact (((hs.freezes false _).rehold _).due _).finish s
  · unfold State.commandEnable
    split
    · exact hs
    · split
      · exact (hs.setSite _ _).joinFetch _
      · exact hs
  · unfold State.commandDisable
    split
    · exact hs
    · split
      · exact hs
      · exact hs.disableSite _
  · unfold State.commandReload
    split
    · exact hs
    · split
      · exact hs.reloadSite _
      · exact hs
  · exact hs

theorem offerConsumer (v : Half) : (s.offerConsumer v).settingsOk := by
  unfold State.offerConsumer
  split <;> exact hs

theorem controlWrite (o : Nat) (w : Word) : (s.controlWrite o w).settingsOk := by
  unfold State.controlWrite
  split
  · exact hs.command _ _
  · split
    · exact hs.offerConsumer _
    · iterate 6
        split
        · exact hs
      exact hs

/-! ### Controller cycles (R166 to R174) -/

theorem cellWrite (o : Nat) (w : Word) {effect : State → State} (h : ∀ {t}, t.settingsOk → (effect t).settingsOk) :
    (s.cellWrite o w effect).settingsOk := by
  unfold State.cellWrite
  dsimp only
  split
  · exact hs.of_engine (busAccess_engine s _)
  · exact h (hs.of_engine rfl)

theorem viewRead (o : Nat) (en : BitVec 4) : (s.viewRead o en).settingsOk := by
  unfold State.viewRead
  dsimp only
  split
  · exact hs.of_engine rfl
  · unfold State.clearSticky
    split
    · split <;> exact hs
    · exact hs

theorem windowWrite (o : Nat) (c : BusCycle) : (s.windowWrite o c).settingsOk := by
  unfold State.windowWrite
  split
  · exact hs
  · dsimp only
    split
    · refine controlWrite ?_ o _
      exact hs.of_engine rfl
    · exact hs.of_engine rfl

theorem windowRead (o : Nat) (c : BusCycle) : (s.windowRead o c).settingsOk := by
  unfold State.windowRead
  split
  · exact hs
  · split
    · exact hs.viewRead o _
    · split
      · split <;> exact hs
      · exact hs

theorem arrive (c : BusCycle) : (s.arrive c).settingsOk := by
  unfold State.arrive
  split
  · exact hs.of_engine (busAccess_engine s c)
  · split
    · exact hs
    · split
      · exact hs.windowWrite _ c
      · exact hs.windowRead _ c

/-! ### Ticks and the reset input (R1, R180) -/

theorem tickSlot (k : SlotId) : (s.tickSlot k).settingsOk := by
  unfold State.tickSlot
  split
  · exact hs
  · split <;> exact hs

theorem tickLink (m : SiteId) : (s.tickLink m).settingsOk := hs.setLink ((hs.link m).of_kept rfl (fun _ => rfl) fun _ => id)

theorem tickOnce : s.tickOnce.settingsOk := by
  unfold State.tickOnce
  split
  · exact hs
  · have slots := foldl (f := State.tickSlot) (fun k ht => ht.tickSlot k) allSlots (s := { s with tick := s.tick + 1 }) hs
    have links := foldl (f := State.tickLink) (fun m ht => ht.tickLink m) allSites slots
    have taps := foldl (f := State.tickTap) (fun t ht => ht.setTap t _) allTaps links
    exact foldl (f := State.tickCond) (fun n ht => ht.setCond n _) allSites taps

theorem abandonAll (waiting : List BusCycle) : (s.abandonAll waiting).settingsOk := by
  have passed : (waiting.foldl State.busAccess { s with inReset := true }).settingsOk :=
    hs.of_engine (foldl_busAccess_engine waiting { s with inReset := true })
  have messages := foldl (f := State.abandonMessage) (fun m ht => ht.abandonMessage m) allSites passed
  unfold State.abandonAll
  dsimp only
  generalize allSites.foldl State.abandonMessage _ = u at messages ⊢
  exact messages.of_engine rfl

theorem assertReset (begun : Nat) : (s.assertReset begun).settingsOk := by
  unfold State.assertReset
  split
  · exact hs
  · split
    · rename_i q _ _ _
      exact abandonAll (hs.of_engine (sramWrites_engine (q.writes.take begun) s)) s.port.waiting
    · exact hs.abandonAll s.port.waiting

theorem releaseReset (straps : BitVec 2) : (s.releaseReset straps).settingsOk := by
  unfold State.releaseReset
  split
  · exact of_engine State.settingsOk_reset rfl
  · exact hs

/-! ### Every command -/

theorem exec {c : Instr} (h : exec c s = .next t) : t.settingsOk := by
  cases c <;> cases h
  case resetAssert begun => exact hs.assertReset begun
  case resetRelease straps => exact hs.releaseReset straps
  case tick => exact hs.tickOnce
  case go x => exact hs.cellWrite _ _ fun ht => ht.command 1 x
  case halt x => exact hs.cellWrite _ _ fun ht => ht.command 2 x
  case freeze x => exact hs.cellWrite _ _ fun ht => ht.command 3 x
  case thaw x => exact hs.cellWrite _ _ fun ht => ht.command 4 x
  case enable x => exact hs.cellWrite _ _ fun ht => ht.command 5 x
  case disable x => exact hs.cellWrite _ _ fun ht => ht.command 6 x
  case reload x => exact hs.cellWrite _ _ fun ht => ht.command 7 x
  case unknownCommand code x => exact hs.cellWrite _ _ fun ht => ht.command code x
  case consumerUpdate v => exact hs.cellWrite _ _ fun ht => ht.offerConsumer _
  case thresholdWrite cell v => exact hs.cellWrite _ _ fun ht => ht.controlWrite _ v
  case maskWrite cell v => exact hs.cellWrite _ _ fun ht => ht.controlWrite _ v
  case probeWrite v => exact hs.cellWrite _ _ fun ht => ht.controlWrite _ v
  case stickyWordRead w en =>
    split
    · exact hs.of_engine (busAccess_engine s _)
    · exact hs.viewRead _ en
  case suppressedWrite o en data => exact hs.arrive _
  case controllerCycle dir a en data => exact hs.arrive _
  case lockAssert =>
    unfold State.assertLock
    split <;> exact hs
  case lockDeassert => exact hs.of_engine rfl
  case lockBroken =>
    unfold State.breakLock
    split
    · refine handOver ?_ _
      exact hs.of_engine rfl
    · exact hs
  case arbiterGrant => exact hs.of_engine (grant_engine s)
  case setup => exact hs.decideStep _ fun _ off d ht => ht.decideSetup off d
  case adopt => exact hs.decideStep _ fun _ off d ht => ht.decideAdopt off d
  case retarget => exact hs.decideStep _ fun _ off d ht => ht.decideRetarget off d
  case release => exact hs.decideStep _ fun _ off d ht => ht.decideRelease off d
  case mark => exact hs.decideStep _ fun _ _ _ ht => ht
  case badKind => exact hs.decideStep _ fun _ _ _ ht => ht
  case inFlightRefusal => exact hs.decideStep _ fun _ _ _ ht => ht
  case setupFetchComplete => exact hs.setupDone
  case postingDrain => exact hs.of_engine (drain_engine s)
  case walkerPostingPlace =>
    unfold State.resumeWalker
    split
    · exact hs.of_engine (walkerRun_engine s)
    · exact hs
  case handoverPlace =>
    split
    · exact hs
    · rw [placeHandOver_only]; exact hs
  case scanByte b => exact hs.scanStep b
  case byteGapExpiry =>
    unfold State.abandonFrame
    split <;> exact hs
  case staleTimerExpiry tap => exact hs.staleExpires tap
  case ackReceived l m q o => exact hs.takeAck l m q o
  case ackTimeout m => exact hs.ackExpires m
  case pacingExpiry k => exact hs.pacingExpires k
  case holdOffExpiry n => exact hs.holdOffExpires n

end State.settingsOk

/-- Settles O11: no operation applies, aims at, queues or sends an attenuation beyond 200 (R103). -/
theorem stepKeepsSettingsInRange : Obligations.StepKeepsSettingsInRange := by
  intro s t hs h
  unfold step at h
  split at h
  · cases h; exact hs
  · rename_i c rest _
    exact State.settingsOk.exec (s := { s with pending := rest }) hs h

end Sys2Proof.Machine
end

section
/-!
SUPPORT. lin (R25): the search behind it, the bounds that make its result the nearest whole number, and what they give: the checkpoints, and
that it rises; what passes through it.
-/

namespace Sys2Proof.Machine

open Sys2Proof

/-! ### The binary searches of lin and log -/

/-- A search that adds falling powers of two where `p` allows ends at a number with `p` whose successor is without. -/
theorem search_ends {p : Nat → Prop} {f : Nat → Nat → Nat} (zero : ∀ a, f 0 a = a)
    (succ : ∀ b a, p (a + 2 ^ b) ∧ f (b + 1) a = f b (a + 2 ^ b) ∨ ¬p (a + 2 ^ b) ∧ f (b + 1) a = f b a) (b : Nat) {a : Nat} (ha : p a)
    (hb : ¬p (a + 2 ^ b)) : p (f b a) ∧ ¬p (f b a + 1) := by
  induction b generalizing a with
  | zero => rw [zero]; exact ⟨ha, hb⟩
  | succ b ih =>
    rcases succ b a with ⟨hp, he⟩ | ⟨hp, he⟩ <;> rw [he]
    · refine ih hp ?_
      rwa [Nat.add_assoc, ← Nat.two_mul, Nat.mul_comm, ← Nat.pow_succ]
    · exact ih ha hp

/-! ### The bounds of lin -/

/-- The exponent of a level: lin is the hundredth root of 10 raised to it. -/
def linExp (t : Int) : Nat := (clampLevel t + 600).toNat

theorem linExp_of_range {t : Int} (hl : -500 ≤ t) (hu : t ≤ 200) : linExp t = (t + 600).toNat := by
  unfold linExp clampLevel; omega

theorem linExp_le (t : Int) : linExp t ≤ 8 * 100 := by
  unfold linExp clampLevel; omega

theorem linExp_mono {t u : Int} (h : t ≤ u) : linExp t ≤ linExp u := by
  unfold linExp clampLevel; omega

theorem lin_eq (t : Int) : lin t = linSearch (linExp t) 27 0 := rfl

theorem pow_le_decades {k n : Nat} (h : k ≤ n * 100) : 10 ^ k ≤ (10 ^ n) ^ 100 :=
  Nat.pow_mul 10 n 100 ▸ Nat.pow_le_pow_right (by decide) h

/-- Twice a result, less 1, is odd, and so is no hundredth root of an even number: no power lies midway (R25). -/
theorem not_midway (r k : Nat) : (2 * r - 1) ^ 100 ≠ 2 ^ 100 * 10 ^ k := by
  intro h
  have even : Even ((2 * r - 1) ^ 100) := h ▸ (even_two.pow_of_ne_zero (by decide)).mul_right _
  have hroot : Even (2 * r - 1) := (Nat.even_pow.mp even).1
  have hr : r = 0 := by
    obtain ⟨m, hm⟩ := hroot
    omega
  subst hr
  exact absurd h (by positivity : 0 < 2 ^ 100 * 10 ^ k).ne

theorem notAboveRounded_iff (k r : Nat) : notAboveRounded k r = true ↔ (2 * r - 1) ^ 100 ≤ 2 ^ 100 * 10 ^ k := decide_eq_true_iff

/-- lin is the nearest whole number: 2 lin t − 1 and 2 lin t + 1 enclose twice the power. -/
theorem lin_bounds (t : Int) :
    (2 * lin t - 1) ^ 100 < 2 ^ 100 * 10 ^ linExp t ∧ 2 ^ 100 * 10 ^ linExp t < (2 * lin t + 1) ^ 100 := by
  have step (b a : Nat) : notAboveRounded (linExp t) (a + 2 ^ b) = true ∧ linSearch (linExp t) (b + 1) a = linSearch (linExp t) b (a + 2 ^ b) ∨
      ¬notAboveRounded (linExp t) (a + 2 ^ b) = true ∧ linSearch (linExp t) (b + 1) a = linSearch (linExp t) b a := by
    rw [linSearch]
    split
    · rename_i h; exact .inl ⟨h, rfl⟩
    · rename_i h; exact .inr ⟨h, rfl⟩
  have top : ¬notAboveRounded (linExp t) (0 + 2 ^ 27) = true := by
    rw [notAboveRounded_iff, Nat.not_le]
    calc 2 ^ 100 * 10 ^ linExp t ≤ 2 ^ 100 * (10 ^ 8) ^ 100 := Nat.mul_le_mul_left _ (pow_le_decades (linExp_le t))
      _ = (2 * 10 ^ 8) ^ 100 := (Nat.mul_pow ..).symm
      _ < _ := Nat.pow_lt_pow_left (by decide) (by decide)
  have bottom : notAboveRounded (linExp t) 0 = true := (notAboveRounded_iff _ _).mpr (Nat.zero_le _)
  obtain ⟨hr, hs⟩ := search_ends (p := fun r => notAboveRounded (linExp t) r = true) (fun _ => rfl) step 27 bottom top
  rw [← lin_eq, notAboveRounded_iff] at hr hs
  exact ⟨lt_of_le_of_ne hr (not_midway _ _), Nat.lt_of_not_le hs⟩

/-- A result that stands under one bound lies under one that stands above another. -/
theorem le_of_scaled_pow_lt {r q : Nat} (h : (2 * r - 1) ^ 100 < (2 * q + 1) ^ 100) : r ≤ q := by
  have := lt_of_pow_lt_pow_left' 100 h
  omega

/-- lin never falls (R25). -/
theorem lin_mono {t u : Int} (h : t ≤ u) : lin t ≤ lin u :=
  le_of_scaled_pow_lt <| calc
    (2 * lin t - 1) ^ 100 < 2 ^ 100 * 10 ^ linExp t := (lin_bounds t).1
    _ ≤ 2 ^ 100 * 10 ^ linExp u := Nat.mul_le_mul_left _ (Nat.pow_le_pow_right (by decide) (linExp_mono h))
    _ < (2 * lin u + 1) ^ 100 := (lin_bounds u).2

/-- The number between the bounds is lin. -/
theorem lin_eq_of_bounds {t : Int} {r : Nat} (hl : (2 * r - 1) ^ 100 < 2 ^ 100 * 10 ^ linExp t)
    (hu : 2 ^ 100 * 10 ^ linExp t < (2 * r + 1) ^ 100) : lin t = r :=
  Nat.le_antisymm (le_of_scaled_pow_lt ((lin_bounds t).1.trans hu)) (le_of_scaled_pow_lt (hl.trans (lin_bounds t).2))

/-- At a whole number of decades lin is exact. -/
theorem lin_of_decades {t : Int} {n : Nat} (h : linExp t = n * 100) : lin t = 10 ^ n := by
  have hpow : 2 ^ 100 * 10 ^ linExp t = (2 * 10 ^ n) ^ 100 := by rw [h, Nat.pow_mul, Nat.mul_pow]
  have hpos : 0 < 10 ^ n := by positivity
  refine lin_eq_of_bounds ?_ ?_ <;> rw [hpow]
  · exact Nat.pow_lt_pow_left (by omega) (by decide)
  · exact Nat.pow_lt_pow_left (by omega) (by decide)

theorem lin_floor : lin (-500) = 10 := lin_of_decades (n := 1) (by decide)
theorem lin_ceiling : lin 200 = 100000000 := lin_of_decades (n := 8) (by decide)

/-- The checkpoints of Table 2-2 that are no whole number of decades, and the levels where lin rises by 1. -/
theorem lin_checkpoints :
    lin (-499) = 10 ∧ lin (-498) = 10 ∧ lin (-497) = 11 ∧ lin (-439) = 41 ∧ lin (-438) = 42 ∧ lin (-437) = 43 ∧ lin (-436) = 44 ∧
    lin (-150) = 31623 ∧ lin (-120) = 63096 ∧ lin (-40) = 398107 ∧ lin (-39) = 407380 := by
  refine ⟨?_, ?_, ?_, ?_, ?_, ?_, ?_, ?_, ?_, ?_, ?_⟩ <;> exact lin_eq_of_bounds (by decide +kernel) (by decide +kernel)

/-! ### Where lin rises -/

/-- From 44 on the next result is less than a tenth of a dB away. -/
theorem root_gap {r : Nat} (hr : 44 ≤ r) : (2 * r + 1) ^ 100 ≤ 10 * (2 * r - 1) ^ 100 := by
  have hratio : (87 * (2 * r + 1)) ^ 100 ≤ (89 * (2 * r - 1)) ^ 100 := Nat.pow_le_pow_left (by omega) 100
  rw [Nat.mul_pow, Nat.mul_pow] at hratio
  have hten : 89 ^ 100 ≤ 87 ^ 100 * 10 := by norm_num
  generalize (2 * r + 1) ^ 100 = x at hratio ⊢
  generalize (2 * r - 1) ^ 100 = y at hratio ⊢
  have := hratio.trans (Nat.mul_le_mul_right y hten)
  rw [Nat.mul_assoc] at this
  exact Nat.le_of_mul_le_mul_left this (by positivity)

/-- lin rises strictly above −440: three steps by their values, the others by the gap (R25). -/
theorem lin_strictMono {t : Int} (hl : -440 < t) (hu : t < 200) : lin t < lin (t + 1) := by
  obtain ⟨-, -, -, h439, h438, h437, h436, -⟩ := lin_checkpoints
  by_cases hlow : t < -436
  · have : t = -439 ∨ t = -438 ∨ t = -437 := by omega
    rcases this with rfl | rfl | rfl
    · rw [h439, show (-439 : Int) + 1 = -438 from rfl, h438]; decide
    · rw [h438, show (-438 : Int) + 1 = -437 from rfl, h437]; decide
    · rw [h437, show (-437 : Int) + 1 = -436 from rfl, h436]; decide
  · have hr : lin (-436) ≤ lin t := lin_mono (by omega)
    rw [h436] at hr
    have hexp : linExp (t + 1) = linExp t + 1 := by
      rw [linExp_of_range (by omega) (by omega), linExp_of_range (by omega) (by omega)]
      omega
    by_contra hn
    have : 2 ^ 100 * 10 ^ linExp (t + 1) < 2 ^ 100 * 10 ^ linExp (t + 1) := calc
      2 ^ 100 * 10 ^ linExp (t + 1) < (2 * lin (t + 1) + 1) ^ 100 := (lin_bounds (t + 1)).2
      _ ≤ (2 * lin t + 1) ^ 100 := Nat.pow_le_pow_left (by omega) 100
      _ ≤ 10 * (2 * lin t - 1) ^ 100 := root_gap hr
      _ ≤ 10 * (2 ^ 100 * 10 ^ linExp t) := Nat.mul_le_mul_left _ (lin_bounds t).1.le
      _ = 2 ^ 100 * 10 ^ linExp (t + 1) := by rw [hexp, Nat.pow_succ]; ring
    exact absurd this (Nat.lt_irrefl _)

/-! ### What passes through lin -/

theorem slicePower_eq (raw : Half) : slicePower raw = if raw.toInt < -500 then 0 else lin raw.toInt := rfl

/-- The modelled level of a lit channel (R33). -/
theorem State.modelled_of_lit {s : State} {c : Channel} {a : Nat} (h : c.applied = .att a) :
    s.modelled c = lin ((s.pIn c).elim c.target fun p => p - (s.params c.dstSite).il - a) := by
  unfold State.modelled
  rw [h]
  cases s.pIn c <;> rfl

/-- The swings toward a line degree, kind by kind (R35, Table 2-3). -/
theorem State.swing_of_degree {s : State} {c : Channel} (h : (SiteId.degree? c.dstSite).isSome = true) (preset : Option Nat) :
    s.swing .rise c preset = lin (s.predicted c preset) ∧ s.swing .restore c preset = lin (s.predicted c preset) ∧
    s.swing .adjust c preset =
      (lin (s.predicted c preset) - s.modelled c) + (s.modelled c - lin (s.predicted c preset)) ∧
    s.swing .fall c preset = s.modelled c ∧ s.swing .adopt c preset = 0 := by
  obtain ⟨d, hd⟩ := Option.isSome_iff_exists.mp h
  unfold State.swing
  rw [hd]
  exact ⟨rfl, rfl, rfl, rfl, rfl⟩

/-- Settles O58: the bounds make lin the nearest whole number, and everything else follows from them. -/
theorem linRoundsToTheNearest : Obligations.LinRoundsToTheNearest := by
  obtain ⟨h499, h498, h497, -, -, -, -, h150, h120, h40, h39⟩ := lin_checkpoints
  refine ⟨fun t => ?clamp, fun t hl hu => ?bounds, fun _ _ => lin_mono, fun _ => lin_strictMono, lin_floor, h499, h498, h497,
    lin_of_decades (n := 3) (by decide), h150, h120, lin_of_decades (n := 5) (by decide), h40, h39, lin_of_decades (n := 6) (by decide), lin_ceiling,
    slicePower_eq, fun raw raw' hl hl' he => ?slices, fun s c a h => ?modelled, fun s c preset h => (State.swing_of_degree h preset).1⟩
  case clamp =>
    have : linExp t = linExp (max (-500) (min 200 t)) := by unfold linExp clampLevel; omega
    rw [lin_eq, this, ← lin_eq]
  case bounds => rw [← linExp_of_range hl hu]; exact lin_bounds t
  case slices => rw [slicePower_eq, slicePower_eq, if_neg (not_lt.mpr hl), if_neg (not_lt.mpr hl'), he]
  case modelled => exact (State.modelled_of_lit h).trans (by cases s.pIn c <;> rfl)

end Sys2Proof.Machine
end

section
/-!
SUPPORT. log and the measurements (R26 to R30): log rounds down onto the levels; a measurement is log of a sum over slices.
-/

namespace Sys2Proof.Machine

open Sys2Proof

/-! ### log (R26) -/

theorem log_of_dark {x : Nat} (h : x < 10) : log x = .noLight := if_pos h

theorem log_of_bright {x : Nat} (h : 100000000 ≤ x) : log x = .dt 200 := by
  unfold log
  rw [if_neg (by omega), if_pos h]

theorem log_between {x : Nat} (hl : 10 ≤ x) (hu : x < 100000000) : log x = .dt (-500 + (logSearch x 10 0 : Int)) := by
  unfold log
  rw [if_neg (by omega), if_neg (by omega)]

/-- The search of log ends at the last offset up to 700 whose level is not above the power. -/
theorem logSearch_ends {x : Nat} (h : 10 ≤ x) :
    (logSearch x 10 0 ≤ 700 ∧ lin (-500 + (logSearch x 10 0 : Int)) ≤ x) ∧
      ¬(logSearch x 10 0 + 1 ≤ 700 ∧ lin (-500 + ((logSearch x 10 0 + 1 : Nat) : Int)) ≤ x) := by
  refine search_ends (p := fun j => j ≤ 700 ∧ lin (-500 + (j : Int)) ≤ x) (f := logSearch x) (fun _ => rfl) (fun b a => ?_) 10 ⟨by omega, ?_⟩
    (fun hn => absurd hn.1 (by decide))
  · rw [logSearch]
    split
    · rename_i h; exact .inl ⟨h, rfl⟩
    · rename_i h; exact .inr ⟨h, rfl⟩
  · show lin (-500) ≤ x
    rw [lin_floor]; exact h

/-- Between its ends log is the largest level whose lin is not above the power. -/
theorem log_greatest {x : Nat} (hl : 10 ≤ x) (hu : x < 100000000) :
    ∃ t : Int, log x = .dt t ∧ -500 ≤ t ∧ t ≤ 200 ∧ lin t ≤ x ∧ ∀ u : Int, t < u → u ≤ 200 → x < lin u := by
  obtain ⟨⟨hj, hlin⟩, hnext⟩ := logSearch_ends hl
  refine ⟨_, log_between hl hu, by omega, by omega, hlin, fun u htu hu' => ?_⟩
  have hn : x < lin (-500 + ((logSearch x 10 0 + 1 : Nat) : Int)) := by
    by_contra hle
    exact hnext ⟨by omega, Nat.not_lt.mp hle⟩
  exact hn.trans_le (lin_mono (by omega))

/-- log is the one level that lin keeps under the power and whose successor's lin is above it. -/
theorem log_eq_of_next {x : Nat} {t : Int} (hl : 10 ≤ x) (hu : x < 100000000) (ht : t < 200) (hlin : lin t ≤ x) (hnext : x < lin (t + 1)) :
    log x = .dt t := by
  obtain ⟨v, hv, -, -, hvx, hmax⟩ := log_greatest hl hu
  have hle : t ≤ v := by
    by_contra hn
    exact absurd (hmax t (by omega) (by omega)) (Nat.not_lt.mpr hlin)
  have hge : v ≤ t := by
    by_contra hn
    exact absurd (hnext.trans_le (lin_mono (by omega))) (Nat.not_lt.mpr hvx)
  rw [hv, Int.le_antisymm hge hle]

theorem ten_le_lin {t : Int} (h : -500 ≤ t) : 10 ≤ lin t := lin_floor ▸ lin_mono h

/-- Converting a level and back gives it or a higher one. -/
theorem le_log_lin {t : Int} (hl : -500 ≤ t) (hu : t ≤ 200) : ∃ u : Int, log (lin t) = .dt u ∧ t ≤ u := by
  by_cases hb : 100000000 ≤ lin t
  · exact ⟨200, log_of_bright hb, hu⟩
  · obtain ⟨u, hlog, -, -, -, hmax⟩ := log_greatest (ten_le_lin hl) (Nat.not_le.mp hb)
    refine ⟨u, hlog, ?_⟩
    by_contra hn
    exact absurd (hmax t (by omega) hu) (Nat.lt_irrefl _)

/-- Where lin rises strictly, converting a level and back gives it. -/
theorem log_lin {t : Int} (hl : -500 ≤ t) (hu : t ≤ 200) (h : t = 200 ∨ lin t < lin (t + 1)) : log (lin t) = .dt t := by
  by_cases htop : t = 200
  · subst htop
    exact log_of_bright lin_ceiling.ge
  · have hrise := h.resolve_left htop
    have hceil : lin (t + 1) ≤ 100000000 := lin_ceiling ▸ lin_mono (by omega)
    exact log_eq_of_next (ten_le_lin hl) (by omega) (by omega) (Nat.le_refl _) hrise

/-! ### Sums over a table's places -/

/-- A table as a list is its entries by place. -/
theorem toList_eq_map_get {α : Type} {n : Nat} (v : Vector α n) : v.toList = (List.finRange n).map v.get := by
  refine List.ext_getElem (by simp) fun i h _ => ?_
  simp [Vector.get_eq_getElem]

/-- The sum over a window of places is the sum over all places with those outside it left out. -/
theorem sum_window {n : Nat} (f : Fin n → Nat) (first count : Nat) :
    ((((List.finRange n).map f).drop first).take count).sum =
      ((List.finRange n).map fun i => if first ≤ i.val ∧ i.val < first + count then f i else 0).sum := by
  induction n generalizing first count with
  | zero => simp
  | succ n ih =>
    rw [List.finRange_succ, List.map_cons, List.map_cons, List.map_map, List.map_map, List.sum_cons]
    cases first with
    | zero =>
      cases count with
      | zero => simp [Function.comp_def]
      | succ count =>
        have := ih (fun i => f i.succ) 0 count
        simp only [List.drop_zero, Nat.zero_le, true_and, Nat.zero_add] at this
        simp [Function.comp_def, this]
    | succ first =>
      have := ih (fun i => f i.succ) first count
      simpa [Function.comp_def, Nat.add_right_comm first 1 count] using this

/-! ### Measurements (R27 to R30) -/

theorem tapPower_of_dark {t : Tap} (h : t.received = false) (first count : Nat) : tapPower t first count = 0 := by
  simp [tapPower, h]

theorem tapPower_of_received {t : Tap} (h : t.received = true) (first count : Nat) :
    tapPower t first count = ((List.finRange 320).map fun i =>
      if first ≤ i.val ∧ i.val < first + count then slicePower (t.slices.get i) else 0).sum := by
  rw [tapPower, if_pos h, List.map_take, List.map_drop, toList_eq_map_get, List.map_map]
  exact sum_window _ first count

theorem tapTotal_of_received {t : Tap} (h : t.received = true) :
    tapTotal t = ((List.finRange 320).map fun i => slicePower (t.slices.get i)).sum := by
  rw [tapTotal, tapPower_of_received h]
  congr 2
  funext i
  exact if_pos ⟨Nat.zero_le _, by omega⟩

/-- P_in is valid exactly at a received tap that is not stale and measures a level (R30). -/
theorem State.pIn_eq_some (s : State) (c : Channel) (p : Int) :
    s.pIn c = some p ↔ (s.tap c.srcTap).received = true ∧ (s.tap c.srcTap).stale = false ∧ s.measIn c = .dt p := by
  unfold State.pIn
  dsimp only
  split
  · rename_i h
    simp only [Bool.and_eq_true, Bool.not_eq_true'] at h
    cases hm : s.measIn c <;> simp [h]
  · rename_i h
    simp only [Bool.and_eq_true, Bool.not_eq_true', not_and] at h
    simp only [reduceCtorEq, false_iff, not_and]
    exact fun hr hs => absurd hs (h hr)

/-- Settles O59: the search of log by the monotonicity of lin, and the sums place by place. -/
theorem logRoundsDown : Obligations.LogRoundsDown := by
  refine ⟨fun t first count => ⟨fun h => ?dark, fun h => ?received⟩, Channel.taps_of_ends, fun s c => ⟨rfl, rfl, s.pIn_eq_some c⟩,
    fun _ => log_of_dark, fun _ => log_of_bright, fun _ => log_greatest, fun _ => le_log_lin, fun _ => log_lin, ?ten,
    fun _ => ⟨rfl, rfl⟩, fun v t => ⟨decide_eq_true_iff, decide_eq_true_iff⟩⟩
  case dark => simp [measure, tapLevel, tapTotal, tapPower_of_dark h, log_of_dark]
  case received => exact ⟨by rw [measure, tapPower_of_received h], by rw [tapLevel, tapTotal_of_received h]⟩
  case ten =>
    obtain ⟨-, h498, h497, -⟩ := lin_checkpoints
    exact log_eq_of_next (by decide) (by decide) (by decide) h498.le (by rw [show (-498 : Int) + 1 = -497 from rfl, h497]; decide)

end Sys2Proof.Machine
end

section
/-!
SUPPORT. Admission into a slot (R31 to R35, R91, R94, R102, R117): targets, predicted levels and swings; what the placing of a RAMP request
leaves; the record and the slot of an admitted transition.
-/

namespace Sys2Proof.Machine

open Sys2Proof

/-! ### Targets and swings (R31 to R35) -/

/-- The ranging of a wanted attenuation, with its flags (R31). -/
theorem rangeAtt_spec (w : Int) :
    ((rangeAtt w).att : Int) = max 0 (min 200 w) ∧ (rangeAtt w).underRange = decide (w < 0) ∧
    (rangeAtt w).overRange = decide (200 < w) := by
  unfold rangeAtt
  split
  · simp; omega
  · split <;> simp <;> omega

theorem State.target_of_pIn {s : State} {c : Channel} {p : Int} (h : s.pIn c = some p) (preset : Option Nat) :
    s.target c preset = rangeAtt (p - (s.params c.dstSite).il - c.target) := by
  rw [State.target, h]

theorem State.target_of_no_pIn {s : State} {c : Channel} (h : s.pIn c = none) (preset : Option Nat) :
    s.target c preset = { att := preset.getD 200, underRange := false, overRange := false } := by
  rw [State.target, h]

theorem State.predicted_of_pIn {s : State} {c : Channel} {p : Int} (h : s.pIn c = some p) (preset : Option Nat) :
    s.predicted c preset = p - (s.params c.dstSite).il - (s.target c preset).att := by
  rw [State.predicted, h]

theorem State.predicted_of_no_pIn {s : State} {c : Channel} (h : s.pIn c = none) (preset : Option Nat) :
    s.predicted c preset = c.target := by
  rw [State.predicted, h]

theorem State.modelled_of_blocked {s : State} {c : Channel} (h : c.applied = .blocked) : s.modelled c = 0 := by
  rw [State.modelled, h]

theorem SiteId.degree?_of_group {n : SiteId} (h : 8 ≤ n.val) : SiteId.degree? n = none := dif_neg (by omega)

theorem SiteId.degree?_of_degree {n : SiteId} (h : n.val < 8) : SiteId.degree? n = some ⟨n.val, h⟩ := dif_pos h

/-- A swing toward an add/drop group is 0 (R35). -/
theorem State.swing_of_group {s : State} {c : Channel} (h : 8 ≤ c.dstSite.val) (kind : TransKind) (preset : Option Nat) :
    s.swing kind c preset = 0 := by
  unfold State.swing
  rw [SiteId.degree?_of_group h]

theorem natCast_sub_add_sub (a b : Nat) : ((a - b + (b - a) : Nat) : Int) = |(a : Int) - b| := by
  rw [Int.abs_eq_natAbs]
  omega

/-- A swing adds to the committed swing of its own line degree (R94). -/
theorem State.swingOf_commit (s : State) (n : SiteId) (w : Nat) (q : Fin 8) :
    (s.commit n w).swingOf q = s.swingOf q + if n = degreeSite q then w else 0 := by
  have hsite (h : n.val < 8) : q = ⟨n.val, h⟩ ↔ n = degreeSite q := by
    simp [degreeSite, Fin.ext_iff, eq_comm]
  unfold State.commit
  by_cases hn : n.val < 8
  · rw [SiteId.degree?_of_degree hn]
    simp only [State.swingOf_setSwing, ← hsite hn]
    split
    · rename_i h; rw [h]
    · rfl
  · rw [SiteId.degree?_of_group (Nat.le_of_not_lt hn), if_neg]
    · rfl
    · rintro rfl; exact hn q.isLt

/-- The lowest free slot is found (R79). -/
theorem State.freeSlot_of_lowest {s : State} {k : SlotId} (hk : s.slot k = none) (hlow : ∀ j, j < k → s.slot j ≠ none) :
    s.freeSlot = some k := by
  unfold State.freeSlot allSlots
  rw [List.find?_eq_some_iff_getElem]
  refine ⟨decide_eq_true hk, k.val, by simp, by simp, fun j hj => ?_⟩
  simpa using hlow ⟨j, by omega⟩ hj

/-! ### The placing of a RAMP request (R101, R102, R117) -/

/-- The sending of a module's next message leaves a slot, or makes it SENT. -/
theorem slot_sendNext (s : State) (m : SiteId) {k : SlotId} {x : Slot} (hx : s.slot k = some x) :
    (s.sendNext m).slot k = some x ∨ (s.sendNext m).slot k = some { x with drive := .sent } := by
  unfold State.sendNext State.transmit
  dsimp only
  split
  · exact .inl hx
  · split
    · exact .inl hx
    · rename_i j _ _
      split
      · exact .inl hx
      · rename_i t ht
        rw [State.slot_setLink, State.slot_setSlot]
        split
        · rename_i hk
          subst hk
          rw [Option.some.inj (ht.symm.trans hx)]
          exact .inr rfl
        · exact .inl hx
    · exact .inl hx

/-- A slot whose request is placed is QUEUED or SENT, its takeover mark clear (R101, R102). -/
theorem State.slot_placeRamp_self {s : State} {k : SlotId} {x : Slot} (hx : s.slot k = some x) :
    ∃ drive, (drive = .queued ∨ drive = .sent) ∧ (s.placeRamp k).slot k = some { x with drive, takeover := false } := by
  rw [State.placeRamp, hx]
  dsimp only
  generalize hu : (s.setLink x.dest { s.link x.dest with queue := (s.link x.dest).queue ++ [.ramp k] }).setSlot k
    (some { x with drive := .queued, takeover := false }) = u
  have hslot : u.slot k = some { x with drive := .queued, takeover := false } := by rw [← hu, State.slot_setSlot_self]
  unfold State.kick
  split
  · exact ⟨.queued, .inl rfl, hslot⟩
  · rcases slot_sendNext u x.dest hslot with h | h
    · exact ⟨.queued, .inl rfl, h⟩
    · exact ⟨.sent, .inr rfl, h⟩

/-- The placing of a slot's request touches its own module's link alone. -/
theorem State.link_placeRamp_of_ne {s : State} {k : SlotId} {x : Slot} (hx : s.slot k = some x) {m : SiteId} (h : m ≠ x.dest) :
    (s.placeRamp k).link m = s.link m := by
  rw [State.placeRamp, hx]
  dsimp only
  unfold State.kick
  split
  · rw [State.link_setSlot, State.link_setLink_of_ne _ _ _ h]
  · rw [link_sendNext_of_ne _ h, State.link_setSlot, State.link_setLink_of_ne _ _ _ h]

/-! ### An admitted transition (R91) -/

/-- The motion target of a transition (R12, R31). -/
def State.motionOf (s : State) (e : WaitEntry) : Setting :=
  if e.kind = .fall then .blocked else .att (s.target (s.chan e.handle) e.preset).att

/-- The record of a channel whose transition enters slot `k` (R91, steps 1 and 4). -/
def State.admitRecord (s : State) (e : WaitEntry) (k : SlotId) : Channel :=
  let c := s.chan e.handle
  let g := s.target c e.preset
  { c with state := e.kind.slotState, pending := some (.slot k), motion := some (s.motionOf e),
           underRange := if e.kind = .fall then c.underRange else g.underRange,
           overRange := if e.kind = .fall then c.overRange else g.overRange,
           shutteredBy := if e.kind = .restore then none else c.shutteredBy }

/-- The swing of a transition at its admission (R35). -/
def State.swingAt (s : State) (e : WaitEntry) : Nat := s.swing e.kind (s.chan e.handle) e.preset

/-- The state with a transition in slot `k` before its first request is placed (R91, steps 1 to 4, R117). -/
def State.entered (s : State) (e : WaitEntry) (k : SlotId) : State :=
  (((s.commit e.dest (s.swingAt e)).setSlot k (some (e.toSlot (s.swingAt e)))).setChan e.handle (s.admitRecord e k)).dropLevel
    e.dest e.handle

theorem State.admitEntry_eq_placeRamp {s : State} {e : WaitEntry} {k : SlotId} (hk : s.freeSlot = some k) :
    s.admitEntry e = (s.entered e k).placeRamp k := by
  unfold State.admitEntry
  rw [hk]
  dsimp only
  have haim : { s.aimed (s.chan e.handle) e.kind e.preset with
      state := e.kind.slotState, pending := some (.slot k),
      shutteredBy := if e.kind = .restore then none else (s.chan e.handle).shutteredBy } = s.admitRecord e k := by
    unfold State.aimed State.admitRecord State.motionOf
    cases e.kind <;> rfl
  rw [haim]
  rfl

section
variable (s : State) (e : WaitEntry) (k : SlotId)

theorem State.chan_entered (h : Handle) : (s.entered e k).chan h = if h = e.handle then s.admitRecord e k else s.chan h := by
  rw [State.entered, (dropLevel_only _ _ _).chan, State.chan_setChan, State.chan_setSlot, State.commit_eq]
  rfl

theorem State.slot_entered (j : SlotId) : (s.entered e k).slot j = if j = k then some (e.toSlot (s.swingAt e)) else s.slot j := by
  rw [State.entered, State.slot_dropLevel, State.slot_setChan, State.slot_setSlot, State.commit_eq]
  rfl

theorem State.link_entered (m : SiteId) :
    (s.entered e k).link m = if m = e.dest then (s.link m).withoutLevel e.handle else s.link m := by
  rw [State.entered, State.link_dropLevel, State.link_setChan, State.link_setSlot, State.commit_eq]
  rfl

theorem State.swingOf_entered (q : Fin 8) :
    (s.entered e k).swingOf q = s.swingOf q + if e.dest = degreeSite q then s.swingAt e else 0 := by
  rw [State.entered, State.swingOf_dropLevel, State.swingOf_setChan, State.swingOf_setSlot, State.swingOf_commit]

theorem State.entry_admitEntry (x : EntryRef) : (s.admitEntry e).entry x = s.entry x := by
  rw [admitEntry_only]; cases x <;> rfl

theorem State.params_entered (n : SiteId) : (s.entered e k).params n = s.params n := by
  rw [State.entered, State.commit_eq]; rfl

end

section
variable {s : State} {e : WaitEntry} {k : SlotId}

/-- At a busy module the request waits behind what the queue keeps (R102, R117). -/
theorem State.placeRamp_entered_of_busy {o : Outstanding} (ho : (s.link e.dest).out = some o) :
    (s.entered e k).placeRamp k =
      ((s.entered e k).setLink e.dest
        { s.link e.dest with
          queue := ((s.link e.dest).queue.filter fun r => !r.isLevelOf e.handle) ++ [.ramp k],
          out := some (o.detachIf (decide (o.bind = .channel e.handle ∧ o.msg.cls = .level))) }).setSlot k
        (some { e.toSlot (s.swingAt e) with drive := .queued }) := by
  have hx : (s.entered e k).slot k = some (e.toSlot (s.swingAt e)) := by rw [State.slot_entered, if_pos rfl]
  have hlink : (s.entered e k).link e.dest = (s.link e.dest).withoutLevel e.handle := by rw [State.link_entered, if_pos rfl]
  rw [State.placeRamp_of_busy hx (by simp [WaitEntry.toSlot, hlink, Link.withoutLevel, ho])]
  simp only [WaitEntry.toSlot, hlink, Link.withoutLevel, ho, Option.map_some]

/-- An idle module with nothing that stays waiting is sent the message at once (R102, R114). -/
theorem State.placeRamp_entered_of_idle (ho : (s.link e.dest).out = none)
    (hq : (s.link e.dest).queue.filter (fun r => !r.isLevelOf e.handle) = []) (hs : (s.link e.dest).shutters = []) :
    (s.entered e k).placeRamp k =
      ((s.entered e k).setLink e.dest ((s.link e.dest).sending k
        { module := e.dest, seq := (s.link e.dest).seq, first := (s.chan e.handle).first, count := (s.chan e.handle).count,
          input := (s.chan e.handle).input, port := (s.chan e.handle).outPort, cls := .ramp,
          setting := nextAttenuation e.kind (s.motionOf e) (s.chan e.handle).applied (s.params e.dest).step } [])).setSlot k
        (some { e.toSlot (s.swingAt e) with drive := .sent }) := by
  have hx : (s.entered e k).slot k = some (e.toSlot (s.swingAt e)) := by rw [State.slot_entered, if_pos rfl]
  have hlink : (s.entered e k).link e.dest = (s.link e.dest).withoutLevel e.handle := by rw [State.link_entered, if_pos rfl]
  rw [State.placeRamp_of_idle hx (by simp [WaitEntry.toSlot, hlink, Link.withoutLevel, ho])
    (by simp [WaitEntry.toSlot, hlink, Link.withoutLevel, hs]) (by simp only [WaitEntry.toSlot, hlink, Link.withoutLevel, hq])]
  simp only [State.rampMessage, WaitEntry.toSlot, hlink, State.params_entered, State.chan_entered, if_true]
  simp only [Link.sending, Link.withoutLevel, ho, State.admitRecord, Option.getD_some, Channel.input, Channel.outPort]

end

/-- Settles O45: the formulas by cases of P_in and of the site, the entry by its state before the first request is placed. -/
theorem admissionEntersTheLowestFreeSlot : Obligations.AdmissionEntersTheLowestFreeSlot := by
  refine ⟨fun s c preset => ⟨fun p hp => ?valid, fun hn => ?invalid, State.modelled_of_blocked, fun hg kind =>
    State.swing_of_group hg kind preset, fun hd => ?degree⟩, fun s e k hfree hlow => ?enters⟩
  case valid =>
    obtain ⟨hatt, hunder, hover⟩ := rangeAtt_spec (p - (s.params c.dstSite).il - c.target)
    rw [State.predicted_of_pIn hp, State.target_of_pIn hp]
    exact ⟨hatt, hunder, hover, rfl⟩
  case invalid =>
    rw [State.predicted_of_no_pIn hn, State.target_of_no_pIn hn]
    exact ⟨rfl, rfl, fun a ha => by rw [ha]; rfl, fun h => by rw [h]; rfl, rfl⟩
  case degree =>
    obtain ⟨hrise, hrestore, hadjust, hrest⟩ :=
      State.swing_of_degree (s := s) (by rw [SiteId.degree?_of_degree hd]; rfl) preset
    exact ⟨hrise, hrestore, by rw [hadjust, natCast_sub_add_sub], hrest⟩
  case enters =>
    have hu := State.admitEntry_eq_placeRamp (e := e) (State.freeSlot_of_lowest hfree hlow)
    have hx : (s.entered e k).slot k = some (e.toSlot (s.swingAt e)) := by rw [State.slot_entered, if_pos rfl]
    have hsame := placeRamp_only (s.entered e k) k
    have hother {j : SlotId} (hj : j ≠ k) : (s.entered e k).slot j = s.slot j := by rw [State.slot_entered, if_neg hj]
    obtain ⟨drive, hdrive, hslot⟩ := State.slot_placeRamp_self hx
    refine ⟨State.outer_admit s e, by rw [admitEntry_only], s.waitList_admitEntry e, by rw [admitEntry_only], by rw [admitEntry_only],
      by rw [admitEntry_only], by rw [admitEntry_only], s.entry_admitEntry e, fun h hh => ?_, ?_, fun q => ?_, fun m hm => ?_,
      drive, ?_, hdrive, fun o ho => ?busy, fun ho hq hs => ?idle⟩
    · rw [hu, hsame.chan, State.chan_entered, if_neg hh]
    · rw [hu, hsame.chan, State.chan_entered, if_pos rfl]; rfl
    · rw [hu, ← State.swingAt, ← s.swingOf_entered e k q, State.swingOf, hsame]; rfl
    · rw [hu, State.link_placeRamp_of_ne hx hm, State.link_entered, if_neg hm]
    · rw [hu, hslot]; rfl
    case busy =>
      have hp := State.placeRamp_entered_of_busy (k := k) ho
      rw [hp, State.slot_setSlot_self] at hslot
      rw [hu, hp]
      refine ⟨(congrArg Slot.drive (Option.some.inj hslot)).symm, fun j hj => ?_, ?_⟩
      · rw [State.slot_setSlot_of_ne _ _ _ hj, State.slot_setLink, hother hj]
      · rw [State.link_setSlot, State.link_setLink_self, Outstanding.detachIf]
        simp only [decide_eq_true_eq]
    case idle =>
      have hp := State.placeRamp_entered_of_idle (k := k) ho hq hs
      rw [hp, State.slot_setSlot_self] at hslot
      rw [hu, hp]
      refine ⟨(congrArg Slot.drive (Option.some.inj hslot)).symm, ?_, fun j hj => ?_⟩
      · rw [State.link_setSlot, State.link_setLink_self, Link.sending, hs]; rfl
      · rw [State.slot_setSlot_of_ne _ _ _ hj, State.slot_setLink, hother hj]

end Sys2Proof.Machine
end

section
/-!
SUPPORT. The admission pass (R84 to R92): the holds and the five conditions of admissibility, condition by condition; what an admission of
a pass leaves; the pass entry by entry.
-/

namespace Sys2Proof.Machine

open Sys2Proof

/-! ### Holds and the five conditions (R84, R142) -/

theorem State.holding_iff (s : State) (n : SiteId) (c : Cond) :
    s.holding n c = true ↔ ((s.cond n).flag c).live = true ∧ (s.params n).action c = .hold := by
  simp [State.holding]

/-- A transition is held by a condition at either site or by a freeze of either (R142). -/
theorem State.isHeld_iff (s : State) (h : Handle) :
    s.isHeld h = true ↔
      s.holding (s.chan h).srcSite .inLos = true ∨ s.holding (s.chan h).srcSite .inHigh = true ∨
      s.holding (s.chan h).dstSite .modFault = true ∨ s.holding (s.chan h).dstSite .monStale = true ∨
      s.frozen (s.chan h).srcSite = true ∨ s.frozen (s.chan h).dstSite = true := by
  simp only [State.isHeld, State.heldBetween, State.sourceHold, State.destHold, Bool.or_eq_true, or_assoc]

theorem State.freeSlot_isSome_iff (s : State) : s.freeSlot.isSome = true ↔ ∃ k, s.slot k = none := by
  simp [State.freeSlot, allSlots]

/-- T_D as a sum over the handles (R34). -/
theorem State.modelledTotal_eq (s : State) (d : Fin 8) :
    s.modelledTotal d = ((List.finRange 256).map fun h =>
      if (s.chan h).state.counts && decide ((s.chan h).dstSite = degreeSite d) then s.modelled (s.chan h) else 0).sum := by
  rw [State.modelledTotal, toList_eq_map_get, List.map_map]
  rfl

/-- The budget test binds at a line degree alone (R37, R84). -/
theorem State.withinBudget_iff (s : State) (n : SiteId) (w : Nat) :
    s.withinBudget n w = true ↔ ∀ d, degreeSite d = n → s.swingOf d = 0 ∨ s.swingOf d + w ≤ s.limit d := by
  unfold State.withinBudget
  by_cases hn : n.val < 8
  · rw [SiteId.degree?_of_degree hn]
    simp only [Bool.or_eq_true, decide_eq_true_eq]
    refine ⟨fun h d hd => ?_, fun h => h _ rfl⟩
    subst hd
    exact h
  · rw [SiteId.degree?_of_group (Nat.le_of_not_lt hn)]
    refine ⟨fun _ d hd => absurd ?_ hn, fun _ => rfl⟩
    subst hd
    exact d.isLt

/-- No older acting barrier waits for a site: each older barrier for it is held (R84, R86). -/
theorem State.barred_eq_false_iff (s : State) (older : List WaitEntry) (n : SiteId) :
    s.barred older n = false ↔ ∀ b ∈ older, b.dest = n → b.barrier = true → s.isHeld b.handle = true := by
  simp [State.barred, State.acting]

theorem State.admissible_iff (s : State) (older : List WaitEntry) (e : WaitEntry) :
    s.admissible older e = true ↔
      s.ownsAll e.handle = true ∧ s.freeSlot.isSome = true ∧ s.siteOn (s.chan e.handle).srcSite = true ∧
      s.siteOn (s.chan e.handle).dstSite = true ∧ s.isHeld e.handle = false ∧ s.withinBudget e.dest (s.swingAt e) = true ∧
      s.barred older e.dest = false := by
  simp only [State.admissible, State.swingAt, Bool.and_eq_true, Bool.not_eq_true', and_assoc]

theorem State.siteOn_iff (s : State) (n : SiteId) : s.siteOn n = true ↔ (s.site n).state = .enabled := decide_eq_true_iff

/-- A held entry is not admissible (R84). -/
theorem State.admissible_of_held {s : State} {e : WaitEntry} (h : s.isHeld e.handle = true) (older : List WaitEntry) :
    s.admissible older e = false := by
  simp [State.admissible, h]

/-! ### What an admission leaves -/

/-- From `s` to `t` transitions were admitted or completed: no condition, parameter, tap or map entry changed, nothing outside the engine,
and no channel's applied setting or ends (R91, R92). -/
structure State.admits (s t : State) : Prop where
  conds : t.conds = s.conds
  sites : t.sites = s.sites
  taps : t.taps = s.taps
  outer : t.outer = s.outer
  entry : ∀ x, t.entry x = s.entry x
  applied : ∀ h, (t.chan h).applied = (s.chan h).applied
  srcSite : ∀ h, (t.chan h).srcSite = (s.chan h).srcSite
  dstSite : ∀ h, (t.chan h).dstSite = (s.chan h).dstSite

theorem State.admits.trans {s t u : State} (a : s.admits t) (b : t.admits u) : s.admits u where
  conds := b.conds.trans a.conds
  sites := b.sites.trans a.sites
  taps := b.taps.trans a.taps
  outer := b.outer.trans a.outer
  entry x := (b.entry x).trans (a.entry x)
  applied h := (b.applied h).trans (a.applied h)
  srcSite h := (b.srcSite h).trans (a.srcSite h)
  dstSite h := (b.dstSite h).trans (a.dstSite h)

theorem State.admits_withWaits (s : State) (l : List WaitEntry) : s.admits { s with waitList := l } :=
  ⟨rfl, rfl, rfl, rfl, s.entry_withWaits l, fun _ => rfl, fun _ => rfl, fun _ => rfl⟩

/-- An admission changes no hold. -/
theorem State.admits.isHeld {s t : State} (a : s.admits t) (h : Handle) : t.isHeld h = s.isHeld h := by
  have hcond (n : SiteId) : t.cond n = s.cond n := congrArg (Vector.get · n) a.conds
  have hsite (n : SiteId) : t.site n = s.site n := congrArg (Vector.get · n) a.sites
  unfold State.isHeld
  dsimp only
  rw [a.srcSite, a.dstSite]
  exact State.heldBetween_congr (fun n d => by rw [hcond]) (fun n => by rw [hsite]) (fun n => by rw [hsite]) _ _

theorem State.chan_admitEntry_self {s : State} {e : WaitEntry} {k : SlotId} (hk : s.freeSlot = some k) :
    (s.admitEntry e).chan e.handle = s.admitRecord e k := by
  rw [State.admitEntry_eq_placeRamp hk, (placeRamp_only _ _).chan, State.chan_entered, if_pos rfl]

/-- A record field that an admission leaves to its own record stays in every record. -/
theorem State.field_admitEntry {α : Type} (f : Channel → α) (s : State) (e : WaitEntry)
    (hf : ∀ k, f (s.admitRecord e k) = f (s.chan e.handle)) (h : Handle) : f ((s.admitEntry e).chan h) = f (s.chan h) := by
  by_cases hh : h = e.handle
  · subst hh
    cases hk : s.freeSlot with
    | none => rw [State.admitEntry, hk]
    | some k => rw [State.chan_admitEntry_self hk, hf]
  · rw [chan_admit_of_ne s e hh]

theorem State.admits_admitEntry (s : State) (e : WaitEntry) : s.admits (s.admitEntry e) where
  conds := by rw [admitEntry_only]
  sites := by rw [admitEntry_only]
  taps := by rw [admitEntry_only]
  outer := State.outer_admit s e
  entry := s.entry_admitEntry e
  applied := State.field_admitEntry Channel.applied s e fun _ => rfl
  srcSite := State.field_admitEntry Channel.srcSite s e fun _ => rfl
  dstSite := State.field_admitEntry Channel.dstSite s e fun _ => rfl

/-! ### An ADJUST that completes in a pass (R92) -/

theorem adjustDone_journal (s : State) (e : WaitEntry) : s.adjustDone e = { s with journal := (s.adjustDone e).journal } := by
  unfold State.adjustDone
  split
  · rfl
  · exact handOver_journal _ _

/-- The record of an ADJUST that completed: range flags written, nothing pending (R92). -/
def State.metRecord (s : State) (e : WaitEntry) : Channel :=
  let g := s.target (s.chan e.handle) e.preset
  { s.chan e.handle with underRange := g.underRange, overRange := g.overRange, pending := none, desc := none }

theorem State.completeAdjust_adjustDone (s : State) (e : WaitEntry) :
    (s.adjustDone e).completeAdjust e = { s.setChan e.handle (s.metRecord e) with journal := (s.adjustDone e).journal } := by
  rw [adjustDone_journal]
  rfl

/-- Where the hand-over list has room, the completion hands over its postings and its record (R56, R58, R92). -/
theorem handOver_adjustDone {s : State} {e : WaitEntry} {d : Half} (hd : e.desc = some d)
    (hroom : recordCount s.journal.handOver < 256) :
    (s.adjustDone e).journal.handOver = s.journal.handOver ++
      (postings s.tick d .done (s.chan e.handle).clamped 0 e.handle true ++
        [.record { kind := .done, site := some (s.chan e.handle).dstSite, handle := some (BitVec.ofNat 8 e.handle.val), code := 3,
                   tick := s.tick, desc := some d }]) := by
  have hcount (r : Record) : recordCount (s.outcomePosts d .done (s.chan e.handle).clamped 0 e.handle ++ [.record r]) = 1 := rfl
  unfold State.adjustDone
  rw [hd]
  dsimp only
  rw [State.handOver_of_room (by rw [hcount]; omega)]
  rfl

theorem State.admits_completeAdjust (s : State) (e : WaitEntry) : s.admits ((s.adjustDone e).completeAdjust e) := by
  have houter : ((s.adjustDone e).completeAdjust e).outer = s.outer := by simp
  rw [State.completeAdjust_adjustDone] at houter ⊢
  have field {α : Type} (f : Channel → α) (hf : f (s.metRecord e) = f (s.chan e.handle)) (h : Handle) :
      f ((s.setChan e.handle (s.metRecord e)).chan h) = f (s.chan h) := by
    rw [State.chan_setChan]
    split
    · rename_i hh; rw [hh, hf]
    · rfl
  exact ⟨rfl, rfl, rfl, houter, State.entry_setChan s e.handle (s.metRecord e), field Channel.applied rfl, field Channel.srcSite rfl,
    field Channel.dstSite rfl⟩

theorem State.adjustMet_iff (s : State) (e : WaitEntry) :
    s.adjustMet e = true ↔ e.kind = .adjust ∧ (s.chan e.handle).applied = .att (s.target (s.chan e.handle) e.preset).att := by
  simp [State.adjustMet]

theorem State.admits_admitWaiting (s : State) (e : WaitEntry) : s.admits (s.admitWaiting e) := by
  unfold State.admitWaiting
  split
  · exact s.admits_completeAdjust e
  · exact s.admits_admitEntry e

theorem chan_admitWaiting_of_ne (s : State) (e : WaitEntry) {h : Handle} (hh : h ≠ e.handle) :
    (s.admitWaiting e).chan h = s.chan h := by
  unfold State.admitWaiting
  split
  · rw [State.completeAdjust_adjustDone]
    exact State.chan_setChan_of_ne _ _ _ hh
  · exact chan_admit_of_ne s e hh

/-! ### Skips (R86, R87) -/

theorem raiseSkips_handles (s : State) (n : SiteId) (l : List WaitEntry) :
    (s.raiseSkips n l).map (·.handle) = l.map (·.handle) := by
  simpa [Function.comp_def, WaitEntry.core] using congrArg (List.map (·.handle)) (raiseSkips_core s n l)

/-- A held entry gains no skip (R87). -/
theorem mem_raiseSkips_of_held {s : State} {e : WaitEntry} {l : List WaitEntry} (he : e ∈ l) (hh : s.isHeld e.handle = true)
    (n : SiteId) : e ∈ s.raiseSkips n l :=
  List.mem_map.mpr ⟨e, he, by simp [hh]⟩

/-! ### The pass, entry by entry (R89) -/

theorem State.passFrom_admissible {s : State} {older : List WaitEntry} {e : WaitEntry} (h : s.admissible older e = true)
    (rest : List WaitEntry) :
    s.passFrom older (e :: rest) = (s.admitWaiting e).passFrom ((s.admitWaiting e).raiseSkips e.dest older) rest := by
  rw [State.passFrom, if_pos h]

theorem State.passFrom_inadmissible {s : State} {older : List WaitEntry} {e : WaitEntry} (h : s.admissible older e = false)
    (rest : List WaitEntry) : s.passFrom older (e :: rest) = s.passFrom (older ++ [e]) rest := by
  rw [State.passFrom, if_neg (by simp [h])]

/-- The pass goes by entries none of which is admissible (R89). -/
theorem State.passFrom_append {s : State} {older mid : List WaitEntry}
    (h : ∀ a x b, mid = a ++ x :: b → s.admissible (older ++ a) x = false) (rest : List WaitEntry) :
    s.passFrom older (mid ++ rest) = s.passFrom (older ++ mid) rest := by
  induction mid generalizing older with
  | nil => rw [List.nil_append, List.append_nil]
  | cons e mid ih =>
    have hfirst : s.admissible older e = false := by simpa using h [] e mid rfl
    rw [List.cons_append, State.passFrom_inadmissible hfirst, ih fun a x b hm => ?_, List.append_assoc, List.singleton_append]
    rw [List.append_assoc, List.singleton_append]
    exact h (e :: a) x b (by rw [hm, List.cons_append])

/-- Where none is admissible all are kept. -/
theorem State.passFrom_of_none {s : State} {older l : List WaitEntry}
    (h : ∀ a x b, l = a ++ x :: b → s.admissible (older ++ a) x = false) :
    s.passFrom older l = { s with waitList := older ++ l } := by
  have := State.passFrom_append h []
  rwa [List.append_nil] at this

theorem State.admits_passFrom (l : List WaitEntry) (s : State) (older : List WaitEntry) : s.admits (s.passFrom older l) := by
  induction l generalizing s older with
  | nil => exact s.admits_withWaits older
  | cons e l ih =>
    cases ha : s.admissible older e with
    | true => rw [State.passFrom_admissible ha]; exact (s.admits_admitWaiting e).trans (ih _ _)
    | false => rw [State.passFrom_inadmissible ha]; exact ih s _

/-- A pass changes the records of the channels it tests alone. -/
theorem chan_passFrom {l : List WaitEntry} {h : Handle} (hl : ∀ e ∈ l, e.handle ≠ h) (s : State) (older : List WaitEntry) :
    (s.passFrom older l).chan h = s.chan h := by
  induction l generalizing s older with
  | nil => rfl
  | cons e l ih =>
    have ih := ih fun x hx => hl x (List.mem_cons_of_mem e hx)
    cases ha : s.admissible older e with
    | true =>
      rw [State.passFrom_admissible ha, ih, chan_admitWaiting_of_ne s e (hl e (List.mem_cons_self ..)).symm]
    | false => rw [State.passFrom_inadmissible ha, ih]

/-- What a pass keeps keeps its order (R89). -/
theorem passFrom_handles (l : List WaitEntry) (s : State) (older : List WaitEntry) :
    ((s.passFrom older l).waitList.map (·.handle)).Sublist ((older ++ l).map (·.handle)) := by
  induction l generalizing s older with
  | nil => rw [List.append_nil]; exact List.Sublist.refl _
  | cons e l ih =>
    cases ha : s.admissible older e with
    | true =>
      rw [State.passFrom_admissible ha]
      have hstep := ih (s.admitWaiting e) ((s.admitWaiting e).raiseSkips e.dest older)
      rw [List.map_append, raiseSkips_handles, ← List.map_append] at hstep
      exact hstep.trans (((List.sublist_cons_self e l).append_left older).map _)
    | false =>
      rw [State.passFrom_inadmissible ha]
      have hstep := ih s (older ++ [e])
      rwa [List.append_assoc] at hstep

/-- A held entry stays as it is (R89). -/
theorem mem_passFrom_of_held {e : WaitEntry} {l : List WaitEntry} {s : State} {older : List WaitEntry} (he : e ∈ older ++ l)
    (hh : s.isHeld e.handle = true) : e ∈ (s.passFrom older l).waitList := by
  induction l generalizing s older with
  | nil => rwa [List.append_nil] at he
  | cons x l ih =>
    cases ha : s.admissible older x with
    | true =>
      rw [State.passFrom_admissible ha]
      have hne : e ≠ x := by
        rintro rfl
        exact absurd (State.admissible_of_held hh older) (by simp [ha])
      have hheld : (s.admitWaiting x).isHeld e.handle = true := ((s.admits_admitWaiting x).isHeld _).trans hh
      refine ih ?_ hheld
      rcases List.mem_append.mp he with ho | hr
      · exact List.mem_append_left l (mem_raiseSkips_of_held ho hheld x.dest)
      · exact List.mem_append_right _ (List.mem_of_ne_of_mem hne hr)
    | false =>
      rw [State.passFrom_inadmissible ha]
      exact ih (by rwa [List.append_assoc]) hh

/-- A handle that neither what was kept nor what is still to test has does not wait after the pass. -/
theorem passFrom_handle_ne {h : Handle} {older l : List WaitEntry} (ho : ∀ x ∈ older, x.handle ≠ h) (hl : ∀ x ∈ l, x.handle ≠ h)
    (s : State) : ∀ x ∈ (s.passFrom older l).waitList, x.handle ≠ h := by
  intro x hx hxh
  obtain ⟨y, hy, hyh⟩ := List.mem_map.mp ((passFrom_handles l s older).subset (List.mem_map_of_mem hx))
  rcases List.mem_append.mp hy with hy | hy
  · exact ho y hy (hyh.trans hxh)
  · exact hl y hy (hyh.trans hxh)

end Sys2Proof.Machine
end

section
/-!
SUPPORT. The admission pass as a whole (R89 to R92): the oldest admissible entry is admitted, and the pass goes on.
-/

namespace Sys2Proof.Machine

open Sys2Proof

/-- Skips count up to 8, where an entry becomes a barrier (R86, R87). -/
theorem State.raiseSkips_eq (s : State) (n : SiteId) (l : List WaitEntry) :
    s.raiseSkips n l = l.map fun x => if x.dest = n ∧ s.isHeld x.handle = false
      then { x with skip := min 8 (x.skip + 1), barrier := x.barrier || decide (7 ≤ x.skip) } else x := by
  have hskip (k : Nat) : 8 ≤ k + 1 ↔ 7 ≤ k := by omega
  simp only [State.raiseSkips, hskip]

/-- An entry that no older one precedes and that is admitted or completed does not wait after the pass. -/
theorem State.pass_first {s : State} {e : WaitEntry} {rest : List WaitEntry} (hw : s.waitList = e :: rest)
    (hr : ∀ x ∈ rest, x.handle ≠ e.handle) (ha : s.admissible [] e = true) : ∀ x ∈ s.pass.waitList, x.handle ≠ e.handle := by
  rw [State.pass, hw, State.passFrom_admissible ha]
  exact passFrom_handle_ne (List.forall_mem_nil _) hr _

/-- The pass reaches its oldest admissible entry, wherever it stands, and goes on after it with the skips raised (R87, R89). -/
theorem State.pass_oldest {s : State} {older rest : List WaitEntry} {e : WaitEntry} (hw : s.waitList = older ++ e :: rest)
    (hold : ∀ a x b, older = a ++ x :: b → s.admissible a x = false) (ha : s.admissible older e = true) :
    s.pass = (s.admitWaiting e).passFrom (s.raiseSkips e.dest older) rest := by
  rw [State.pass, hw, State.passFrom_append (by simpa using hold), List.nil_append, State.passFrom_admissible ha,
    State.raiseSkips_congr (s.admits_admitWaiting e).isHeld]

/-- Settles O46: the conditions by their lemmas, the pass by induction over the entries it tests. -/
theorem passAdmitsOldestFirst : Obligations.PassAdmitsOldestFirst := by
  refine ⟨fun s => ⟨fun h => ?held, fun older e => ?admissible⟩, fun s => ?pass⟩
  case held => simp only [State.isHeld_iff, State.holding_iff]; rfl
  case admissible =>
    intro c total
    have hlimit (d : Fin 8) (hd : degreeSite d = e.dest) : s.limit d = (s.params e.dest).budget * total / 256 := by
      rw [State.limit, State.modelledTotal_eq, hd]
      congr 3
      refine List.map_congr_left fun h _ => ?_
      cases (s.chan h).state <;> simp [ChanState.counts]
    have hbudget : (∀ d, degreeSite d = e.dest → s.swingOf d = 0 ∨ s.swingOf d + s.swingAt e ≤ s.limit d) ↔
        ∀ d, degreeSite d = e.dest → s.swingOf d = 0 ∨ s.swingOf d + s.swingAt e ≤ (s.params e.dest).budget * total / 256 :=
      forall₂_congr fun d hd => by rw [hlimit d hd]
    rw [State.admissible_iff, State.ownsAll_iff, State.freeSlot_isSome_iff, State.siteOn_iff, State.siteOn_iff,
      State.withinBudget_iff, State.barred_eq_false_iff, hbudget]
    rfl
  case pass =>
    have hadmits : s.admits s.pass := s.admits_passFrom s.waitList []
    refine ⟨passFrom_handles s.waitList s [], fun e he hh => mem_passFrom_of_held he hh, fun h hh => chan_passFrom hh s [],
      hadmits.applied, hadmits.entry, hadmits.conds, hadmits.sites, hadmits.taps, hadmits.outer,
      fun e rest => State.pass_first, fun hnone => State.passFrom_of_none hnone, fun older e rest hw hold ha => ?oldest⟩
    rw [← State.raiseSkips_eq]
    refine ⟨s.admitWaiting e, State.pass_oldest hw hold ha, fun hnone => ?_, fun ho hr => ?_, fun hne => ?_, fun hk happ => ?met⟩
    · rw [State.pass_oldest hw hold ha, State.passFrom_of_none hnone]
    · rw [State.pass_oldest hw hold ha]
      refine passFrom_handle_ne (fun x hx => ?_) hr _
      obtain ⟨y, hy, hyx⟩ := List.mem_map.mp (raiseSkips_handles s e.dest older ▸ List.mem_map_of_mem hx)
      exact hyx ▸ ho y hy
    · rw [State.admitWaiting, if_neg]
      rw [State.adjustMet_iff, not_and_or]
      exact hne
    case met =>
      have hv : s.admitWaiting e = { s.setChan e.handle (s.metRecord e) with journal := (s.adjustDone e).journal } := by
        rw [State.admitWaiting, if_pos ((s.adjustMet_iff e).mpr ⟨hk, happ⟩), State.completeAdjust_adjustDone]
      rw [hv]
      exact ⟨State.chan_setChan_self s _ _, fun h hh => State.chan_setChan_of_ne s _ _ hh, rfl, rfl, rfl,
        fun d hd hroom => handOver_adjustDone hd hroom⟩

end Sys2Proof.Machine
end

section
/-!
What passes and what does nothing while the reset input is asserted (R52, R60, R122, R180), and the statement O17 settled with it.
-/

namespace Sys2Proof.Machine

open Sys2Proof

/-! ### The memory bus (R166, R169, R180) -/

/-- The lanes of a word built from four bytes are those bytes. -/
theorem lane_ofLanes (f : Nat → Byte) {i : Nat} (hi : i < 4) : lane (ofLanes (f 0) (f 1) (f 2) (f 3)) i = f i := by
  refine BitVec.eq_of_getLsbD_eq fun j hj => ?_
  simp only [ofLanes, lane, BitVec.getLsbD_append, BitVec.getLsbD_setWidth, BitVec.getLsbD_ushiftRight]
  interval_cases i
  · simp [hj]
  · simp [hj, show ¬ 8 + j < 8 by omega]
  · simp [hj, show ¬ 16 + j < 8 by omega, show ¬ 16 + j - 8 < 8 by omega, show 16 + j - 8 - 8 = j by omega]
  · simp [hj, show ¬ 24 + j < 8 by omega, show ¬ 24 + j - 8 < 8 by omega, show ¬ 24 + j - 8 - 8 < 8 by omega,
      show 24 + j - 8 - 8 - 8 = j by omega]

/-- A completed read carries the word on the lanes whose enables are asserted (R169). -/
theorem lane_readLanes (free : Nat) {en : BitVec 4} (w : Word) {i : Nat} (hi : i < 4) (he : en.getLsbD i = true) :
    lane (readLanes free en w) i = lane w i :=
  (lane_ofLanes (fun i => if en.getLsbD i then lane w i else Config.idleLane (4 * free + i)) hi).trans (if_pos he)

theorem Memory.lane_readWord (m : List Host.Cell) (a : Nat) {i : Nat} (hi : i < 4) :
    lane (Memory.readWord m a) i = Memory.read m (a + i) :=
  lane_ofLanes (fun i => Memory.read m (a + i)) hi

theorem State.busAccess_write {s : State} {b : BusCycle} (h : b.dir = .write) :
    s.busAccess b = { s with mem := Memory.writeLanes s.mem (4 * b.address.toNat) b.enables b.data } := by
  unfold State.busAccess
  rw [h]
  rfl

theorem State.busAccess_read {s : State} {b : BusCycle} (h : b.dir = .read) :
    ∃ r, s.busAccess b = { s with lastRead := some r, freeIndex := s.freeIndex + 1 } ∧
      ∀ i < 4, b.enables.getLsbD i = true → lane r i = Memory.read s.mem (4 * b.address.toNat + i) := by
  refine ⟨readLanes s.freeIndex b.enables (Memory.readWord s.mem b.byteAddress), ?_, fun i hi he => ?_⟩
  · unfold State.busAccess
    rw [h]
    rfl
  · rw [lane_readLanes _ _ hi he, Memory.lane_readWord _ _ hi, BusCycle.byteAddress]

/-! ### Every event while the reset input is asserted (R52, R60, R122, R180) -/

section
variable {s : State} (hs : s.inReset = true)
include hs

theorem State.cellWrite_inReset (o : Nat) (w : Word) (effect : State → State) :
    s.cellWrite o w effect = s.busAccess (cycleAt s.base o .write 0xF#4 w) := if_pos hs

theorem State.arrive_inReset (b : BusCycle) : s.arrive b = s.busAccess b := if_pos hs

theorem State.decideStep_inReset (applies : Half → Desc → Bool) (decision : State → Half → Desc → Decision) :
    s.decideStep applies decision = s := by
  have none : s.fetchedDesc = none := if_pos (.inl hs)
  unfold State.decideStep
  rw [none]

/-- The lock signal is followed, and gives no lock. -/
theorem State.assertLock_inReset : s.assertLock = { s with port := { s.port with
    lockPin := true, lock := if s.port.lockPin then s.port.lock else .off } } := by
  unfold State.assertLock
  cases hp : s.port.lockPin with
  | false => simp [hs]
  | true => simp [← hp]

theorem State.setupDone_inReset : s.setupDone = s := by
  unfold State.setupDone
  split
  · exact if_pos hs
  · rfl

end

/-- Settles O17, command by command: a controller cycle reaches the bus, the lock signal is followed, and the guard of every other event
fails. -/
theorem resetMasksEveryEvent : Obligations.ResetMasksEveryEvent := by
  intro c s hs passes cell
  have through {b : BusCycle} (h : exec c s = .next (s.busAccess b)) : passes b :=
    ⟨h, State.busAccess_write, State.busAccess_read⟩
  have stays {t : State} (h : t = s) : (.next t : Host.Outcome State Fault Refusal) = .next s := congrArg _ h
  have guarded {p : Prop} [Decidable p] {t : State} : (if s.inReset = false ∧ p then t else s) = s :=
    if_neg fun h => by rw [hs] at h; exact Bool.noConfusion h.1
  have cellPasses {o : Nat} {w : Word} {effect : State → State} (h : exec c s = .next (s.cellWrite o w effect)) : cell o w :=
    through (h.trans (congrArg _ (State.cellWrite_inReset hs o w effect)))
  have arrives {b : BusCycle} (h : exec c s = .next (s.arrive b)) : passes b :=
    through (h.trans (congrArg _ (State.arrive_inReset hs b)))
  cases c with
  | resetAssert _ => exact stays (if_pos hs)
  | resetRelease _ => trivial
  | tick => exact stays (if_pos hs)
  | go _ | halt _ | freeze _ | thaw _ | enable _ | disable _ | reload _ | unknownCommand _ _ | consumerUpdate _ | probeWrite _ =>
    exact cellPasses rfl
  | thresholdWrite r _ => cases r <;> exact cellPasses rfl
  | maskWrite r _ => cases r <;> exact cellPasses rfl
  | stickyWordRead w _ => cases w <;> exact through (congrArg _ (if_pos hs))
  | suppressedWrite _ _ _ | controllerCycle _ _ _ _ => exact arrives rfl
  | lockAssert => exact congrArg Host.Outcome.next (State.assertLock_inReset hs)
  | lockDeassert => rfl
  | lockBroken => exact stays guarded
  | arbiterGrant => exact stays (if_pos (.inl hs))
  | setup | adopt | retarget | release | mark | badKind | inFlightRefusal => exact stays (State.decideStep_inReset hs _ _)
  | setupFetchComplete => exact stays (State.setupDone_inReset hs)
  | postingDrain => exact stays (if_pos (.inl hs))
  | walkerPostingPlace => exact stays guarded
  | handoverPlace => exact stays (if_pos hs)
  | scanByte _ => exact stays (if_pos hs)
  | byteGapExpiry => exact stays guarded
  | staleTimerExpiry _ => exact stays guarded
  | ackReceived _ _ _ _ => exact stays (if_pos hs)
  | ackTimeout _ => exact stays guarded
  | pacingExpiry _ => exact stays guarded
  | holdOffExpiry _ => exact stays guarded

end Sys2Proof.Machine
end

section
/-!
The assertion of the reset input (R52, R65, R122, R180, R188): what it abandons, what of the port's posting reaches the SRAM, and the
statement O19 settled with it.
-/

namespace Sys2Proof.Machine

open Sys2Proof

/-- The state in which the memory-bus writes that had begun, of the posting that holds the port, have reached the SRAM (R180). -/
def State.begunWritten (s : State) (begun : Nat) : State :=
  match s.port.holder, s.queue with
  | .posting, p :: _ => s.sramWrites (p.writes.take begun)
  | _, _ => s

theorem State.begunWritten_of_posting {s : State} {p : Posting} {rest : List Posting} (hh : s.port.holder = .posting)
    (hq : s.queue = p :: rest) (begun : Nat) : s.begunWritten begun = s.sramWrites (p.writes.take begun) := by
  unfold State.begunWritten
  rw [hh, hq]

theorem State.begunWritten_of_not_posting {s : State} (hh : s.port.holder ≠ .posting) (begun : Nat) : s.begunWritten begun = s := by
  unfold State.begunWritten
  split
  · rename_i h _
    exact absurd h hh
  · rfl

theorem State.sramWrites_scan (s : State) (l : List (Nat × Word)) : (s.sramWrites l).scan = s.scan :=
  foldl_keeps (fun (t : State) (w : Nat × Word) => t.sramPut w.1 w.2) State.scan (fun _ _ => rfl) l s

theorem State.begunWritten_scan (s : State) (begun : Nat) : (s.begunWritten begun).scan = s.scan := by
  unfold State.begunWritten
  split
  · exact s.sramWrites_scan _
  · rfl

/-- The assertion lets the begun writes land and abandons the rest. -/
theorem State.assertReset_eq {s : State} (hs : s.inReset = false) (begun : Nat) :
    s.assertReset begun = (s.begunWritten begun).abandonAll s.port.waiting :=
  if_neg (by simp [hs])

theorem State.busAccess_scan (s : State) (b : BusCycle) : (s.busAccess b).scan = s.scan := by
  unfold State.busAccess
  split <;> rfl

/-- What cycles make of the SRAM depends on nothing but the SRAM. -/
theorem State.foldl_busAccess_mem {s t : State} (l : List BusCycle) (h : t.mem = s.mem) :
    (l.foldl State.busAccess t).mem = (l.foldl State.busAccess s).mem := by
  induction l generalizing s t with
  | nil => exact h
  | cons b l ih =>
    refine ih ?_
    unfold State.busAccess
    split
    · exact congrArg (Memory.writeLanes · b.byteAddress b.enables b.data) h
    · exact h

section
variable (s : State) (waiting : List BusCycle)

/-- The waiting cycles pass through, and nothing else reaches the SRAM (R180). -/
theorem State.abandonAll_mem : (s.abandonAll waiting).mem = (waiting.foldl State.busAccess s).mem := by
  unfold State.abandonAll
  dsimp only
  rw [foldl_keeps State.abandonMessage State.mem fun _ _ => rfl]
  exact State.foldl_busAccess_mem waiting rfl

/-- The frame in progress is abandoned, and nothing counts it (R52). -/
theorem State.abandonAll_scan : (s.abandonAll waiting).scan = { s.scan with inFrame := false, buffer := [] } := by
  have stands : (allSites.foldl State.abandonMessage (waiting.foldl State.busAccess { s with inReset := true })).scan = s.scan :=
    (foldl_keeps State.abandonMessage State.scan (fun _ _ => rfl) allSites _).trans
      (foldl_keeps State.busAccess State.scan State.busAccess_scan waiting _)
  unfold State.abandonAll
  dsimp only
  rw [stands]

/-- Every outstanding message is abandoned (R122). -/
theorem State.abandonAll_out (m : SiteId) : ((s.abandonAll waiting).link m).out = none := by
  have silent (u : State) : ((allSites.foldl State.abandonMessage u).link m).out = none :=
    congrArg Link.out (foldl_finRange_pointwise (get := State.link) (g := fun l => { l with out := none })
      (fun t i j => t.link_setLink i _ j) u m)
  have all := silent (waiting.foldl State.busAccess { s with inReset := true })
  unfold State.abandonAll
  dsimp only
  generalize allSites.foldl State.abandonMessage _ = u at all ⊢
  exact all

end

/-- While the reset input is asserted the attention line is inactive (R188). -/
theorem State.attention_inReset {s : State} (hs : s.inReset = true) : s.attention = false := by simp [State.attention, hs]

/-- Settles O19, by the assertion in two steps: the begun writes land, and all else is abandoned. -/
theorem resetAssertAbandonsWork : Obligations.ResetAssertAbandonsWork := by
  intro s begun hs
  obtain ⟨hreset, -⟩ := (State.sameButMemory_iff _ _).mp (State.sameButMemory_assertReset hs begun)
  have heq := State.assertReset_eq hs begun
  have hmem : (s.assertReset begun).mem = (s.port.waiting.foldl State.busAccess (s.begunWritten begun)).mem := by
    rw [heq, State.abandonAll_mem]
  have hscan : (s.assertReset begun).scan = { s.scan with inFrame := false, buffer := [] } := by
    rw [heq, State.abandonAll_scan, State.begunWritten_scan]
  have passed (hh : s.port.holder ≠ .posting) : (s.assertReset begun).mem = (s.port.waiting.foldl State.busAccess s).mem := by
    rw [hmem, State.begunWritten_of_not_posting hh]
  refine ⟨s.assertReset begun, rfl, hreset, s.assertReset_tick begun, by rw [heq]; rfl, by rw [heq]; rfl, by rw [heq]; rfl,
    by rw [heq]; rfl, by rw [heq]; rfl, by rw [heq]; rfl, by rw [heq]; rfl, by rw [hscan], by rw [hscan],
    fun m => by rw [heq]; exact State.abandonAll_out _ _ m, State.attention_inReset hreset, passed, fun hw hh => ?_,
    fun a w f => rfl, fun a w0 w1 w2 w3 => rfl, fun p rest hh hq => ?_⟩
  · rw [passed hh, hw]
    rfl
  · rw [hmem, State.begunWritten_of_posting hh hq]

end Sys2Proof.Machine
end

section
/-!
The stale timers (R48, R138, R140, R143): a tap that becomes stale, what the judgement of MON_STALE makes of it, and the statement O51
settled with it.
-/

namespace Sys2Proof.Machine

open Sys2Proof

/-- A tap whose stale timer has run out: stale, its timer stopped (R48). -/
def Tap.expired (x : Tap) : Tap := { x with stale := true, timer := none }

/-- The state in which a tap's stale timer has run out, before MON_STALE is judged. -/
def State.tapExpired (s : State) (t : TapId) : State := s.setTap t (s.tap t).expired

theorem State.stale_tapExpired (s : State) (t : TapId) :
    ∃ q, tapSite q = tapSite t ∧ ((s.tapExpired t).tap q).stale = true :=
  ⟨t, rfl, by rw [State.tapExpired, State.tap_setTap_self]; rfl⟩

theorem State.exec_staleTimerExpiry {s : State} {t : TapId} (hs : s.inReset = false) (ht : (s.tap t).timer = some 0) :
    exec (.staleTimerExpiry t) s = .next (s.finish ((s.tapExpired t).judgeMonStale (tapSite t))) :=
  congrArg Host.Outcome.next (if_pos ⟨hs, ht⟩)

/-- Settles O51: a live MON_STALE is confirmed and nothing happens, a clear one rises with all that a rise does. -/
theorem staleExpiryRaisesMonStale : Obligations.StaleExpiryRaisesMonStale := by
  intro s t hs ht n
  obtain ⟨-, confirmed, raised, -⟩ := judgeMonStale_acts (s.tapExpired t) n
  have taps {v : State} (h : v.taps = (s.tapExpired t).taps) :
      v.tap t = { s.tap t with stale := true, timer := none } ∧ ∀ q, q ≠ t → v.tap q = s.tap q := by
    have get (q : TapId) : v.tap q = (s.tapExpired t).tap q := congrArg (fun l => Vector.get l q) h
    exact ⟨(get t).trans (State.tap_setTap_self ..), fun q hq => (get q).trans (State.tap_setTap_of_ne _ _ _ hq)⟩
  refine ⟨_, State.exec_staleTimerExpiry hs ht, ?_⟩
  cases hl : (s.cond n).monStale.live with
  | true =>
    rw [confirmed hl (s.stale_tapExpired t)]
    obtain ⟨hself, hothers⟩ := taps (v := s.tapExpired t) rfl
    exact ⟨hself, hothers, rfl, rfl, rfl, rfl, rfl, State.entry_setTap s t _, fun _ _ => rfl, rfl, fun _ => ⟨rfl, rfl, rfl, rfl⟩,
      nofun⟩
  | false =>
    obtain ⟨⟨kept, hdue, hholds⟩, hrecord, hcond⟩ := raised hl (s.stale_tapExpired t)
    obtain ⟨houter, hsites, htaps, hchans, hwait, hcommitted, hentry, hconds, hstill, hreheld, -⟩ := kept
    obtain ⟨hself, hothers⟩ := taps htaps
    refine ⟨hself, hothers, houter, hchans, hwait, hcommitted, hsites, fun x => (hentry x).trans (State.entry_setTap s t _ x), hconds,
      hdue, nofun, fun _ => ⟨hcond, hrecord, hholds, hstill, fun hserved => ?_⟩⟩
    have w := hreheld hs hserved
    exact ⟨w.free, w.stopped, w.restarted, w.others, w.busy, w.idle⟩

end Sys2Proof.Machine
end

section
/-!
The scan link (R38 to R47): the check, the slice values of a frame, its judgement by Table 3-2, its taking into the tap record and its
offers by Table 3-4, and the statement O50 settled with them.
-/

namespace Sys2Proof.Machine

open Sys2Proof

/-! ### The check of a frame (R41) -/

theorem crcShift_eq (r : Half) : crcShift r = if r.getLsbD 15 then (r <<< 1) ^^^ 0x1021#16 else r <<< 1 := by
  unfold crcShift
  rw [BitVec.msb_eq_getLsbD_last]

/-- A byte shifted into the upper half. -/
theorem setWidth_shiftLeft_eight (b : Byte) : b.setWidth 16 <<< 8 = (b ++ 0#8 : Half) := by
  refine BitVec.eq_of_getLsbD_eq fun i hi => ?_
  have hright : (b ++ 0#8 : Half).getLsbD i = if i < 8 then (0#8).getLsbD i else b.getLsbD (i - 8) := BitVec.getLsbD_append
  rw [hright, BitVec.getLsbD_shiftLeft, BitVec.getLsbD_setWidth]
  by_cases h : i < 8
  · simp [h]
  · simp [h, hi, show i - 8 < 16 by omega]

/-- A byte enters the check register in eight shifts. -/
theorem crcByte_eq (r : Half) (b : Byte) : crcByte r b =
    (List.range 8).foldl (fun (r : Half) _ => if r.getLsbD 15 then (r <<< 1) ^^^ 0x1021#16 else r <<< 1)
      (r ^^^ (b ++ 0#8 : Half)) := by
  unfold crcByte
  simp only [crcShift_eq, setWidth_shiftLeft_eight]
  rfl

theorem crc16_append (l : List Byte) (b : Byte) : crc16 (l ++ [b]) = crcByte (crc16 l) b := List.foldl_concat ..

/-! ### The slice values of a frame (R39, Table 12-8) -/

theorem halves_getElem? {l : List Byte} {i : Nat} (h : 2 * i + 1 < l.length) :
    (halves l)[i]? = some (l.getD (2 * i + 1) 0 ++ l.getD (2 * i) 0 : Half) := by
  induction l using halves.induct generalizing i with
  | case1 lo hi rest ih =>
    cases i with
    | zero => rfl
    | succ i => exact ih (by simp only [List.length_cons] at h; omega)
  | case2 l hl =>
    match l, hl, h with
    | lo :: hi :: rest, hl, _ => exact absurd rfl (hl lo hi rest)

theorem fitTo_getElem? {n i : Nat} {l : List Half} {x : Half} (hi : i < n) (hx : l[i]? = some x) : (fitTo n l)[i]? = some x := by
  induction n generalizing i l with
  | zero => exact absurd hi (Nat.not_lt_zero i)
  | succ n ih =>
    cases l with
    | nil => simp at hx
    | cons y l =>
      cases i with
      | zero => exact hx
      | succ i => exact ih (Nat.lt_of_succ_lt_succ hi) hx

/-- Slice `i` of a whole frame is its bytes 3 + 2i and 4 + 2i, low byte first. -/
theorem frameSlices_get {f : List Byte} (hf : f.length = 646) (i : Fin 320) :
    (frameSlices f).get i = (frameByte f (4 + 2 * i.val) ++ frameByte f (3 + 2 * i.val) : Half) := by
  have inside : 2 * i.val + 1 < (f.drop 3).length := by
    rw [List.length_drop]
    omega
  have pair := fitTo_getElem? i.isLt (halves_getElem? inside)
  have byte (j : Nat) : (f.drop 3).getD j 0 = frameByte f (3 + j) := by simp [frameByte, List.getD_eq_getElem?_getD]
  rw [byte, byte, show 3 + (2 * i.val + 1) = 4 + 2 * i.val by omega] at pair
  obtain ⟨_, value⟩ := List.getElem?_eq_some_iff.mp pair
  exact value

/-! ### The judgement of a whole frame (R42, Table 3-2) -/

/-- A frame that is counted and discarded: a bad end byte, check or tap id. -/
def badFrame (f : List Byte) : Prop :=
  frameByte f 645 ≠ 0x7E#8 ∨ crc16 ((f.drop 1).take 642) ≠ (frameByte f 644 ++ frameByte f 643 : Half) ∨
    20 ≤ (frameByte f 1).toNat

theorem State.judge_of_bad {f : List Byte} (s : State) (h : badFrame f) : s.judge f = .discarded := by
  unfold State.judge
  split
  · rfl
  · rename_i hend
    split
    · rfl
    · rename_i hcheck
      have htap : 20 ≤ (frameByte f 1).toNat := (h.resolve_left hend).resolve_left hcheck
      exact dif_neg (Nat.not_lt.mpr htap)

/-- A frame with a good end byte, check and tap id is a duplicate or good, by the tap's last sequence. -/
theorem State.judge_of_not_bad {f : List Byte} (s : State) {t : TapId} (h : ¬badFrame f) (ht : (frameByte f 1).toNat = t.val) :
    s.judge f = if (s.tap t).lastSeq = some (frameByte f 2) then .duplicate else .good t := by
  obtain ⟨hend, h⟩ := not_or.mp h
  obtain ⟨hcheck, -⟩ := not_or.mp h
  have hid : (frameByte f 1).toNat < 20 := ht ▸ t.isLt
  have htap : (⟨(frameByte f 1).toNat, hid⟩ : TapId) = t := Fin.ext ht
  unfold State.judge
  rw [if_neg hend, if_neg hcheck, dif_pos hid, htap]

/-! ### The receiver (R38, R40, R43) -/

theorem satInc_eq (c : Half) : satInc c = if c.toNat = 65535 then c else c + 1 :=
  if_congr (BitVec.toNat_inj (y := 0xFFFF#16)).symm rfl rfl

/-- The receiver, hunting for the start of a frame. -/
def ScanRx.hunting (x : ScanRx) : ScanRx := { x with inFrame := false, buffer := [] }

section
variable {s : State} {b : Byte}

theorem State.exec_scanByte (hs : s.inReset = false) (b : Byte) : exec (.scanByte b) s = .next (s.takeByte b) :=
  congrArg Host.Outcome.next (if_neg (by simp [hs]))

theorem State.takeByte_hunting (h : s.scan.inFrame = false) : s.takeByte b =
    if b = 0x7E#8 then { s with scan := { s.scan with inFrame := true, buffer := [b] } } else s :=
  if_neg (by simp [h])

theorem State.takeByte_inFrame (h : s.scan.inFrame = true) : s.takeByte b =
    if (s.scan.buffer ++ [b]).length = 646 then s.endFrame (s.scan.buffer ++ [b])
    else { s with scan := { s.scan with buffer := s.scan.buffer ++ [b] } } := if_pos h

theorem State.exec_byteGapExpiry (hs : s.inReset = false) (h : s.scan.inFrame = true) : exec .byteGapExpiry s =
    .next { s with scan := { s.scan.hunting with gapCount := satInc s.scan.gapCount } } :=
  congrArg Host.Outcome.next (if_pos ⟨hs, h⟩)

variable {f : List Byte}

theorem State.endFrame_discarded (h : s.judge f = .discarded) :
    s.endFrame f = { s with scan := { s.scan.hunting with checkErrors := satInc s.scan.checkErrors } } := by
  unfold State.endFrame
  rw [h]
  rfl

theorem State.endFrame_duplicate (h : s.judge f = .duplicate) : s.endFrame f = { s with scan := s.scan.hunting } := by
  unfold State.endFrame
  rw [h]
  rfl

theorem State.endFrame_good {t : TapId} (h : s.judge f = .good t) :
    s.endFrame f = State.goodFrame { s with scan := s.scan.hunting } t f := by
  unfold State.endFrame
  rw [h]
  rfl

end

/-! ### The taking of a good frame (R46) -/

/-- A tap's record after a good frame: its values replaced whole and, at an ENABLED site, its stale flag clear and its timer anew. -/
def State.framedTap (s : State) (t : TapId) (f : List Byte) : Tap :=
  { slices := frameSlices f, received := true, lastSeq := some (frameByte f 2),
    stale := if (s.site (tapSite t)).state = .enabled then false else (s.tap t).stale,
    timer := if (s.site (tapSite t)).state = .enabled then some (s.params (tapSite t)).staleLimit else (s.tap t).timer }

theorem State.storeFrame_eq (s : State) (t : TapId) (f : List Byte) : s.storeFrame t f = s.setTap t (s.framedTap t f) := by
  unfold State.storeFrame State.framedTap State.siteOn
  by_cases h : (s.site (tapSite t)).state = .enabled <;> simp [h]

theorem State.goodFrame_eq (s : State) (t : TapId) (f : List Byte) : s.goodFrame t f =
    if (s.site (tapSite t)).state = .enabled then s.finish ((s.setTap t (s.framedTap t f)).offerFrame t (s.tap t).stale)
    else s.setTap t (s.framedTap t f) := by
  unfold State.goodFrame
  rw [s.storeFrame_eq]
  exact if_congr decide_eq_true_iff rfl rfl

/-! ### The offers of a good frame (R47, Table 3-4) -/

theorem isSourceTap_iff {t : TapId} : isSourceTap t = true ↔ t.val < 8 ∨ t.val = 16 ∨ t.val = 17 := by
  unfold isSourceTap
  simp only [Bool.or_eq_true, Bool.and_eq_true, decide_eq_true_eq]
  omega

/-- A source tap is the ingress tap of its site (Table 1-1). -/
theorem ingressTap_tapSite {t : TapId} (h : isSourceTap t = true) : ingressTap (tapSite t) = t := by
  revert t
  decide

theorem State.judgeMonStale_taps (s : State) (n : SiteId) : (s.judgeMonStale n).taps = s.taps := by
  have rise : (s.riseBase n .monStale .noLight).taps = s.taps := by
    obtain ⟨⟨-, -, htaps, -⟩, -⟩ := s.condRaised_riseBase n .monStale .noLight
    exact htaps
  rw [judgeMonStale_eq]
  split
  · rename_i hl
    obtain ⟨⟨-, -, htaps, -⟩, -⟩ := State.condCleared_fallBase (c := .monStale) .noLight hl
    split
    · rfl
    · exact htaps
  · split
    · exact rise
    · rfl

theorem State.feedsWaiting_iff (s : State) (t : TapId) :
    s.feedsWaiting t = true ↔ ∃ e ∈ s.waitList, (s.chan e.handle).srcTap = t := by
  simp [State.feedsWaiting]

/-- The offers in their order: MON_STALE when the tap was stale, then at a source tap the ingress conditions and the pass of a waiting
entry it feeds, at any other the Level Loop. -/
theorem State.offerFrame_eq (v : State) (t : TapId) (wasStale : Bool) : v.offerFrame t wasStale =
    let a := if wasStale = true then v.judgeMonStale (tapSite t) else v
    if isSourceTap t = true then
      let w := (a.judgeInLos (tapSite t) (tapLevel (v.tap t))).judgeInHigh (tapSite t) (tapLevel (v.tap t))
      w.due (w.feedsWaiting t)
    else a.levelLoop (tapSite t) := by
  have taps : (if wasStale = true then v.judgeMonStale (tapSite t) else v).taps = v.taps := by
    split
    · exact v.judgeMonStale_taps _
    · rfl
  have tap : State.tap (if wasStale = true then v.judgeMonStale (tapSite t) else v) t = v.tap t :=
    congrArg (fun l => Vector.get l t) taps
  unfold State.offerFrame
  dsimp only
  generalize (if wasStale = true then v.judgeMonStale (tapSite t) else v) = a at tap ⊢
  by_cases h : isSourceTap t = true
  · rw [if_pos h, if_pos h]
    unfold State.judgeIngress
    rw [ingressTap_tapSite h, tap]
  · rw [if_neg h, if_neg h]

/-- Settles O50: the check byte by byte, the offers in their order, and the receiver by its state, the frame's length and judgement. -/
theorem scanBytesMakeFrames : Obligations.ScanBytesMakeFrames := by
  refine ⟨⟨rfl, fun l b => ?_, by decide +kernel⟩, fun v t wasStale => ?_, fun s b hs => ?_⟩
  · rw [crc16_append, crcByte_eq]
  · intro n a isSource
    rw [v.offerFrame_eq]
    refine ⟨fun hsrc => ?_, fun hsrc => if_neg fun h => hsrc (isSourceTap_iff.mp h)⟩
    intro level w feeds
    have hfeeds : w.feedsWaiting t = decide feeds := Bool.eq_iff_iff.mpr ((w.feedsWaiting_iff t).trans decide_eq_true_iff.symm)
    exact (if_pos (isSourceTap_iff.mpr hsrc)).trans (congrArg w.due hfeeds)
  · intro x f sat hunting byte value bad
    have hsat (c : Half) : satInc c = sat c := satInc_eq c
    have ended (hin : x.inFrame = true) (hlen : f.length = 646) : exec (.scanByte b) s = .next (s.endFrame f) := by
      rw [State.exec_scanByte hs, State.takeByte_inFrame hin]
      exact congrArg Host.Outcome.next (if_pos hlen)
    refine ⟨fun hin hb => ?_, fun hin hb => ?_, fun hin hlen => ?_, fun hin hlen hbad => ?_, fun hin => ?_,
      fun t hin hlen hgood ht => ?_⟩
    · rw [State.exec_scanByte hs, State.takeByte_hunting hin, if_neg hb]
    · rw [State.exec_scanByte hs, State.takeByte_hunting hin, if_pos hb]
    · rw [State.exec_scanByte hs, State.takeByte_inFrame hin]
      exact congrArg Host.Outcome.next (if_neg hlen)
    · rw [ended hin hlen, State.endFrame_discarded (s.judge_of_bad hbad), hsat]
      rfl
    · rw [State.exec_byteGapExpiry hs hin, hsat]
      rfl
    · have hjudge := s.judge_of_not_bad hgood ht
      refine ⟨fun hseq => ?_, fun hseq => ?_⟩
      · rw [ended hin hlen, State.endFrame_duplicate (hjudge.trans (if_pos hseq))]
        rfl
      · have taken := (ended hin hlen).trans (congrArg Host.Outcome.next
          ((State.endFrame_good (hjudge.trans (if_neg hseq))).trans (State.goodFrame_eq _ t f)))
        refine ⟨State.setTap { s with scan := hunting } t (s.framedTap t f), fun hoff => taken.trans (congrArg _ (if_neg hoff)),
          fun hon => ⟨{ s with scan := hunting }, rfl, rfl, taken.trans (congrArg _ (if_pos hon))⟩, rfl, rfl, rfl,
          fun q hq => State.tap_setTap_of_ne _ _ _ hq, fun i => ?_, ?_, ?_, ?_, ?_⟩
        · rw [State.tap_setTap_self]
          exact frameSlices_get hlen i
        all_goals rw [State.tap_setTap_self]; rfl

end Sys2Proof.Machine
end

section
/-!
The end of an event (R89, R90, R159, R160): the swap of a quiet site, the swaps of all sites in turn, and the pass when one is due.
-/

namespace Sys2Proof.Machine

open Sys2Proof

/-! ### Quiet sites and freed slots (R159) -/

theorem State.slotAt_singleton_iff (s : State) (x : Slot) (n : SiteId) :
    s.slotAt x [n] = true ↔ (s.chan x.handle).srcSite = n ∨ (s.chan x.handle).dstSite = n := by
  unfold State.slotAt
  simp only [List.contains_eq_mem, List.mem_singleton, Bool.or_eq_true, decide_eq_true_eq]

theorem State.quiet_iff (s : State) (n : SiteId) :
    s.quiet n = true ↔ ∀ k x, s.slot k = some x → (s.chan x.handle).srcSite ≠ n ∧ (s.chan x.handle).dstSite ≠ n := by
  unfold State.quiet
  rw [List.all_eq_true]
  refine ⟨fun h k x hx => ?_, fun h k _ => ?_⟩
  · have hk := h k (List.mem_finRange k)
    rw [hx] at hk
    dsimp only at hk
    rw [Bool.not_eq_true', ← Bool.not_eq_true, s.slotAt_singleton_iff] at hk
    exact not_or.mp hk
  · cases hx : s.slot k with
    | none => rfl
    | some x =>
      dsimp only
      rw [Bool.not_eq_true', ← Bool.not_eq_true, s.slotAt_singleton_iff]
      exact not_or.mpr (h k x hx)

theorem State.freedAt_iff (before s : State) (n : SiteId) :
    before.freedAt s n = true ↔ ∃ k x, before.slot k = some x ∧ s.slot k = none ∧
      ((before.chan x.handle).srcSite = n ∨ (before.chan x.handle).dstSite = n) := by
  unfold State.freedAt
  rw [List.any_eq_true]
  constructor
  · rintro ⟨k, -, hk⟩
    cases hx : before.slot k with
    | none => rw [hx] at hk; exact Bool.noConfusion hk
    | some x =>
      rw [hx] at hk
      dsimp only at hk
      rw [Bool.and_eq_true, decide_eq_true_eq, before.slotAt_singleton_iff] at hk
      exact ⟨k, x, hx, hk⟩
  · rintro ⟨k, x, hx, hk⟩
    refine ⟨k, List.mem_finRange k, ?_⟩
    rw [hx]
    dsimp only
    rwa [Bool.and_eq_true, decide_eq_true_eq, before.slotAt_singleton_iff]

/-- Being quiet is a matter of the slots and the channels. -/
theorem State.quiet_congr {s t : State} (hslots : t.slots = s.slots) (hchans : t.chans = s.chans) (n : SiteId) :
    t.quiet n = s.quiet n := by
  unfold State.quiet State.slotAt State.slot State.chan
  rw [hslots, hchans]

/-- Where a site is quiet the holds at it touch no slot. -/
theorem State.rehold_of_quiet {s : State} {n : SiteId} (h : s.quiet n = true) : s.rehold [n] = s := by
  have stands (k : SlotId) : State.reholdSlot [n] s k = s := by
    unfold State.reholdSlot
    cases hx : s.slot k with
    | none => rfl
    | some x =>
      have apart : ¬s.slotAt x [n] = true := fun hat =>
        not_or.mpr ((s.quiet_iff n).mp h k x hx) ((s.slotAt_singleton_iff x n).mp hat)
      exact if_neg apart
  unfold State.rehold
  generalize s.slotsByHandle = l
  induction l with
  | nil => rfl
  | cons k l ih => rw [List.foldl_cons, stands, ih]

/-! ### One swap (R160) -/

/-- A site's record after the swap of its buffered copy. -/
def Site.swapped (x : Site) : Site := { x with active := x.buffered.getD x.active, buffered := none, reload := .idle }

/-- The RELOADED record of a site. -/
def State.reloadedItem (s : State) (n : SiteId) : Item := .record (siteRecord s.tick n .reloaded (s.site n).setupClamped)

/-- The swap of a quiet site writes its record, hands over RELOADED and makes a pass due, and touches no slot and no link. -/
theorem State.swap_of_quiet {s : State} {n : SiteId} (hb : (s.site n).buffered ≠ none) (hq : s.quiet n = true) :
    s.swap n = ((s.setSite n (s.site n).swapped).handOver [s.reloadedItem n]).due true := by
  obtain ⟨p, hp⟩ := Option.ne_none_iff_exists'.mp hb
  have quiet (x : Site) (l : List Item) : ((s.setSite n x).handOver l).quiet n = true :=
    (State.quiet_congr (State.handOver_slots _ _) (State.handOver_chans _ _) n).trans hq
  unfold State.swap Site.swapped
  dsimp only
  rw [hp]
  dsimp only
  rw [State.rehold_of_quiet (quiet _ _)]
  rfl

theorem State.swap_of_unbuffered {s : State} {n : SiteId} (hb : (s.site n).buffered = none) : s.swap n = s := by
  unfold State.swap
  dsimp only
  rw [hb]

/-! ### The swaps of an event's end (R159) -/

/-- After an event that began at `before`, a site is swapped: a copy waits in SWAP_PENDING, the event freed a slot at it, it is quiet. -/
def State.swapsAt (before s : State) (n : SiteId) : Bool :=
  decide ((s.site n).reload = .swapPending) && (s.site n).buffered.isSome && before.freedAt s n && s.quiet n

theorem State.swapsAt_iff (before s : State) (n : SiteId) :
    before.swapsAt s n = true ↔ (s.site n).reload = .swapPending ∧ (s.site n).buffered ≠ none ∧
      (∃ k x, before.slot k = some x ∧ s.slot k = none ∧
        ((before.chan x.handle).srcSite = n ∨ (before.chan x.handle).dstSite = n)) ∧
      ∀ k x, s.slot k = some x → (s.chan x.handle).srcSite ≠ n ∧ (s.chan x.handle).dstSite ≠ n := by
  unfold State.swapsAt
  rw [Bool.and_eq_true, Bool.and_eq_true, Bool.and_eq_true, decide_eq_true_eq, Option.isSome_iff_ne_none, before.freedAt_iff,
    s.quiet_iff, and_assoc, and_assoc]

theorem State.swapIfQuiet_eq (before s : State) (n : SiteId) : before.swapIfQuiet s n =
    if before.swapsAt s n = true then ((s.setSite n (s.site n).swapped).handOver [s.reloadedItem n]).due true else s := by
  unfold State.swapIfQuiet State.swapsAt
  cases hb : (s.site n).buffered with
  | none => rw [State.swap_of_unbuffered hb]; simp
  | some p =>
    cases hq : s.quiet n with
    | false => simp
    | true => rw [State.swap_of_quiet (by simp [hb]) hq]; simp

theorem State.outer_swapIfQuiet (before s : State) (n : SiteId) : (before.swapIfQuiet s n).outer = s.outer := by
  unfold State.swapIfQuiet
  split
  · exact s.outer_swap n
  · rfl

theorem State.handOver_journal_congr {s t : State} (h : t.journal = s.journal) (l : List Item) :
    (t.handOver l).journal = (s.handOver l).journal := by
  unfold State.handOver
  induction l generalizing s t with
  | nil => exact h
  | cons i l ih =>
    refine ih ?_
    unfold State.handOne
    rw [h]
    split
    · rfl
    · split <;> rfl

/-- The sites of `l` have been tested at the end of an event, from `v` on: those that swap at `v` have been swapped. -/
structure State.swept (before v u : State) (l : List SiteId) : Prop where
  only : u = { v with sites := u.sites, passDue := u.passDue, journal := u.journal }
  site : ∀ n, u.site n = if n ∈ l ∧ before.swapsAt v n = true then (v.site n).swapped else v.site n
  passDue : u.passDue = (v.passDue || l.any (before.swapsAt v))
  journal : u.journal = (v.handOver ((l.filter (before.swapsAt v)).map v.reloadedItem)).journal

theorem State.swept_nil (before v : State) : before.swept v v [] :=
  ⟨rfl, fun n => by simp, by simp, rfl⟩

section
variable {before v u : State} {l : List SiteId} {n : SiteId}

/-- A swap at one site changes nothing that the test of another looks at. -/
theorem State.swept.swapsAt (w : before.swept v u l) (hn : n ∉ l) : before.swapsAt u n = before.swapsAt v n := by
  have slots : u.slots = v.slots := by rw [w.only]
  have chans : u.chans = v.chans := by rw [w.only]
  have site : u.site n = v.site n := (w.site n).trans (if_neg fun h => hn h.1)
  have freed : before.freedAt u n = before.freedAt v n := by
    unfold State.freedAt State.slot
    rw [slots]
  unfold State.swapsAt
  rw [site, freed, State.quiet_congr slots chans]

/-- The test of one more site. -/
theorem State.swept.step (w : before.swept v u l) (hn : n ∉ l) : before.swept v (before.swapIfQuiet u n) (l ++ [n]) := by
  rw [before.swapIfQuiet_eq, w.swapsAt hn]
  cases hs : before.swapsAt v n with
  | false =>
    refine ⟨w.only, fun m => ?_, ?_, ?_⟩
    · refine (w.site m).trans (if_congr (and_congr_left fun hm => ?_) rfl rfl)
      have ne : m ≠ n := fun e => by rw [e, hs] at hm; exact Bool.noConfusion hm
      simp [ne]
    · simpa [hs] using w.passDue
    · simpa [hs] using w.journal
  | true =>
    rw [if_pos rfl]
    have site : u.site n = v.site n := (w.site n).trans (if_neg fun h => hn h.1)
    have tick : u.tick = v.tick := by rw [w.only]
    have item : u.reloadedItem n = v.reloadedItem n := by rw [State.reloadedItem, State.reloadedItem, site, tick]
    rw [site, item]
    refine ⟨?_, fun m => ?_, ?_, ?_⟩
    · rw [handOver_journal, w.only]
      rfl
    · rw [State.site_due, State.site_handOver, State.site_setSite]
      by_cases hm : m = n
      · simp [hm, hs]
      · simpa [hm] using w.site m
    · simp [hs]
    · have joined : u.journal = (v.handOver ((l.filter (before.swapsAt v)).map v.reloadedItem)).journal := w.journal
      refine (State.handOver_journal_congr (t := u.setSite n (v.site n).swapped) joined _).trans ?_
      rw [List.filter_append, List.map_append, List.filter_cons_of_pos hs]
      exact congrArg State.journal (List.foldl_append ..).symm

theorem State.swept_foldl {l₂ : List SiteId} (hl : (l ++ l₂).Nodup) (w : before.swept v u l) :
    before.swept v (l₂.foldl (State.swapIfQuiet before) u) (l ++ l₂) := by
  induction l₂ generalizing l u with
  | nil => rwa [List.append_nil]
  | cons n l₂ ih =>
    have hn : n ∉ l := fun h => (List.nodup_append.mp hl).2.2 n h n (List.mem_cons_self ..) rfl
    rw [List.append_cons] at hl ⊢
    exact ih hl (w.step hn)

end

/-- The swaps of an event's end. -/
theorem State.swept_allSites (before v : State) : before.swept v (allSites.foldl (State.swapIfQuiet before) v) allSites :=
  State.swept_foldl (List.nodup_finRange 10) (before.swept_nil v)

theorem recordCount_reloadedItems (s : State) (l : List SiteId) : recordCount (l.map s.reloadedItem) = l.length := by
  induction l with
  | nil => rfl
  | cons n l ih => rw [List.map_cons, recordCount_cons, ih, List.length_cons, Nat.add_comm]; rfl

/-- The swaps, while their records find room, hand RELOADED over for each. -/
theorem State.swept.journal_of_room {before v u : State} {l : List SiteId} (w : before.swept v u l)
    (hroom : recordCount v.journal.handOver + (l.filter (before.swapsAt v)).length ≤ 256) :
    u.journal = { v.journal with
      handOver := v.journal.handOver ++ (l.filter (before.swapsAt v)).map v.reloadedItem } := by
  rw [w.journal, State.handOver_of_room (by rwa [recordCount_reloadedItems])]

end Sys2Proof.Machine
end

section
/-!
The completion of a setup fetch (R155 to R158): what the end of the burst leaves, what each delivery writes, the next request, and the
statement O49 settled with them and the end of the event.
-/

namespace Sys2Proof.Machine

open Sys2Proof

/-! ### The request for the head of the fetch queue (R156) -/

theorem State.requestSetup_of_wanted {s : State}
    (h : s.setup.queue ≠ [] ∧ s.setup.burst = none ∧ Burst.setup ∉ s.port.requests) :
    s.requestSetup = { s with port := { s.port with requests := s.port.requests ++ [.setup] } } := if_pos h

theorem State.requestSetup_of_not_wanted {s : State}
    (h : ¬(s.setup.queue ≠ [] ∧ s.setup.burst = none ∧ Burst.setup ∉ s.port.requests)) : s.requestSetup = s := if_neg h

/-- A burst is requested once. -/
theorem State.requestSetup_requestSetup (s : State) : s.requestSetup.requestSetup = s.requestSetup := by
  by_cases h : s.setup.queue ≠ [] ∧ s.setup.burst = none ∧ Burst.setup ∉ s.port.requests
  · rw [State.requestSetup_of_wanted h]
    exact State.requestSetup_of_not_wanted fun g => g.2.2 (List.mem_append_right _ (List.mem_singleton_self _))
  · rw [State.requestSetup_of_not_wanted h, State.requestSetup_of_not_wanted h]

theorem State.requestSetup_setup (s : State) : s.requestSetup.setup = s.setup := by
  unfold State.requestSetup
  split <;> rfl

/-- The requests of the part after the Site Store's own, with no burst running. -/
theorem State.requestSetup_port {s : State} (hb : s.setup.burst = none) : s.requestSetup.port = { s.port with
    requests := if s.setup.queue ≠ [] ∧ Burst.setup ∉ s.port.requests then s.port.requests ++ [.setup] else s.port.requests } := by
  by_cases h : s.setup.queue ≠ [] ∧ Burst.setup ∉ s.port.requests
  · rw [State.requestSetup_of_wanted ⟨h.1, hb, h.2⟩, if_pos h]
  · rw [State.requestSetup_of_not_wanted fun g => h ⟨g.1, g.2.2⟩, if_neg h]

/-! ### What an end of a fetch leaves as it is -/

/-- The state in which the grant of a site's setup burst has ended and the site has left the fetch queue (R156). -/
def State.fetchEnded (s : State) (n : SiteId) : State :=
  { s.endGrant with setup := { queue := s.setup.queue.erase n, burst := none } }

/-- A site stands in the fetch queue, at the tail when it was not in it (R156). -/
def State.inFetch (s : State) (n : SiteId) : State :=
  if s.setup.queue.contains n then s else { s with setup := { s.setup with queue := s.setup.queue ++ [n] } }

theorem State.joinFetch_eq (s : State) (n : SiteId) : s.joinFetch n = (s.inFetch n).requestSetup := rfl

/-- A site that has left a queue that held it once joins it again at the tail. -/
theorem State.inFetch_queue {s : State} {n : SiteId} (h : n ∉ s.setup.queue) :
    (s.inFetch n).setup.queue = s.setup.queue ++ [n] := by
  unfold State.inFetch
  rw [if_neg (by simpa using h)]

theorem SameButFetch.taps {s t : State} (h : SameButFetch s t) : t.taps = s.taps := by rw [h]

theorem SameButFetch.journal {s t : State} (h : SameButFetch s t) : t.journal = s.journal := by rw [h]

theorem SameButFetch.passDue {s t : State} (h : SameButFetch s t) : t.passDue = s.passDue := by rw [h]

theorem SameButFetch.site {s t : State} (h : SameButFetch s t) (n : SiteId) : t.site n = s.site n := by
  rw [h]
  rfl

theorem inFetch_only (s : State) (n : SiteId) : SameButFetch s (s.inFetch n) := by
  unfold State.inFetch
  split <;> rfl

/-- From `s` to `u` a fetch of site `n` has ended and been delivered, and the next burst is not yet requested: the fetch queue and burst,
the grant, the records of the site and its taps, the hand-over list and the pass due are all that has changed. -/
structure State.delivered (s u : State) (n : SiteId) : Prop where
  only : u = { s with setup := u.setup, port := s.endGrant.port, sites := u.sites, taps := u.taps, journal := u.journal,
                      passDue := u.passDue }
  outer : u.outer = { s.outer with setup := u.setup, port := s.endGrant.port }
  burst : u.setup.burst = none
  site : ∀ m, m ≠ n → u.site m = s.site m

theorem State.delivered_fetchEnded (s : State) (n : SiteId) : s.delivered (s.fetchEnded n) n :=
  ⟨rfl, rfl, rfl, fun _ _ => rfl⟩

section
variable {s u : State} {n : SiteId}

theorem State.delivered.setSite (w : s.delivered u n) (x : Site) : s.delivered (u.setSite n x) n :=
  ⟨by rw [w.only]; rfl, w.outer, w.burst, fun m hm => (State.site_setSite_of_ne _ _ _ hm).trans (w.site m hm)⟩

theorem State.delivered.setTap (w : s.delivered u n) (t : TapId) (x : Tap) : s.delivered (u.setTap t x) n :=
  ⟨by rw [w.only]; rfl, w.outer, w.burst, w.site⟩

theorem State.handOver_setup (s : State) (l : List Item) : (s.handOver l).setup = s.setup := by rw [handOver_journal]

theorem State.delivered.handOver (w : s.delivered u n) (l : List Item) : s.delivered (u.handOver l) n :=
  ⟨by rw [handOver_journal, w.only], by rw [State.outer_handOver, State.handOver_setup]; exact w.outer,
    by rw [State.handOver_setup]; exact w.burst, fun m hm => (State.site_handOver _ _ m).trans (w.site m hm)⟩

theorem State.delivered.due (w : s.delivered u n) (b : Bool) : s.delivered (u.due b) n :=
  ⟨by rw [w.only]; rfl, w.outer, w.burst, w.site⟩

theorem State.delivered.inFetch (w : s.delivered u n) : s.delivered (u.inFetch n) n := by
  unfold State.inFetch
  split
  · exact w
  · exact ⟨by rw [w.only], congrArg (fun o : Outer => { o with setup := { u.setup with queue := u.setup.queue ++ [n] } }) w.outer,
      w.burst, w.site⟩

/-- What every delivery leaves as it is. -/
def State.fetchKept (s v : State) (n : SiteId) : Prop :=
  v.setup.burst = none ∧ v.port.holder = .none ∧ v.chans = s.chans ∧ v.slots = s.slots ∧ v.waitList = s.waitList ∧
  v.links = s.links ∧ v.conds = s.conds ∧ v.committed = s.committed ∧ (∀ m, m ≠ n → v.site m = s.site m) ∧
  (∀ y, v.entry y = s.entry y) ∧ v.mem = s.mem ∧ v.queue = s.queue

theorem State.delivered.kept (w : s.delivered u n) : s.fetchKept u n := by
  have only := w.only
  refine ⟨w.burst, ?_, ?_, ?_, ?_, ?_, ?_, ?_, w.site, fun y => ?_, ?_, ?_⟩
  case refine_8 => rw [only]; cases y <;> rfl
  all_goals rw [only]
  rfl

theorem State.fetchKept.requestSetup (w : s.fetchKept u n) : s.fetchKept u.requestSetup n := by
  unfold State.requestSetup
  split
  · exact w
  · exact w

/-- Everything outside the engine is as it was, but for the fetch queue, the port that is free again and the next request. -/
def State.fetchRequests (s v : State) : Prop :=
  v.outer = { s.outer with
    setup := v.setup,
    port := { s.endGrant.port with
      requests := if v.setup.queue ≠ [] ∧ Burst.setup ∉ s.port.requests then s.port.requests ++ [.setup] else s.port.requests } }

theorem State.delivered.requests (w : s.delivered u n) : s.fetchRequests u.requestSetup := by
  have port : u.port = s.endGrant.port := congrArg Outer.port w.outer
  have requested : u.requestSetup.outer = { u.outer with port := u.requestSetup.port } := by
    unfold State.requestSetup
    split <;> rfl
  unfold State.fetchRequests
  rw [requested, State.requestSetup_port w.burst, State.requestSetup_setup, w.outer, port]
  rfl

end

/-! ### The enabling of a LOADING site (R51, R155, R157) -/

/-- A site ENABLED with its loaded values, before its ingress conditions are judged: its stale timers run and ENABLED is handed over. -/
def State.loaded (s : State) (n : SiteId) (p : Params) (mask : Half) : State :=
  (((s.setSite n { s.site n with active := p, setupClamped := decide (mask ≠ 0), clampMask := mask, state := .enabled }).startStale
    (ingressTap n) n).startStale (egressTap n) n).handOver [.record (siteRecord s.tick n .enabled (decide (mask ≠ 0)))]

theorem State.enabled_eq (s : State) (n : SiteId) (p : Params) (mask : Half) :
    s.enabled n p mask = (s.loaded n p mask).judgeIngress n := rfl

theorem State.tap_startStale (s : State) (t : TapId) (n : SiteId) (q : TapId) :
    (s.startStale t n).tap q = if q = t then { s.tap q with timer := some (s.params n).staleLimit } else s.tap q := by
  unfold State.startStale
  rw [State.tap_setTap]
  split
  · rename_i h
    rw [h]
  · rfl

theorem egressTap_ne_ingressTap (n : SiteId) : egressTap n ≠ ingressTap n := by
  revert n
  decide

theorem State.tap_handOver (s : State) (l : List Item) (t : TapId) : (s.handOver l).tap t = s.tap t := by
  rw [handOver_journal]
  rfl

section
variable (s : State) (n : SiteId) (p : Params) (mask : Half)

theorem State.delivered.loaded {s u : State} {n : SiteId} (w : s.delivered u n) (p : Params) (mask : Half) :
    s.delivered (u.loaded n p mask) n :=
  (((w.setSite _).setTap _ _).setTap _ _).handOver _

theorem State.loaded_setup : (s.loaded n p mask).setup = s.setup := State.handOver_setup _ _

theorem State.loaded_passDue : (s.loaded n p mask).passDue = s.passDue := State.handOver_passDue _ _

theorem State.site_loaded : (s.loaded n p mask).site n =
    { s.site n with active := p, setupClamped := decide (mask ≠ 0), clampMask := mask, state := .enabled } :=
  (State.site_handOver _ _ n).trans (State.site_setSite_self s n _)

/-- Both taps of the site have their stale timers started anew. -/
theorem State.tap_loaded (t : TapId) : (s.loaded n p mask).tap t =
    if tapSite t = n then { s.tap t with timer := some p.staleLimit } else s.tap t := by
  have limit (x : Site) : ((s.setSite n x).params n).staleLimit = x.active.staleLimit :=
    congrArg (fun y : Site => y.active.staleLimit) (State.site_setSite_self s n x)
  have kept (x : Site) (q : TapId) : (((s.setSite n x).startStale q n).params n).staleLimit = x.active.staleLimit := limit x
  unfold State.loaded
  rw [State.tap_handOver, State.tap_startStale, State.tap_startStale, kept, limit, State.tap_setSite]
  by_cases hi : t = ingressTap n
  · simp [hi, tapSite_eq_iff]
  · by_cases he : t = egressTap n
    · simp [he, egressTap_ne_ingressTap, tapSite_eq_iff]
    · simp [hi, he, tapSite_eq_iff]

theorem State.loaded_handOver (hroom : recordCount s.journal.handOver < 256) : (s.loaded n p mask).journal.handOver =
    s.journal.handOver ++ [.record (siteRecord s.tick n .enabled (decide (mask ≠ 0)))] := by
  unfold State.loaded
  rw [State.handOver_of_room]
  · rfl
  · exact hroom

end

/-! ### The reload of an ENABLED site (R158, R160) -/

/-- A site's record with the values of a reload in its buffered copy. -/
def Site.buffering (x : Site) (p : Params) (mask : Half) : Site :=
  { x with setupClamped := decide (mask ≠ 0), clampMask := mask, buffered := some p, reload := .swapPending }

section
variable {s u : State} {n : SiteId} {p : Params} {mask : Half}

theorem State.reloaded_of_refetch (h : (s.site n).refetch = true) : s.reloaded n p mask = ((s.setSite n
    { s.site n with setupClamped := decide (mask ≠ 0), clampMask := mask, refetch := false }).inFetch n).requestSetup := if_pos h

theorem State.quiet_setSite (s : State) (n : SiteId) (x : Site) (m : SiteId) : (s.setSite n x).quiet m = s.quiet m :=
  State.quiet_congr rfl rfl m

theorem State.reloaded_of_not_refetch (h : (s.site n).refetch = false) : s.reloaded n p mask =
    if s.quiet n = true then (s.setSite n ((s.site n).buffering p mask)).swap n
    else s.setSite n ((s.site n).buffering p mask) := by
  unfold State.reloaded
  exact (if_neg (by simp [h])).trans (if_congr (by rw [State.quiet_setSite]) rfl rfl)

theorem State.reloaded_of_busy (h : (s.site n).refetch = false) (hq : s.quiet n = false) :
    s.reloaded n p mask = s.setSite n ((s.site n).buffering p mask) :=
  (State.reloaded_of_not_refetch h).trans (if_neg (by simp [hq]))

/-- At a quiet site the copy is swapped in at once. -/
theorem State.reloaded_of_quiet (h : (s.site n).refetch = false) (hq : s.quiet n = true) : s.reloaded n p mask =
    ((s.setSite n ((s.site n).buffering p mask).swapped).handOver
      [.record (siteRecord s.tick n .reloaded (decide (mask ≠ 0)))]).due true := by
  have site := State.site_setSite_self s n ((s.site n).buffering p mask)
  have swapped := State.swap_of_quiet (s := s.setSite n ((s.site n).buffering p mask)) (by rw [site]; exact nofun)
    ((s.quiet_setSite n _ n).trans hq)
  have twice : (s.setSite n ((s.site n).buffering p mask)).setSite n ((s.site n).buffering p mask).swapped =
      s.setSite n ((s.site n).buffering p mask).swapped := by
    unfold State.setSite
    simp
  rw [State.reloadedItem, site, twice] at swapped
  rw [State.reloaded_of_not_refetch h, if_pos hq]
  exact swapped

end

/-! ### The delivery by the site's state (R156) -/

section
variable {s u : State} {b : SetupBurst}

/-- What is delivered, then the next request, then the end of the event. -/
theorem State.exec_setupFetchComplete {v : State} (hs : s.inReset = false) (hh : s.port.holder = .setupBurst)
    (hb : s.setup.burst = some b) (hv : (s.fetchEnded b.site).deliver b = v) :
    exec .setupFetchComplete s = .next (s.finish v.requestSetup) := by
  refine congrArg Host.Outcome.next ?_
  unfold State.setupDone
  rw [hh, hb]
  exact (if_neg (by simp [hs])).trans (congrArg (fun u => s.finish (State.requestSetup u)) hv)

/-- A delivery that has made the next request itself. -/
theorem State.exec_setupFetchComplete_of_requested {v : State} (hs : s.inReset = false) (hh : s.port.holder = .setupBurst)
    (hb : s.setup.burst = some b) (hv : (s.fetchEnded b.site).deliver b = v.requestSetup) :
    exec .setupFetchComplete s = .next (s.finish v.requestSetup) := by
  rw [State.exec_setupFetchComplete hs hh hb hv, State.requestSetup_requestSetup]

theorem State.deliver_loading (hd : b.discard = false) (hx : (u.site b.site).state = .loading) :
    u.deliver b = u.enabled b.site (loadSetup b.words).1 (loadSetup b.words).2 := by
  unfold State.deliver
  dsimp only
  rw [hd, hx]
  rfl

theorem State.deliver_enabled (hd : b.discard = false) (hx : (u.site b.site).state = .enabled) :
    u.deliver b = u.reloaded b.site (loadSetup b.words).1 (loadSetup b.words).2 := by
  unfold State.deliver
  dsimp only
  rw [hd, hx]
  rfl

theorem State.deliver_discarded (hd : b.discard = true) : u.deliver b =
    if (u.site b.site).state = .loading then u.joinFetch b.site else u := if_pos hd

end

/-- The detail of a SITE record tells whether a value of the record loaded was replaced (R192). -/
theorem siteRecord_loaded (tick : Word) (n : SiteId) (mask : Half) {e : SiteEvent} (he : e ≠ .disabled) :
    siteRecord tick n e (decide (mask ≠ 0)) =
      { kind := .site, site := some n, code := e.code, tick, detail := if mask = 0 then 0 else 1 } := by
  by_cases hm : mask = 0 <;> cases e
  all_goals simp [siteRecord, hm] at he ⊢

section
variable {s : State} {b : SetupBurst} (hs : s.inReset = false) (hh : s.port.holder = .setupBurst) (hb : s.setup.burst = some b)
include hs hh hb

/-- A LOADING site becomes ENABLED, and its ingress conditions are judged before the next request (R51, R157). -/
theorem State.fetch_enables (hd : b.discard = false) (hx : (s.site b.site).state = .loading) :
    let v := (s.fetchEnded b.site).loaded b.site (loadSetup b.words).1 (loadSetup b.words).2
    exec .setupFetchComplete s = .next (s.finish ((v.judgeIngress b.site).requestSetup)) ∧ s.delivered v b.site ∧
    v.setup.queue = s.setup.queue.erase b.site := by
  have hv : (s.fetchEnded b.site).deliver b = State.judgeIngress _ b.site := State.deliver_loading hd hx
  exact ⟨State.exec_setupFetchComplete hs hh hb hv, (s.delivered_fetchEnded b.site).loaded _ _,
    congrArg SetupFetch.queue (State.loaded_setup _ _ _ _)⟩

/-- An ENABLED site's reload under the refetch mark delivers nothing, and the site joins the fetch queue again (R158). -/
theorem State.fetch_refetches (hd : b.discard = false) (hx : (s.site b.site).state = .enabled)
    (hr : (s.site b.site).refetch = true) : ∃ v : State, exec .setupFetchComplete s = .next (s.finish v) ∧ s.fetchKept v b.site ∧
      s.fetchRequests v ∧ v.taps = s.taps ∧ v.journal = s.journal ∧ v.passDue = s.passDue ∧
      v.site b.site = { s.site b.site with
        setupClamped := decide ((loadSetup b.words).2 ≠ 0), clampMask := (loadSetup b.words).2, refetch := false } ∧
      (s.setup.queue.Nodup → v.setup.queue = s.setup.queue.erase b.site ++ [b.site]) := by
  have hv := (State.deliver_enabled (u := s.fetchEnded b.site) hd hx).trans (State.reloaded_of_refetch hr)
  have w := ((s.delivered_fetchEnded b.site).setSite { s.site b.site with
    setupClamped := decide ((loadSetup b.words).2 ≠ 0), clampMask := (loadSetup b.words).2, refetch := false }).inFetch
  have only := (inFetch_only ((s.fetchEnded b.site).setSite b.site { s.site b.site with
    setupClamped := decide ((loadSetup b.words).2 ≠ 0), clampMask := (loadSetup b.words).2, refetch := false }) b.site).trans
      (requestSetup_only _)
  refine ⟨_, State.exec_setupFetchComplete_of_requested hs hh hb hv, w.kept.requestSetup, w.requests, only.taps, only.journal,
    only.passDue, (only.site _).trans (State.site_setSite_self ..), fun hnodup => ?_⟩
  rw [State.requestSetup_setup]
  exact State.inFetch_queue hnodup.not_mem_erase

/-- An ENABLED site's reload is swapped in at once where the site is quiet (R158, R160). -/
theorem State.fetch_swaps (hd : b.discard = false) (hx : (s.site b.site).state = .enabled) (hr : (s.site b.site).refetch = false)
    (hq : s.quiet b.site = true) : ∃ v : State, exec .setupFetchComplete s = .next (s.finish v) ∧ s.fetchKept v b.site ∧
      s.fetchRequests v ∧ v.taps = s.taps ∧ v.setup.queue = s.setup.queue.erase b.site ∧
      v.site b.site = ((s.site b.site).buffering (loadSetup b.words).1 (loadSetup b.words).2).swapped ∧ v.passDue = true ∧
      (recordCount s.journal.handOver < 256 → v.journal.handOver = s.journal.handOver ++
        [.record (siteRecord s.tick b.site .reloaded (decide ((loadSetup b.words).2 ≠ 0)))]) := by
  have quiet : (s.fetchEnded b.site).quiet b.site = true := (State.quiet_congr rfl rfl _).trans hq
  have hv := (State.deliver_enabled (u := s.fetchEnded b.site) hd hx).trans (State.reloaded_of_quiet hr quiet)
  have w := (((s.delivered_fetchEnded b.site).setSite
    ((s.site b.site).buffering (loadSetup b.words).1 (loadSetup b.words).2).swapped).handOver
      [.record (siteRecord s.tick b.site .reloaded (decide ((loadSetup b.words).2 ≠ 0)))]).due true
  have only := requestSetup_only ((((s.fetchEnded b.site).setSite b.site
    ((s.site b.site).buffering (loadSetup b.words).1 (loadSetup b.words).2).swapped).handOver
      [.record (siteRecord s.tick b.site .reloaded (decide ((loadSetup b.words).2 ≠ 0)))]).due true)
  refine ⟨_, State.exec_setupFetchComplete hs hh hb hv, w.kept.requestSetup, w.requests,
    only.taps.trans (State.handOver_taps _ _), ?_, (only.site _).trans ?_, only.passDue.trans (Bool.or_true _), fun hroom =>
    (congrArg Journal.handOver only.journal).trans ?_⟩
  · rw [State.requestSetup_setup]
    exact congrArg SetupFetch.queue (State.handOver_setup _ _)
  · rw [State.site_due, State.site_handOver, State.site_setSite_self]
  · rw [State.due_journal, State.handOver_of_room (by exact hroom)]
    rfl

/-- An ENABLED site's reload waits in the buffered copy where the site is not quiet (R158). -/
theorem State.fetch_buffers (hd : b.discard = false) (hx : (s.site b.site).state = .enabled) (hr : (s.site b.site).refetch = false)
    (hq : s.quiet b.site = false) : ∃ v : State, exec .setupFetchComplete s = .next (s.finish v) ∧ s.fetchKept v b.site ∧
      s.fetchRequests v ∧ v.taps = s.taps ∧ v.setup.queue = s.setup.queue.erase b.site ∧
      v.site b.site = (s.site b.site).buffering (loadSetup b.words).1 (loadSetup b.words).2 ∧ v.passDue = s.passDue ∧
      v.journal = s.journal := by
  have busy : (s.fetchEnded b.site).quiet b.site = false := (State.quiet_congr rfl rfl _).trans hq
  have hv := (State.deliver_enabled (u := s.fetchEnded b.site) hd hx).trans (State.reloaded_of_busy hr busy)
  have w := (s.delivered_fetchEnded b.site).setSite ((s.site b.site).buffering (loadSetup b.words).1 (loadSetup b.words).2)
  have only := requestSetup_only ((s.fetchEnded b.site).setSite b.site
    ((s.site b.site).buffering (loadSetup b.words).1 (loadSetup b.words).2))
  exact ⟨_, State.exec_setupFetchComplete hs hh hb hv, w.kept.requestSetup, w.requests, only.taps,
    congrArg SetupFetch.queue (State.requestSetup_setup _), (only.site _).trans (State.site_setSite_self ..), only.passDue,
    only.journal⟩

/-- A burst whose purpose was abandoned delivers nothing; a site that is LOADING again joins the fetch queue (R156). -/
theorem State.fetch_discards (hd : b.discard = true) : ∃ v : State, exec .setupFetchComplete s = .next (s.finish v) ∧
    s.fetchKept v b.site ∧ s.fetchRequests v ∧ v.site b.site = s.site b.site ∧ v.taps = s.taps ∧ v.journal = s.journal ∧
    v.passDue = s.passDue ∧ ((s.site b.site).state ≠ .loading → v.setup.queue = s.setup.queue.erase b.site) ∧
    ((s.site b.site).state = .loading → s.setup.queue.Nodup → v.setup.queue = s.setup.queue.erase b.site ++ [b.site]) := by
  have discards := State.deliver_discarded (u := s.fetchEnded b.site) hd
  have start := s.delivered_fetchEnded b.site
  by_cases hl : (s.site b.site).state = .loading
  · have hv := discards.trans (if_pos hl)
    have only := (inFetch_only (s.fetchEnded b.site) b.site).trans (requestSetup_only _)
    refine ⟨_, State.exec_setupFetchComplete_of_requested hs hh hb hv, start.inFetch.kept.requestSetup, start.inFetch.requests,
      only.site _, only.taps, only.journal, only.passDue, fun hn => absurd hl hn, fun _ hnodup => ?_⟩
    rw [State.requestSetup_setup]
    exact State.inFetch_queue hnodup.not_mem_erase
  · have hv := discards.trans (if_neg hl)
    have only := requestSetup_only (s.fetchEnded b.site)
    exact ⟨_, State.exec_setupFetchComplete hs hh hb hv, start.kept.requestSetup, start.requests, only.site _, only.taps,
      only.journal, only.passDue, fun _ => congrArg SetupFetch.queue (State.requestSetup_setup _), fun hon => absurd hon hl⟩

end

/-! ### The statement -/

/-- Settles O49: the end of an event by the swaps of all sites in turn, and each delivery by the state it leaves before the next
request. -/
theorem setupFetchDeliversByTheSitesState : Obligations.SetupFetchDeliversByTheSitesState := by
  refine ⟨fun w => ⟨fun hq hb hr => State.requestSetup_of_wanted ⟨hq, hb, hr⟩, fun h => State.requestSetup_of_not_wanted ?_⟩,
    fun before v => ?_, fun s b hs hh hb => ?_⟩
  · rintro ⟨hq, hb, hr⟩
    rcases h with h | h | h
    · exact hq h
    · exact h hb
    · exact hr h
  · intro freed quiet swaps reloaded
    have hswaps (n : SiteId) : before.swapsAt v n = true ↔ swaps n := before.swapsAt_iff v n
    have w := before.swept_allSites v
    refine ⟨allSites.foldl (State.swapIfQuiet before) v, rfl, ?_, by rw [w.only]; rfl, ?_, fun n p hn hp => ?_, fun n hn => ?_,
      allSites.filter (before.swapsAt v), (List.pairwise_lt_finRange 10).filter _, fun n => ?_, fun hroom => w.journal_of_room hroom⟩
    · exact foldl_keeps _ _ before.outer_swapIfQuiet _ v
    · rw [w.passDue, Bool.or_eq_true, List.any_eq_true]
      exact or_congr_right ⟨fun ⟨n, _, hn⟩ => ⟨n, (hswaps n).mp hn⟩, fun ⟨n, hn⟩ =>
        ⟨n, List.mem_finRange n, (hswaps n).mpr hn⟩⟩
    · rw [w.site, if_pos ⟨List.mem_finRange n, (hswaps n).mpr hn⟩, Site.swapped, hp]
      rfl
    · exact (w.site n).trans (if_neg fun h => hn ((hswaps n).mp h.2))
    · rw [List.mem_filter, hswaps]
      exact and_iff_right (List.mem_finRange n)
  · intro n x p mask record room freePort requests common
    have records {e : SiteEvent} (he : e ≠ .disabled) : Item.record (siteRecord s.tick n e (decide (mask ≠ 0))) = record e.code :=
      congrArg Item.record (siteRecord_loaded s.tick n mask he)
    refine ⟨fun hd hx => ?_, fun hd hx hr => State.fetch_refetches hs hh hb hd hx hr, fun hd hx hr => ?_, fun hd hx => ?_⟩
    · obtain ⟨hexec, w, hqueue⟩ := State.fetch_enables hs hh hb hd hx
      refine ⟨_, hexec, w.kept, w.outer, hqueue, State.loaded_passDue .., State.site_loaded .., State.tap_loaded _ _ _ _,
        fun hroom => (State.loaded_handOver (s.fetchEnded n) n p mask hroom).trans ?_⟩
      exact congrArg (fun i => s.journal.handOver ++ [i]) (records (by decide))
    · cases hq : s.quiet n with
      | true =>
        obtain ⟨v, hexec, hkept, hrequests, htaps, hqueue, hsite, hdue, hrecord⟩ := State.fetch_swaps hs hh hb hd hx hr hq
        exact ⟨v, hexec, hkept, hrequests, htaps, hqueue, fun _ => ⟨hsite, hdue, fun hroom => (hrecord hroom).trans
          (congrArg (fun i => s.journal.handOver ++ [i]) (records (by decide)))⟩, nofun⟩
      | false =>
        obtain ⟨v, hexec, hkept, hrequests, htaps, hqueue, hbuffered⟩ := State.fetch_buffers hs hh hb hd hx hr hq
        exact ⟨v, hexec, hkept, hrequests, htaps, hqueue, nofun, fun _ => hbuffered⟩
    · obtain ⟨v, hexec, hkept, hrequests, hsite, htaps, hjournal, hdue, hleft, hagain⟩ := State.fetch_discards hs hh hb hd
      exact ⟨v, hexec, hkept, hrequests, hsite, htaps, hjournal, hdue, fun hoff => hleft (by rw [hoff]; decide), hagain⟩

end Sys2Proof.Machine
end

section
/-!
The commands of the command cell (R60 to R64, R157, R158): the answer of each in the terms of its rule; and O21, O22, O25, O27, O28.
-/

namespace Sys2Proof.Machine

open Sys2Proof

/-! ### A write of the command cell (R60) -/

/-- Out of reset a command is taken in the state in which its own write waits for the SRAM. -/
theorem State.cellWrite_command {s : State} (hin : s.inReset = false) (word : Word) (command : State → State × CmdResult)
    (code : Byte) : s.cellWrite 0x0000 word (fun t => State.logCommand (command t) code) =
      State.logCommand (command (s.withCellWrite 0 word)) code := by
  unfold State.cellWrite
  dsimp only
  rw [hin, if_neg (by decide)]
  rfl

theorem siteOperand_of_site {operand : BitVec 24} {n : SiteId} (hn : operand.toNat = n.val) : siteOperand operand = some n := by
  unfold siteOperand
  rw [dif_pos (by omega)]
  exact congrArg some (Fin.ext hn)

theorem siteOperand_of_above {operand : BitVec 24} (h : 9 < operand.toNat) : siteOperand operand = none := dif_neg (by omega)

/-! ### GO (R61) -/

theorem validPoolOffset_iff (o : Nat) : validPoolOffset o = true ↔ o % 32 = 0 ∧ 0x4000 ≤ o ∧ o ≤ 0x7FE0 := by
  unfold validPoolOffset
  rw [decide_eq_true_eq]
  tauto

section
variable {s : State} {operand : BitVec 24}

theorem State.commandGo_bad (h : validPoolOffset operand.toNat = false) : s.commandGo operand = (s, .badOperand) := by
  simp [State.commandGo, h]

variable (h : validPoolOffset operand.toNat = true)
include h

theorem State.commandGo_idle (hw : s.walker.state = .idle) :
    s.commandGo operand = (s.startWalk (operand.setWidth 16) s.walker.heads, .accepted) := by
  simp [State.commandGo, h, hw]

theorem State.commandGo_queued (hw : s.walker.state ≠ .idle) (hl : s.walker.heads.length < 4) : s.commandGo operand =
    ({ s with walker := { s.walker with heads := s.walker.heads ++ [operand.setWidth 16] } }, .accepted) := by
  simp [State.commandGo, h, hw, hl]

theorem State.commandGo_full (hw : s.walker.state ≠ .idle) (hl : 4 ≤ s.walker.heads.length) :
    s.commandGo operand = (s, .queueFull) := by
  simp [State.commandGo, h, hw, Nat.not_lt.mpr hl]

end

/-- Settles O21: the four answers of GO. -/
theorem goStartsOrQueuesAWalk : Obligations.GoStartsOrQueuesAWalk := by
  intro s operand hin t valid head
  have go : exec (.go operand) s = .next (State.logCommand (t.commandGo operand) 0x01) :=
    congrArg Host.Outcome.next (State.cellWrite_command hin _ (fun t => t.commandGo operand) _)
  have ok (hv : valid) : validPoolOffset operand.toNat = true := (validPoolOffset_iff _).mpr hv
  refine ⟨fun hv hw => ?_, fun hv hw hl => ?_, fun hv hw hl => ?_, fun hv => ?_⟩
  · rw [go, State.commandGo_idle (s := t) (ok hv) hw]
    rfl
  · rw [go, State.commandGo_queued (s := t) (ok hv) hw hl]
    rfl
  · rw [go, State.commandGo_full (s := t) (ok hv) hw hl]
    rfl
  · rw [go, State.commandGo_bad (Bool.eq_false_iff.mpr fun g => hv ((validPoolOffset_iff _).mp g))]
    rfl

/-! ### HALT and an unknown code (R60, R62) -/

/-- A code that is none of the seven is UNKNOWN. -/
theorem State.command_unknown {code : Byte} (h : knownCommandCode code = false) (s : State) (operand : BitVec 24) :
    s.command code operand = (s, .unknown) := by
  have hc : ¬(1 ≤ code.toNat ∧ code.toNat ≤ 7) := of_decide_eq_false h
  unfold State.command
  split
  case h_8 => rfl
  all_goals omega

/-- Settles O22: HALT by the walker's state and its halt flag, and the unknown code. -/
theorem haltEndsTheWalk : Obligations.HaltEndsTheWalk := by
  intro s operand hin
  have halt {r : State × CmdResult} (hr : (s.withCellWrite 0 (0x02#8 ++ operand)).commandHalt = r) :
      exec (.halt operand) s = .next (State.logCommand r 0x02) :=
    hr ▸ congrArg Host.Outcome.next (State.cellWrite_command hin _ State.commandHalt _)
  refine ⟨fun hw => halt (if_pos hw), fun hw hh => halt ((if_neg hw).trans (if_neg ?_)),
    fun hw hh => halt ((if_neg hw).trans (if_pos hh)), fun code hc => ?_⟩
  · exact fun g => Bool.false_ne_true (hh.symm.trans g)
  · refine (congrArg Host.Outcome.next (State.cellWrite_command hin _ (fun t => t.command code operand) _)).trans ?_
    rw [State.command_unknown hc]
    rfl

/-! ### ENABLE and RELOAD (R156, R157, R158) -/

/-- Joining the fetch queue touches the queue and the burst requests, and nothing else (R156). -/
theorem State.joinFetch_only (s : State) (n : SiteId) : s.joinFetch n = { s with
    setup := { s.setup with queue := if n ∈ s.setup.queue then s.setup.queue else s.setup.queue ++ [n] },
    port := { s.port with requests :=
      if s.setup.burst = none ∧ Burst.setup ∉ s.port.requests then s.port.requests ++ [.setup] else s.port.requests } } := by
  have hq : s.inFetch n = { s with
      setup := { s.setup with queue := if n ∈ s.setup.queue then s.setup.queue else s.setup.queue ++ [n] } } := by
    unfold State.inFetch
    by_cases h : n ∈ s.setup.queue <;> simp [h]
  have hne : (if n ∈ s.setup.queue then s.setup.queue else s.setup.queue ++ [n]) ≠ [] := by
    split
    · exact List.ne_nil_of_mem ‹_›
    · simp
  rw [State.joinFetch_eq, hq]
  by_cases h : s.setup.burst = none ∧ Burst.setup ∉ s.port.requests
  · rw [if_pos h]
    exact State.requestSetup_of_wanted ⟨hne, h⟩
  · rw [if_neg h]
    exact State.requestSetup_of_not_wanted fun g => h g.2

/-- Settles O25: ENABLE by the operand and the site's state. -/
theorem enableStartsLoading : Obligations.EnableStartsLoading := by
  intro s operand hin c
  have enable : exec (.enable operand) s = .next (State.logCommand (c.commandEnable operand) 0x05) :=
    congrArg Host.Outcome.next (State.cellWrite_command hin _ (fun t => t.commandEnable operand) _)
  refine ⟨fun hop => ?_, fun n hn => ⟨fun hs => ?_, fun hs => ?_⟩⟩
  · rw [enable, State.commandEnable, siteOperand_of_above hop]
    rfl
  · have hc : (c.site n).state ≠ .disabled := hs
    rw [enable, State.commandEnable, siteOperand_of_site hn]
    dsimp only
    rw [if_neg hc]
    rfl
  · have hc : (c.site n).state = .disabled := hs
    rw [enable, State.commandEnable, siteOperand_of_site hn]
    dsimp only
    rw [if_pos hc, State.enableSite, State.joinFetch_only]
    exact ⟨_, rfl, State.site_setSite_self _ _ _, fun m hm => State.site_setSite_of_ne _ _ _ hm, rfl, rfl, rfl, rfl⟩

theorem State.burstRuns_iff (s : State) (n : SiteId) : s.burstRuns n = true ↔ ∃ b, s.setup.burst = some b ∧ b.site = n := by
  unfold State.burstRuns
  cases s.setup.burst <;> simp

/-- A RELOAD out of FETCHING makes the site FETCHING, discards a buffered copy, and joins the fetch queue (R158). -/
theorem State.reloadSite_of_settled {s : State} {n : SiteId} (h : (s.site n).reload ≠ .fetching) :
    s.reloadSite n = (s.setSite n { s.site n with reload := .fetching, buffered :=
      if (s.site n).reload = .idle then (s.site n).buffered else none }).joinFetch n := by
  unfold State.reloadSite
  cases hr : (s.site n).reload with
  | idle => simp [hr]
  | fetching => exact absurd hr h
  | swapPending => simp [hr]

/-- A RELOAD in FETCHING marks a refetch when the site's burst runs (R158). -/
theorem State.reloadSite_of_fetching {s : State} {n : SiteId} (h : (s.site n).reload = .fetching) :
    s.reloadSite n = if s.burstRuns n = true then s.setSite n { s.site n with refetch := true } else s := by
  simp only [State.reloadSite, h]

/-- Settles O27: RELOAD by the operand, the site's state and its reload state. -/
theorem reloadActsByReloadState : Obligations.ReloadActsByReloadState := by
  intro s operand hin c
  have reload : exec (.reload operand) s = .next (State.logCommand (c.commandReload operand) 0x07) :=
    congrArg Host.Outcome.next (State.cellWrite_command hin _ (fun t => t.commandReload operand) _)
  refine ⟨fun hop => ?_, fun n hn => ?_⟩
  · rw [reload, State.commandReload, siteOperand_of_above hop]
    rfl
  have enabled (he : (s.site n).state = .enabled) : exec (.reload operand) s = .next ((c.reloadSite n).withLog 7 1) := by
    have hc : (c.site n).state = .enabled := he
    rw [reload, State.commandReload, siteOperand_of_site hn]
    dsimp only
    rw [if_pos hc]
    rfl
  refine ⟨fun hs => ?_, fun he hr hb => ?_, fun he hr hb => ?_, fun he hr => ?_⟩
  · have hc : (c.site n).state ≠ .enabled := hs
    rw [reload, State.commandReload, siteOperand_of_site hn]
    dsimp only
    rw [if_neg hc]
    rfl
  · have hf : (c.site n).reload = .fetching := hr
    have hruns : c.burstRuns n ≠ true := fun g => by
      obtain ⟨b, hsome, hsite⟩ := (c.burstRuns_iff n).mp g
      exact hb b hsome hsite
    rw [enabled he, State.reloadSite_of_fetching hf, if_neg hruns]
  · have hf : (c.site n).reload = .fetching := hr
    rw [enabled he, State.reloadSite_of_fetching hf, if_pos ((c.burstRuns_iff n).mpr hb)]
    rfl
  · have hf : (c.site n).reload ≠ .fetching := hr
    rw [enabled he, State.reloadSite_of_settled hf, State.joinFetch_only]
    exact ⟨_, rfl, State.site_setSite_self _ _ _, fun m hm => State.site_setSite_of_ne _ _ _ hm, rfl, rfl, rfl, rfl⟩

/-! ### Refused commands (R60) -/

/-- A command either is ACCEPTED or leaves the state as it is. -/
def harmless (s : State) (r : State × CmdResult) : Prop := r.2 = .accepted ∨ r.1 = s

theorem commandGo_harmless (s : State) (x : BitVec 24) : harmless s (s.commandGo x) := by
  unfold State.commandGo
  split
  · exact .inr rfl
  · dsimp only
    split
    · exact .inl rfl
    · split
      · exact .inl rfl
      · exact .inr rfl

theorem commandHalt_harmless (s : State) : harmless s s.commandHalt := by
  unfold State.commandHalt
  split
  · exact .inr rfl
  · split <;> exact .inl rfl

theorem commandFreeze_harmless (s : State) (x : BitVec 24) : harmless s (s.commandFreeze x) := by
  unfold State.commandFreeze
  split
  · exact .inr rfl
  · exact .inl rfl

theorem commandThaw_harmless (s : State) (x : BitVec 24) : harmless s (s.commandThaw x) := by
  unfold State.commandThaw
  split
  · exact .inr rfl
  · exact .inl rfl

theorem commandEnable_harmless (s : State) (x : BitVec 24) : harmless s (s.commandEnable x) := by
  unfold State.commandEnable
  split
  · exact .inr rfl
  · split
    · exact .inl rfl
    · exact .inr rfl

theorem commandDisable_harmless (s : State) (x : BitVec 24) : harmless s (s.commandDisable x) := by
  unfold State.commandDisable
  split
  · exact .inr rfl
  · split
    · exact .inr rfl
    · exact .inl rfl

theorem commandReload_harmless (s : State) (x : BitVec 24) : harmless s (s.commandReload x) := by
  unfold State.commandReload
  split
  · exact .inr rfl
  · split
    · exact .inl rfl
    · exact .inr rfl

theorem command_harmless (s : State) (code : Byte) (x : BitVec 24) : harmless s (s.command code x) := by
  unfold State.command
  split
  · exact commandGo_harmless s x
  · exact commandHalt_harmless s
  · exact commandFreeze_harmless s x
  · exact commandThaw_harmless s x
  · exact commandEnable_harmless s x
  · exact commandDisable_harmless s x
  · exact commandReload_harmless s x
  · exact .inr rfl

/-- The eight commands of the command cell run by their code. -/
theorem exec_of_command {s : State} (hin : s.inReset = false) {c : Instr} {code : Byte} {operand : BitVec 24}
    (hc : (c, code) ∈ [(Instr.go operand, 1#8), (.halt operand, 2#8), (.freeze operand, 3#8), (.thaw operand, 4#8),
      (.enable operand, 5#8), (.disable operand, 6#8), (.reload operand, 7#8), (.unknownCommand code operand, code)]) :
    exec c s = .next (State.logCommand ((s.withCellWrite 0 (code ++ operand)).command code operand) code) := by
  simp only [List.mem_cons, Prod.mk.injEq, List.not_mem_nil, or_false] at hc
  have run (code : Byte) := congrArg (Host.Outcome.next (φ := Fault) (ρ := Refusal))
    (State.cellWrite_command hin (code ++ operand) (fun t => t.command code operand) code)
  obtain ⟨rfl, rfl⟩ | ⟨rfl, rfl⟩ | ⟨rfl, rfl⟩ | ⟨rfl, rfl⟩ | ⟨rfl, rfl⟩ | ⟨rfl, rfl⟩ | ⟨rfl, rfl⟩ | ⟨rfl, -⟩ := hc
  all_goals exact run _

/-- Settles O28: a command that is not ACCEPTED leaves the state in which its write waits, but for the log. -/
theorem refusedCommandsChangeNothing : Obligations.RefusedCommandsChangeNothing := by
  intro s t operand code c hin hc h hr
  rw [exec_of_command hin hc] at h
  cases h
  generalize s.withCellWrite 0 (code ++ operand) = w at hr ⊢
  rcases command_harmless w code operand with ha | ha
  · exact absurd (congrArg CmdResult.code ha) hr
  · unfold State.logCommand State.withLog
    dsimp only
    rw [ha]

/-! ### MARK, BAD_KIND and IN_FLIGHT_REFUSAL (R75, R76) -/

/-- Settles O38: three decisions that leave the state their burst left. -/
theorem markAndUndecidedKindsTouchNothing : Obligations.MarkAndUndecidedKindsTouchNothing := by
  intro s off d hf
  have tick : s.enterDeciding.tick = s.tick := (enterDeciding_placing s).tick
  refine ⟨fun hin hk => ?_, fun hin hk => ?_, fun hin => ?_⟩
  · refine congrArg Host.Outcome.next ((State.decideStep_of_fetched hf (State.isKind_of hin hk) _).trans ?_)
    rw [← tick]
    rfl
  · have hbad : d.knownKind = false := by
      refine decide_eq_false fun hknown => ?_
      rcases hk with h0 | h6
      · rw [h0] at hknown
        exact absurd hknown.1 (by decide)
      · omega
    refine congrArg Host.Outcome.next ((State.decideStep_of_fetched hf (by simp [hin, hbad]) _).trans ?_)
    rw [State.refuse_enterDeciding]
    rfl
  · refine congrArg Host.Outcome.next ((State.decideStep_of_fetched hf (by simp [hin]) _).trans ?_)
    rw [← tick]
    rfl

end Sys2Proof.Machine
end

section
/-!
SUPPORT. The controller cycles (Chapter 10): the window's addresses, what is suppressed (R170), what is forwarded (R167), the words of the
Posting Queue that a cycle reads or merges into (R174), the control cells (R168), and the Arbiter's choice (R176); O32, O33 and O35.
-/

namespace Sys2Proof.Machine

open Sys2Proof

/-! ### Addresses in the window (R166) -/

theorem State.base_lt (s : State) : s.base ≤ 0xF30000 := by
  have h := s.straps.isLt
  unfold State.base
  omega

theorem State.base_aligned (s : State) : s.base % 4 = 0 := by
  unfold State.base
  omega

theorem windowOffset_eq_some {base address o : Nat} :
    windowOffset base address = some o ↔ base ≤ address ∧ address < base + 0x10000 ∧ o = address - base := by
  unfold windowOffset
  split
  · rename_i h
    simp only [Option.some.injEq, h, true_and]
    exact eq_comm
  · rename_i h
    simp only [reduceCtorEq, false_iff]
    rintro ⟨h1, h2, -⟩
    exact h ⟨h1, h2⟩

/-- The cycle at a word offset of the window has its own address. -/
theorem State.byteAddress_cycleAt (s : State) {o : Nat} (ho : o < 0x10000) (ha : o % 4 = 0) (dir : BusDir) (en : BitVec 4) (w : Word) :
    (cycleAt s.base o dir en w).byteAddress = s.base + o := by
  have hb := s.base_lt
  have hm := s.base_aligned
  simp only [BusCycle.byteAddress, cycleAt, BitVec.toNat_ofNat]
  omega

/-- A cycle in the window is the cycle at its offset. -/
theorem State.cycleAt_of_window {s : State} {a : BitVec 22} {o : Nat} (h : windowOffset s.base (4 * a.toNat) = some o) (dir : BusDir)
    (en : BitVec 4) (w : Word) : cycleAt s.base o dir en w = { dir, address := a, enables := en, data := w } := by
  obtain ⟨h1, -, rfl⟩ := windowOffset_eq_some.mp h
  unfold cycleAt
  rw [show (s.base + (4 * a.toNat - s.base)) / 4 = a.toNat by omega, BitVec.ofNat_toNat, BitVec.setWidth_eq]

section
variable {s : State} (hin : s.inReset = false) {c : BusCycle}
include hin

theorem State.arrive_outside (h : windowOffset s.base c.byteAddress = none) : s.arrive c = s.holdCycle c := by
  unfold State.arrive
  rw [hin, if_neg (by decide), h]

variable {o : Nat} (h : windowOffset s.base c.byteAddress = some o)
include h

theorem State.arrive_write (hdir : c.dir = .write) : s.arrive c = s.windowWrite o c := by
  unfold State.arrive
  rw [hin, if_neg (by decide), h, hdir]

theorem State.arrive_read (hdir : c.dir = .read) : s.arrive c = s.windowRead o c := by
  unfold State.arrive
  rw [hin, if_neg (by decide), h, hdir]

end

/-! ### Suppressed writes (R170) -/

/-- The descriptor of a pool word is the multiple of 32 below it. -/
theorem descOf_toNat (o : Half) : (descOf o).toNat = o.toNat / 32 * 32 := by
  have hshift : descOf o = (o >>> 5) <<< 5 := by
    have mask : ∀ i < 16, (0xFFE0#16).getLsbD i = !decide (i < 5) := by decide
    refine BitVec.eq_of_getLsbD_eq fun i hi => ?_
    rw [descOf, BitVec.getLsbD_and, mask i hi, BitVec.getLsbD_shiftLeft, BitVec.getLsbD_ushiftRight]
    by_cases h : i < 5
    · simp [h]
    · simp [h, hi, show 5 + (i - 5) = i by omega]
  rw [hshift, BitVec.toNat_shiftLeft, BitVec.toNat_ushiftRight, Nat.shiftRight_eq_div_pow, Nat.shiftLeft_eq]
  omega

theorem inView_iff (o : Nat) : inView o = true ↔
    (0x0400 ≤ o ∧ o < 0x0440) ∨ (0x0800 ≤ o ∧ o < 0x0A80) ∨ (0x1000 ≤ o ∧ o < 0x2000) := by
  simp [inView, or_assoc]

theorem inRing_iff (o : Nat) : inRing o = true ↔ 0x8000 ≤ o ∧ o < 0x9000 := decide_eq_true_iff

theorem inPool_iff (o : Nat) : inPool o = true ↔ 0x4000 ≤ o ∧ o < 0x8000 := decide_eq_true_iff

/-- w6 and w7 of an in-flight descriptor are the part's own. -/
theorem State.ownedWord_of_inFlight {s : State} {d : Half} (hd : d ∈ s.inFlight) (h1 : 0x4000 ≤ d.toNat) (h2 : d.toNat ≤ 0x7FE0)
    (h3 : d.toNat % 32 = 0) {o : Nat} (ho : o = d.toNat + 24 ∨ o = d.toNat + 28) : s.ownedWord o = true := by
  have hdesc : descOf (BitVec.ofNat 16 o) = d := by
    refine BitVec.eq_of_toNat_eq ?_
    rw [descOf_toNat, BitVec.toNat_ofNat]
    omega
  unfold State.ownedWord
  rw [hdesc, (inPool_iff o).mpr (by omega), decide_eq_true (by omega : 24 ≤ o % 32)]
  simpa using hd

/-- Settles O32: each of the regions is suppressed. -/
theorem suppressedWritesAreCounted : Obligations.SuppressedWritesAreCounted := by
  intro s offset en data hin hal hregion
  have hs : s.suppresses offset.toNat = true := by
    simp only [State.suppresses, Bool.or_eq_true, inView_iff, inRing_iff]
    rcases hregion with h | h | h | h | ⟨d, hd, h1, h2, h3, ho⟩
    · exact .inl (.inl (.inl h))
    · exact .inl (.inl (.inr (.inl h)))
    · exact .inl (.inl (.inr (.inr h)))
    · exact .inl (.inr h)
    · exact .inr (State.ownedWord_of_inFlight hd h1 h2 h3 ho)
  have hlt : offset.toNat < 0x10000 := offset.isLt
  have hw : windowOffset s.base (cycleAt s.base offset.toNat .write en data).byteAddress = some offset.toNat := by
    rw [s.byteAddress_cycleAt hlt hal]
    exact windowOffset_eq_some.mpr ⟨by omega, by omega, by omega⟩
  refine (congrArg Host.Outcome.next ((State.arrive_write hin hw rfl).trans (if_pos hs))).trans ?_
  rw [satInc_eq]

/-! ### Forwarded cycles (R167) -/

/-- The state in which a cycle waits for its grant, the queue's words merged with its own (R167, R174). -/
def State.forwarding (s : State) (c : BusCycle) (queue : List Posting) : State :=
  { s with queue, port := { s.port with waiting := s.port.waiting ++ [c] } }

/-- Past the control cells, and where not every enable is asserted, a write has no effect on the part beside its forwarding. -/
theorem State.controlWrite_of_above {o : Nat} (h : 0x20 ≤ o) (s : State) (w : Word) : s.controlWrite o w = s := by
  unfold State.controlWrite
  iterate 8 rw [if_neg (by omega)]

theorem State.windowWrite_forwarded {s : State} {o : Nat} {c : BusCycle} (hs : s.suppresses o = false)
    (ho : 0x20 ≤ o ∨ c.enables ≠ 0xF#4) :
    s.windowWrite o c = s.forwarding c (s.queue.map fun p => p.mergeAt (BitVec.ofNat 16 o) c.enables c.data) := by
  unfold State.windowWrite
  rw [hs, if_neg (by decide)]
  dsimp only
  by_cases he : c.enables = 0xF#4
  · rw [if_pos he, State.controlWrite_of_above (ho.resolve_right fun g => g he)]
    rfl
  · rw [if_neg he]
    rfl

/-- A write that the part neither takes nor suppresses waits, in the window or outside. -/
theorem State.arrive_forwarded {s : State} (hin : s.inReset = false) {c : BusCycle} (hdir : c.dir = .write)
    (h : ∀ o, windowOffset s.base c.byteAddress = some o → (0x20 ≤ o ∨ c.enables ≠ 0xF#4) ∧ s.suppresses o = false) :
    ∃ q, q.length = s.queue.length ∧ s.arrive c = s.forwarding c q := by
  cases hw : windowOffset s.base c.byteAddress with
  | none => exact ⟨s.queue, rfl, State.arrive_outside hin hw⟩
  | some o =>
    obtain ⟨ho, hs⟩ := h o hw
    exact ⟨_, List.length_map .., (State.arrive_write hin hw hdir).trans (State.windowWrite_forwarded hs ho)⟩

/-- A read the part does not answer waits, in the window or outside. -/
theorem State.arrive_read_forwarded {s : State} (hin : s.inReset = false) {c : BusCycle} (hdir : c.dir = .read)
    (h : ∀ o, windowOffset s.base c.byteAddress = some o → o ≠ 0x1C ∧ inView o = false ∧
      ∀ p ∈ s.queue, p.holds (BitVec.ofNat 16 o) = false) : s.arrive c = s.forwarding c s.queue := by
  cases hw : windowOffset s.base c.byteAddress with
  | none => exact State.arrive_outside hin hw
  | some o =>
    obtain ⟨ho, hv, hq⟩ := h o hw
    have hnone : s.queue.find? (fun p => p.holds (BitVec.ofNat 16 o)) = none := by simpa using hq
    rw [State.arrive_read hin hw hdir]
    unfold State.windowRead
    rw [if_neg ho, hv, if_neg (by decide), hnone]
    split <;> rfl

/-- A read with every enable asserted carries the word. -/
theorem readLanes_full (free : Nat) (w : Word) : readLanes free 0xF#4 w = w := ofLanes_lane w

theorem State.arrive_queued {s : State} (hin : s.inReset = false) {c : BusCycle} (hdir : c.dir = .read) {o : Nat}
    (hw : windowOffset s.base c.byteAddress = some o) (ho : 0x4000 ≤ o ∧ o < 0x9000) {p : Posting}
    (hp : s.queue.find? (fun e => e.holds (BitVec.ofNat 16 o)) = some p) :
    s.arrive c = s.answer c.enables (p.wordAt (BitVec.ofNat 16 o)) := by
  have hview : ¬inView o = true := fun g => by
    have := (inView_iff o).mp g
    omega
  have hregion : (inPool o || inRing o) = true := by
    rw [Bool.or_eq_true, inPool_iff, inRing_iff]
    omega
  rw [State.arrive_read hin hw hdir]
  unfold State.windowRead
  rw [if_neg (by omega), if_neg hview, if_pos hregion, hp]

/-! ### Control cells (R60, R168, R185) -/

theorem Posting.mergeAt_of_not_holds {p : Posting} {o : Half} (h : p.holds o = false) (en : BitVec 4) (w : Word) :
    p.mergeAt o en w = p := by
  unfold Posting.mergeAt
  rw [h, if_neg (by decide)]

/-- A full-word write of a control cell is that cell's write (R167, R168). -/
theorem State.arrive_cell {s : State} {a : BitVec 22} {o : Nat} (h : windowOffset s.base (4 * a.toNat) = some o) (ho : o < 0x20)
    (hq : ∀ p ∈ s.queue, p.holds (BitVec.ofNat 16 o) = false) (w : Word) :
    s.arrive { dir := .write, address := a, enables := 0xF#4, data := w } = s.cellWrite o w fun t => t.controlWrite o w := by
  have hcycle := State.cycleAt_of_window h .write 0xF#4 w
  unfold State.cellWrite
  rw [hcycle]
  cases hin : s.inReset with
  | true =>
    unfold State.arrive
    rw [hin]
    rfl
  | false =>
    have hs : s.suppresses o = false := by
      have hv : ¬inView o = true := fun g => by have := (inView_iff o).mp g; omega
      have hr : ¬inRing o = true := fun g => by have := (inRing_iff o).mp g; omega
      have hp : ¬inPool o = true := fun g => by have := (inPool_iff o).mp g; omega
      simp [State.suppresses, State.ownedWord, hv, hr, hp]
    have hmap : s.queue.map (fun p => p.mergeAt (BitVec.ofNat 16 o) 0xF#4 w) = s.queue :=
      (List.map_congr_left fun p hp => Posting.mergeAt_of_not_holds (hq p hp) _ _).trans (List.map_id _)
    have hmerged (c : BusCycle) : (s.holdCycle c).mergeQueued o 0xF#4 w = s.holdCycle c :=
      congrArg (fun queue => { s.holdCycle c with queue }) hmap
    rw [State.arrive_write hin (c := { dir := .write, address := a, enables := 0xF#4, data := w }) h rfl]
    unfold State.windowWrite
    rw [hs, if_neg (by decide)]
    dsimp only
    rw [if_pos rfl, hmerged, if_neg (by decide)]

end Sys2Proof.Machine
end

section
/-!
The Arbiter's choice (R176, R177) and the cycles that reach the SRAM (R166, R167, R174): O35 and O33.
-/

namespace Sys2Proof.Machine

open Sys2Proof

/-! ### The Arbiter (R176, R177) -/

section
variable {s : State} (hin : s.inReset = false) (hh : s.port.holder = .none)
include hin hh

theorem State.grant_of_free : s.grant =
    if s.port.lock = .inForce then s.grantController
    else if 24 ≤ s.queue.length then
      (if s.port.waiting ≠ [] then (if s.port.lastController then s.grantPosting else s.grantController) else s.grantPosting)
    else if s.port.waiting ≠ [] ∧ (s.port.fairness < 8 ∨ s.partWaits = false) then s.grantController
    else if s.port.requests ≠ [] then s.grantBurst
    else if s.queue ≠ [] then s.grantPosting
    else s := by
  unfold State.grant
  dsimp only
  rw [if_neg (by simp [hin, hh])]
  simp only [decide_eq_true_eq, Bool.and_eq_true, Bool.or_eq_true, Bool.not_eq_true']

omit hin in
/-- With the port free, a part request waits exactly when a burst is requested or the queue holds an entry. -/
theorem State.partWaits_of_free : s.partWaits = true ↔ s.port.requests ≠ [] ∨ s.queue ≠ [] := by
  simp [State.partWaits, hh]

omit hin in
theorem State.grantController_of_free {c : BusCycle} {rest : List BusCycle} (hw : s.port.waiting = c :: rest) :
    s.grantController = State.busAccess { s with port := { s.port with
      waiting := rest, lastController := true,
      fairness := if s.port.requests ≠ [] ∨ s.queue ≠ [] then min 8 (s.port.fairness + 1) else 0 } } c := by
  unfold State.grantController
  rw [hw]
  dsimp only
  simp only [State.partWaits_of_free hh]

end

theorem State.grantController_of_none {s : State} (hw : s.port.waiting = []) : s.grantController = s := by
  unfold State.grantController
  rw [hw]

theorem State.setupWords_get (s : State) (n : SiteId) (i : Fin 16) :
    (s.setupWords n).get i = s.sramWord (0x0100 + 64 * n.val + 4 * i.val) := by
  fin_cases i <;> rfl

/-- Settles O35: the cases of Table 10-3 in their order. -/
theorem arbiterChoosesByTheTable : Obligations.ArbiterChoosesByTheTable := by
  intro s hin hh partWaits toController toPosting
  have choice {t : State} (h : s.grant = t) : exec .arbiterGrant s = .next t := congrArg Host.Outcome.next h
  have table := State.grant_of_free hin hh
  have controller (h : s.grant = s.grantController) : toController := fun c rest hw =>
    choice (h.trans (State.grantController_of_free hh hw))
  have waits {c : BusCycle} {rest : List BusCycle} (hw : s.port.waiting = c :: rest) : s.port.waiting ≠ [] := by simp [hw]
  refine ⟨fun hl => ⟨controller ?_, fun hw => choice ?_⟩, fun hl hq hw hc => choice ?_, fun hl hq hc c rest hw => ?_,
    fun hl hq hw => choice ?_, fun hl hq hf c rest hw => ?_, fun hl hq hf => ?_⟩
  · rw [table, if_pos hl]
  · rw [table, if_pos hl, State.grantController_of_none hw]
  · rw [table, if_neg hl, if_pos hq, if_pos hw, if_pos hc]
    rfl
  · refine controller ?_ c rest hw
    rw [table, if_neg hl, if_pos hq, if_pos (waits hw), hc, if_neg (by decide)]
  · rw [table, if_neg hl, if_pos hq, if_neg (by simpa using hw)]
    rfl
  · refine controller ?_ c rest hw
    have hfair : s.port.fairness < 8 ∨ s.partWaits = false :=
      hf.imp_right fun h => Bool.eq_false_iff.mpr fun g => h ((State.partWaits_of_free hh).mp g)
    rw [table, if_neg hl, if_neg (by omega), if_pos ⟨waits hw, hfair⟩]
  · have part (hp : s.partWaits = true) : s.grant = if s.port.requests ≠ [] then s.grantBurst
        else if s.queue ≠ [] then s.grantPosting else s := by
      rw [table, if_neg hl, if_neg (by omega), if_neg ?_]
      rintro ⟨hw, hlt | hno⟩
      · exact (hf.resolve_left hw).not_gt hlt
      · exact absurd hp (by rw [hno]; decide)
    have burst (hr : s.port.requests ≠ []) : s.grant = s.grantBurst := by
      rw [part ((State.partWaits_of_free hh).mpr (.inl hr)), if_pos hr]
    refine ⟨fun rest hr => choice ?_, fun rest hr => ⟨_, choice (burst (by simp [hr])), ?_⟩, fun hr hn => choice ?_⟩
    · rw [burst (by simp [hr])]
      unfold State.grantBurst
      rw [hr]
      rfl
    · unfold State.grantBurst
      rw [hr]
      refine ⟨rfl, rfl, rfl, rfl, fun n more hn => ?_⟩
      dsimp only
      rw [hn]
      exact ⟨_, rfl, rfl, rfl, s.setupWords_get n⟩
    · rw [part ((State.partWaits_of_free hh).mpr (.inr hn)), if_neg (by simpa using hr), if_pos hn]
      rfl

/-! ### Merging (R174) -/

theorem lane_mergeLanes (en : BitVec 4) (old new : Word) {i : Nat} (hi : i < 4) :
    lane (mergeLanes en old new) i = if en.getLsbD i then lane new i else lane old i :=
  lane_ofLanes (fun i => if en.getLsbD i then lane new i else lane old i) hi

theorem Posting.holds_word (a : Half) (w : Word) (f : Bool) (o : Half) : (Posting.word a w f).holds o = true ↔ o = a :=
  decide_eq_true_iff

theorem Posting.holds_record (a : Half) (w0 w1 w2 w3 : Word) (o : Half) :
    (Posting.record a w0 w1 w2 w3).holds o = true ↔ o = a ∨ o = a + 4 ∨ o = a + 8 ∨ o = a + 12 := decide_eq_true_iff

/-- A merge rewrites the word at the offset, lane by lane, and nothing else of the entry (R174). -/
theorem Posting.mergeAt_facts (p : Posting) (o : Half) (en : BitVec 4) (data : Word) :
    (p.mergeAt o en data).addr = p.addr ∧ (∀ q : Half, (p.mergeAt o en data).holds q = p.holds q) ∧
    (∀ b w f, p = .word b w f → ∃ v, p.mergeAt o en data = .word b v f) ∧
    (∀ q : Half, p.holds q = true → q ≠ o → (p.mergeAt o en data).wordAt q = p.wordAt q) ∧
    (p.holds o = true → (p.mergeAt o en data).wordAt o = mergeLanes en (p.wordAt o) data) := by
  by_cases h : p.holds o = true
  case neg =>
    rw [Posting.mergeAt_of_not_holds (by simpa using h)]
    exact ⟨rfl, fun _ => rfl, fun b w f hp => ⟨w, hp⟩, fun _ _ _ => rfl, fun g => absurd g h⟩
  unfold Posting.mergeAt
  rw [if_pos h]
  cases p with
  | word b w f =>
    have hb := (Posting.holds_word b w f o).mp h
    refine ⟨rfl, fun _ => rfl, fun b' w' f' hp => ?_, fun q hq hne => ?_, fun _ => rfl⟩
    · cases hp
      exact ⟨_, rfl⟩
    · exact absurd (((Posting.holds_word b w f q).mp hq).trans hb.symm) hne
  | record b w0 w1 w2 w3 =>
    have hb := (Posting.holds_record b w0 w1 w2 w3 o).mp h
    have hq (q : Half) := (Posting.holds_record b w0 w1 w2 w3 q).mp
    have h04 : b + 4 ≠ b := by bv_omega
    have h08 : b + 8 ≠ b := by bv_omega
    have h48 : b + 8 ≠ b + 4 := by bv_omega
    have h012 : b + 12 ≠ b := by bv_omega
    have h412 : b + 12 ≠ b + 4 := by bv_omega
    have h812 : b + 12 ≠ b + 8 := by bv_omega
    refine ⟨?_, fun q => ?_, fun _ _ _ hp => (by cases hp), fun q hq' hne => ?_, fun _ => ?_⟩
    · dsimp only
      split
      · rfl
      · split
        · rfl
        · split <;> rfl
    · dsimp only
      split
      · rfl
      · split
        · rfl
        · split <;> rfl
    · rcases hb with rfl | rfl | rfl | rfl <;> rcases hq q hq' with rfl | rfl | rfl | rfl <;>
        simp_all [Posting.wordAt]
    · rcases hb with rfl | rfl | rfl | rfl <;> simp [Posting.wordAt]

/-- What a merge does to an entry, the lanes of the word told one by one (R174). -/
theorem Posting.mergeAt_lanes (p : Posting) (o : Half) (en : BitVec 4) (data : Word) (h : p.holds o = true) {i : Nat} (hi : i < 4) :
    lane ((p.mergeAt o en data).wordAt o) i = if en.getLsbD i then lane data i else lane (p.wordAt o) i := by
  obtain ⟨-, -, -, -, hword⟩ := p.mergeAt_facts o en data
  rw [hword h, lane_mergeLanes en _ _ hi]

/-! ### The cycles (R166, R167) -/

/-- A word is the command of its own code and operand. -/
theorem commandWord_split (w : Word) : commandWord (w.extractLsb' 24 8) (w.extractLsb' 0 24) = w := by
  refine BitVec.eq_of_getLsbD_eq fun i hi => ?_
  rw [commandWord, BitVec.getLsbD_append, BitVec.getLsbD_extractLsb', BitVec.getLsbD_extractLsb']
  by_cases h : i < 24
  · simp [h]
  · simp [h, show i - 24 < 8 by omega, show 24 + (i - 24) = i by omega]

/-- The commands of the command cell, by code (R60). -/
theorem exec_command_of_code (s : State) (code : Byte) (operand : BitVec 24) :
    exec (match code.toNat with
      | 1 => .go operand
      | 2 => .halt operand
      | 3 => .freeze operand
      | 4 => .thaw operand
      | 5 => .enable operand
      | 6 => .disable operand
      | 7 => .reload operand
      | _ => .unknownCommand code operand) s =
    .next (s.cellWrite 0 (commandWord code operand) fun t => State.logCommand (t.command code operand) code) := by
  have is {k : Byte} (h : code.toNat = k.toNat) : code = k := BitVec.eq_of_toNat_eq h
  split
  case h_1 h => cases is (k := 1#8) h; rfl
  case h_2 h => cases is (k := 2#8) h; rfl
  case h_3 h => cases is (k := 3#8) h; rfl
  case h_4 h => cases is (k := 4#8) h; rfl
  case h_5 h => cases is (k := 5#8) h; rfl
  case h_6 h => cases is (k := 6#8) h; rfl
  case h_7 h => cases is (k := 7#8) h; rfl
  case h_8 => rfl

/-- The port is free and the Arbiter will serve the controller next (R176, R177). -/
structure State.grantsNext (s : State) (c : BusCycle) : Prop where
  out : s.inReset = false
  free : s.port.holder = .none
  open_ : s.port.lock ≠ .inForce
  waiting : s.port.waiting = [c]
  fair : s.port.fairness < 8
  room : s.queue.length < 24

/-- The one cycle that waits is granted and made on the bus. -/
theorem State.grantsNext.access {s : State} {c : BusCycle} (h : s.grantsNext c) :
    ∃ p : Port, p.waiting = [] ∧ p.holder = .none ∧ exec .arbiterGrant s = .next (State.busAccess { s with port := p } c) := by
  have hw : s.port.waiting ≠ [] := by simp [h.waiting]
  refine ⟨{ s.port with
      waiting := [], lastController := true,
      fairness := if s.port.requests ≠ [] ∨ s.queue ≠ [] then min 8 (s.port.fairness + 1) else 0 }, rfl, h.free, ?_⟩
  refine congrArg Host.Outcome.next ?_
  rw [State.grant_of_free h.out h.free, if_neg h.open_, if_neg (by have := h.room; omega), if_pos ⟨hw, .inl h.fair⟩,
    State.grantController_of_free h.free h.waiting]

/-- A cycle that arrives with nothing before it is granted next. -/
theorem State.forwarding_grantsNext {s : State} (hin : s.inReset = false) (hh : s.port.holder = .none) (hl : s.port.lock ≠ .inForce)
    (hw : s.port.waiting = []) (hf : s.port.fairness < 8) (hq : s.queue.length < 24) (c : BusCycle) {q : List Posting}
    (hlen : q.length = s.queue.length) : (s.forwarding c q).grantsNext c where
  out := hin
  free := hh
  open_ := hl
  waiting := by rw [State.forwarding, hw]; rfl
  fair := hf
  room := by rw [State.forwarding]; exact hlen ▸ hq

/-- Settles O33: the rows of Table 10-1 that reach the part's cells, the SRAM and the queue. -/
theorem forwardedCyclesReachTheSram : Obligations.ForwardedCyclesReachTheSram := by
  refine ⟨fun s a w o ho hq => ?_, fun s a en data hin hm hh hl hw hf hq => ⟨fun h => ?_, fun h => ?_⟩,
    fun s a o p hin ho hregion hp => ?_, fun s a en data o hin ho hen hs => ⟨?_, fun p => ?_⟩⟩
  · have cell (h : o < 0x20) : exec (.controllerCycle .write a 0xF w) s = .next (s.cellWrite o w fun t => t.controlWrite o w) :=
      congrArg Host.Outcome.next (State.arrive_cell ho h hq w)
    refine ⟨fun h => ?_, fun h => ?_, fun h => ?_, fun h => ?_, fun h => ?_, fun h => ?_, fun h => ?_, fun h => ?_⟩
    case refine_1 =>
      have hcode : (w.extractLsb' 24 8).toNat = w.toNat / 2 ^ 24 := by
        have := w.isLt
        rw [BitVec.extractLsb'_toNat, Nat.shiftRight_eq_div_pow]
        omega
      have byCode := exec_command_of_code s (w.extractLsb' 24 8) (w.extractLsb' 0 24)
      rw [hcode, commandWord_split] at byCode
      rw [cell (by omega), h]
      exact byCode.symm
    all_goals
      subst h
      exact cell (by omega)
  · obtain ⟨q, hlen, harrive⟩ := State.arrive_forwarded hin (c := { dir := .write, address := a, enables := en, data }) rfl h
    obtain ⟨port, hwait, hfree, hgrant⟩ := (State.forwarding_grantsNext hin hh hl hw hf hq
      { dir := .write, address := a, enables := en, data } hlen).access
    exact ⟨_, _, congrArg Host.Outcome.next harrive, rfl, rfl, rfl, rfl, hgrant, hwait, hfree, rfl,
      fun i hi => Memory.read_writeLanes_inside hm _ en data hi,
      fun x hx => Memory.read_writeLanes_outside s.mem _ en data hx⟩
  · have harrive := State.arrive_read_forwarded hin (c := { dir := .read, address := a, enables := 0xF#4, data }) rfl h
    obtain ⟨port, hwait, -, hgrant⟩ := (State.forwarding_grantsNext hin hh hl hw hf hq
      { dir := .read, address := a, enables := 0xF#4, data } (q := s.queue) rfl).access
    exact ⟨_, _, congrArg Host.Outcome.next harrive, rfl, hgrant, congrArg some (readLanes_full _ _), rfl, hwait, rfl⟩
  · refine congrArg Host.Outcome.next ((State.arrive_queued hin (c := { dir := .read, address := a, enables := 0xF#4, data := 0 }) rfl
      ho hregion hp).trans ?_)
    exact congrArg (fun r => { s with lastRead := some r, freeIndex := s.freeIndex + 1 }) (readLanes_full _ _)
  · exact congrArg Host.Outcome.next ((State.arrive_write hin (c := { dir := .write, address := a, enables := en, data }) ho rfl).trans
      (State.windowWrite_forwarded hs hen))
  · obtain ⟨haddr, hholds, hword, hother, -⟩ := p.mergeAt_facts (BitVec.ofNat 16 o) en data
    exact ⟨fun h => Posting.mergeAt_of_not_holds h en data, haddr, hholds, hword, hother,
      fun h i hi => p.mergeAt_lanes _ en data h hi⟩

end Sys2Proof.Machine
end

section
/-!
The drain of a posting (R57, R172, R179): O36.
-/

namespace Sys2Proof.Machine

open Sys2Proof

/-- The byte address is in none of the words at these offsets. -/
def outsideWords (base : Nat) (l : List (Nat × Word)) (x : Nat) : Prop :=
  ∀ w ∈ l, x < base + w.1 ∨ base + w.1 + 3 < x

/-- Words written at offsets four or more apart read back, and no byte outside them changes. -/
theorem State.sramWrites_apart {l : List (Nat × Word)} (hl : l.Pairwise fun v w => v.1 + 3 < w.1) {s : State} (hm : s.memoryOk) :
    ∃ m, s.sramWrites l = { s with mem := m } ∧ (∀ w ∈ l, Memory.readWord m (s.base + w.1) = w.2) ∧
      ∀ x, outsideWords s.base l x → Memory.read m x = Memory.read s.mem x := by
  induction l generalizing s with
  | nil => exact ⟨s.mem, rfl, nofun, fun _ _ => rfl⟩
  | cons w l ih =>
    obtain ⟨hw, hl⟩ := List.pairwise_cons.mp hl
    obtain ⟨m, heq, hread, hout⟩ := ih hl (s := s.sramPut w.1 w.2) (Memory.wf_writeWord hm _ _)
    have untouched {x : Nat} (h : x < s.base + w.1 ∨ s.base + w.1 + 3 < x) :
        Memory.read (s.sramPut w.1 w.2).mem x = Memory.read s.mem x := Memory.read_writeLanes_outside s.mem _ 0xF#4 w.2 h
    refine ⟨m, heq, fun v hv => ?_, fun x hx => ?_⟩
    · rcases List.mem_cons.mp hv with rfl | hv
      · have later : ∀ i < 4, Memory.read m (s.base + v.1 + i) = Memory.read (s.sramPut v.1 v.2).mem (s.base + v.1 + i) :=
          fun i hi => hout _ fun u hu => .inl (by have := hw u hu; change s.base + v.1 + i < s.base + u.1; omega)
        rw [Memory.readWord_congr later]
        exact Memory.readWord_writeWord hm _ _
      · exact hread v hv
    · rw [hout x fun u hu => hx u (List.mem_cons_of_mem _ hu)]
      exact untouched (hx w List.mem_cons_self)

/-- The words of an entry lie four apart, in ascending order (R172). -/
theorem Posting.writes_apart (p : Posting) : p.writes.Pairwise fun v w => v.1 + 3 < w.1 := by
  cases p <;> simp [Posting.writes]

/-- The drain of the queue head, before its descriptor may leave flight. -/
def State.drained (s : State) (rest : List Posting) (m : List Host.Cell) : State :=
  { s with
    mem := m
    queue := rest
    port := { s.port with holder := .none, lock := if s.port.lock = .awaiting then .inForce else s.port.lock } }

theorem State.drain_of_head {s : State} {p : Posting} {rest : List Posting} (hin : s.inReset = false)
    (hh : s.port.holder = .posting) (hq : s.queue = p :: rest) {m : List Host.Cell}
    (hm : s.sramWrites p.writes = { s with mem := m }) : s.drain = (s.drained rest m).leaveFlight p := by
  unfold State.drain
  rw [if_neg (by simp [hin, hh]), hq]
  dsimp only
  rw [hm]
  rfl

/-- An entry that leaves the queue changes no more than the in-flight set (R57). -/
theorem State.leaveFlight_only (s : State) (p : Posting) :
    s.leaveFlight p = { s with inFlight := (s.leaveFlight p).inFlight } := by
  unfold State.leaveFlight
  split
  · rfl
  · dsimp only
    split <;> rfl

/-- A word that is not of a final outcome takes nothing out of flight. -/
theorem State.leaveFlight_word_false (s : State) (a : Half) (w : Word) : s.leaveFlight (.word a w false) = s := by
  unfold State.leaveFlight
  simp

/-- What holds a word of a descriptor outside the Posting Queue's head (R172). -/
def State.holdsDesc (s : State) (d : Half) : Prop :=
  s.queue.any (postingHoldsDesc d) = true ∨ s.journal.handOver.any (itemHoldsDesc d) = true ∨
    s.walker.toPlace.any (itemHoldsDesc d) = true

/-- A final word takes its descriptor out of flight exactly when nothing else holds a word of it (R57, R172). -/
theorem State.mem_leaveFlight_word (s : State) (a : Half) (w : Word) (d : Half) :
    d ∈ (s.leaveFlight (.word a w true)).inFlight ↔ d ∈ s.inFlight ∧ (d = descOf a → s.holdsDesc d) := by
  have hcond : (!(s.queue.any (postingHoldsDesc (descOf a))) && !(s.journal.handOver.any (itemHoldsDesc (descOf a))) &&
      !(s.walker.toPlace.any (itemHoldsDesc (descOf a)))) = true ↔ ¬ s.holdsDesc (descOf a) := by
    simp only [State.holdsDesc, Bool.and_eq_true, Bool.not_eq_true', not_or, Bool.not_eq_true, and_assoc]
  unfold State.leaveFlight
  dsimp only
  rw [Bool.true_and]
  by_cases h : s.holdsDesc (descOf a)
  · rw [if_neg (hcond.not.mpr (not_not.mpr h))]
    exact ⟨fun hd => ⟨hd, fun e => e ▸ h⟩, And.left⟩
  · rw [if_pos (hcond.mpr h), List.mem_filter, decide_eq_true_iff]
    exact and_congr_right fun _ => ⟨fun hne e => absurd e hne, fun g e => h (e ▸ g e)⟩

/-- Settles O36: the head's words reach the SRAM, the grant ends, and the descriptor leaves flight by `mem_leaveFlight_word`. -/
theorem postingDrainWritesTheEntry : Obligations.PostingDrainWritesTheEntry := by
  intro s p rest hin hmem hh hq
  obtain ⟨m, hwrites, hread, hout⟩ := State.sramWrites_apart p.writes_apart hmem
  have hdrain := State.drain_of_head hin hh hq hwrites
  have honly := State.leaveFlight_only (s.drained rest m) p
  refine ⟨_, congrArg Host.Outcome.next (hdrain.trans honly), rfl, rfl, rfl, rfl, rfl, hread, hout, ?_, ?_, ?_⟩
  · rintro a w rfl
    change ((s.drained rest m).leaveFlight _).inFlight = s.inFlight
    rw [State.leaveFlight_word_false]
    rfl
  · rintro a w0 w1 w2 w3 rfl
    rfl
  · rintro a w rfl d
    exact State.mem_leaveFlight_word (s.drained rest m) a w d

end Sys2Proof.Machine
end

section
/-!
The hand-over list's placing, the layout of records and status words, and the walker's placing (R68, R172, R173, R175, R183, R195): O48
and O47.
-/

namespace Sys2Proof.Machine

open Sys2Proof

/-! ### Words made of fields (R193, R195) -/

/-- A word with fields joined to it, each given by its lowest bit, its width and its value. -/
def orFields (x : Word) (fields : List (Nat × Nat × Nat)) : Word := fields.foldl (fun y f => y ||| field f.2.2 f.1) x

/-- The fields lie at bit `b` and above, in ascending order and apart, and end by bit 31. -/
def ascendingFrom (b : Nat) : List (Nat × Nat × Nat) → Prop
  | [] => b ≤ 32
  | f :: l => b ≤ f.1 ∧ ascendingFrom (f.1 + f.2.1) l

theorem ascendingFrom_le {b : Nat} {l : List (Nat × Nat × Nat)} (h : ascendingFrom b l) : b ≤ 32 := by
  induction l generalizing b with
  | nil => exact h
  | cons f l ih =>
    have := ih h.2
    have := h.1
    omega

theorem orFields_toNat {x : Word} {b : Nat} {l : List (Nat × Nat × Nat)} (hx : x.toNat < 2 ^ b) (hl : ascendingFrom b l)
    (hfit : ∀ f ∈ l, f.2.2 < 2 ^ f.2.1) : (orFields x l).toNat = x.toNat + (l.map fun f => f.2.2 * 2 ^ f.1).sum := by
  induction l generalizing x b with
  | nil => rfl
  | cons f l ih =>
    obtain ⟨hlo, hrest⟩ := hl
    obtain ⟨hsum, hlt⟩ := or_field_toNat (hx.trans_le (Nat.pow_le_pow_right (by decide) hlo)) (hfit f List.mem_cons_self)
      (ascendingFrom_le hrest)
    have htail := ih hlt hrest fun g hg => hfit g (List.mem_cons_of_mem _ hg)
    rw [hsum] at htail
    rw [List.map_cons, List.sum_cons, ← Nat.add_assoc]
    exact htail

/-- A word made of ascending fields carries them. -/
theorem carries_orFields {l : List (Nat × Nat × Nat)} (hl : ascendingFrom 0 l) : carries (orFields 0 l) l := fun hfit =>
  (orFields_toNat (x := 0) (by decide) hl hfit).trans (Nat.zero_add _)

theorem orFields_zero_cons (f : Nat × Nat × Nat) (l : List (Nat × Nat × Nat)) :
    orFields 0 (f :: l) = orFields (field f.2.2 f.1) l := congrArg (orFields · l) (BitVec.zero_or (x := field f.2.2 f.1))

theorem field_zero (n : Nat) : field n 0 = BitVec.ofNat 32 n := by simp [field]

theorem Record.words_kind (r : Record) : ∃ code, (code = match r.kind with
      | .done => 1 | .cancelled => 2 | .refused => 3 | .shuttered => 4 | .restored => 5 | .condRaised => 6
      | .condCleared => 7 | .chainEnd => 8 | .mark => 9 | .lockBroken => 10 | .site => 11 | .gap => 12) ∧
    r.kind.code.setWidth 32 = field code 0 := by
  cases r.kind <;> exact ⟨_, rfl, rfl⟩

/-- The layout of a record's words and of a status word (Tables 12-3 and 12-7). -/
theorem Record.words_carry (r : Record) :
    let code := match r.kind with
      | .done => 1 | .cancelled => 2 | .refused => 3 | .shuttered => 4 | .restored => 5 | .condRaised => 6
      | .condCleared => 7 | .chainEnd => 8 | .mark => 9 | .lockBroken => 10 | .site => 11 | .gap => 12
    carries r.words.1
      [(0, 4, code), (4, 1, r.site.isSome.toNat), (5, 1, r.handle.isSome.toNat), (6, 1, r.tag.isSome.toNat),
       (7, 1, r.desc.isSome.toNat), (8, 8, r.site.elim 0 (·.val)), (16, 8, r.handle.elim 0 (·.toNat)), (24, 8, r.code.toNat)] ∧
    carries r.words.2.2.2 [(0, 16, r.desc.elim 0 (·.toNat)), (16, 16, r.detail.toNat)] := by
  obtain ⟨code, hcode, hkind⟩ := r.words_kind
  have hdesc : (r.desc.getD 0).setWidth 32 = field (r.desc.elim 0 BitVec.toNat) 0 := by
    rw [field_zero]
    cases r.desc with
    | none => rfl
    | some d => exact (BitVec.ofNat_toNat 32 d).symm
  dsimp only
  rw [← hcode]
  constructor
  · have hw : r.words.1 = orFields 0 [(0, 4, code), (4, 1, r.site.isSome.toNat), (5, 1, r.handle.isSome.toNat),
        (6, 1, r.tag.isSome.toNat), (7, 1, r.desc.isSome.toNat), (8, 8, r.site.elim 0 (·.val)),
        (16, 8, r.handle.elim 0 (·.toNat)), (24, 8, r.code.toNat)] := by
      rw [orFields_zero_cons, ← hkind]
      simp only [Record.words, orFields, List.foldl_cons, List.foldl_nil, flagAt_eq]
    rw [hw]
    exact carries_orFields (by simp [ascendingFrom])
  · have hw : r.words.2.2.2 = orFields 0 [(0, 16, r.desc.elim 0 (·.toNat)), (16, 16, r.detail.toNat)] := by
      rw [orFields_zero_cons, ← hdesc]
      rfl
    rw [hw]
    exact carries_orFields (by simp [ascendingFrom])

theorem statusWord_carries (o : Outc) (clamped : Bool) (reason : Byte) (h : Handle) :
    let code := match o with
      | .taken => 1 | .waiting => 2 | .done => 3 | .cancelled => 4 | .shuttered => 5 | .refused => 6
    carries (statusWord o clamped reason h) [(0, 8, code), (8, 1, clamped.toNat), (16, 8, reason.toNat), (24, 8, h.val)] := by
  have hcode : o.code.toNat = match o with
      | .taken => 1 | .waiting => 2 | .done => 3 | .cancelled => 4 | .shuttered => 5 | .refused => 6 := by
    cases o <;> rfl
  dsimp only
  rw [← hcode]
  have hw : statusWord o clamped reason h =
      orFields 0 [(0, 8, o.code.toNat), (8, 1, clamped.toNat), (16, 8, reason.toNat), (24, 8, h.val)] := by
    rw [orFields_zero_cons]
    simp only [statusWord, orFields, List.foldl_cons, List.foldl_nil, flagAt_eq]
  rw [hw]
  exact carries_orFields (by simp [ascendingFrom])

/-! ### Joining the queue (R172, R173) -/

theorem joinQueue_of_some {q : List Posting} {p : Posting} (h : ∃ e ∈ q, e.addr = p.addr) :
    joinQueue q p = some (q.map fun e => if e.addr = p.addr then p else e) := by
  unfold joinQueue
  rw [if_pos (by simpa using h)]

theorem joinQueue_of_fresh {q : List Posting} {p : Posting} (h : ∀ e ∈ q, e.addr ≠ p.addr) (hlen : q.length < 32) :
    joinQueue q p = some (q ++ [p]) := by
  unfold joinQueue
  rw [if_neg (by simpa using h), if_pos hlen]

theorem joinQueue_full {q : List Posting} {p : Posting} (h : ∀ e ∈ q, e.addr ≠ p.addr) (hlen : 32 ≤ q.length) :
    joinQueue q p = none := joinQueue_none.mpr ⟨h, hlen⟩

theorem joinQueue_length_le {q q' : List Posting} {p : Posting} (h : joinQueue q p = some q') : q.length ≤ q'.length := by
  rcases joinQueue_cases h with ⟨-, rfl⟩ | ⟨-, -, rfl⟩ <;> simp

/-- The queue holds no entry at the slot of the ring that a count names. -/
def State.fresh (s : State) (n : Half) : Prop := ∀ p ∈ s.queue, p.addr.toNat ≠ 0x8000 + 16 * (n.toNat % 256)

theorem ringPosting_addr_toNat (n : Half) (r : Record) : (ringPosting n r).addr.toNat = 0x8000 + 16 * (n.toNat % 256) := by
  change (BitVec.ofNat 16 (0x8000 + 16 * (n.toNat % 256))).toNat = _
  rw [BitVec.toNat_ofNat]
  omega

theorem State.fresh.ne {s : State} {n : Half} (h : s.fresh n) (r : Record) : ∀ p ∈ s.queue, p.addr ≠ (ringPosting n r).addr :=
  fun p hp e => h p hp ((congrArg BitVec.toNat e).trans (ringPosting_addr_toNat n r))

/-! ### Writing records (R183) -/

/-- The record joins the tail of the queue at the slot the produced count names. -/
def State.wrote (s : State) (r : Record) : State :=
  { s with queue := s.queue ++ [ringPosting s.journal.produced r]
           journal := { s.journal with produced := s.journal.produced + 1 } }

theorem State.writeRecords_cons {s : State} (h : s.fresh s.journal.produced) (hlen : s.queue.length < 32) (r : Record)
    (l : List Record) : s.writeRecords (r :: l) = (s.wrote r).writeRecords l := by
  rw [State.writeRecords, joinQueue_of_fresh (h.ne r) hlen]
  rfl

theorem State.writeRecords_full {s : State} (h : s.fresh s.journal.produced) (hlen : 32 ≤ s.queue.length) (r : Record)
    (l : List Record) : s.writeRecords (r :: l) = none := by
  rw [State.writeRecords, joinQueue_full (h.ne r) hlen]

theorem State.writeRecords_length_le {s t : State} {l : List Record} (h : s.writeRecords l = some t) :
    s.queue.length ≤ t.queue.length := by
  induction l generalizing s with
  | nil =>
    cases h
    exact le_refl _
  | cons r l ih =>
    rw [State.writeRecords] at h
    split at h
    · cases h
    · next hq => exact (joinQueue_length_le hq).trans (ih h)

/-- A record written to a fresh slot needs an entry. -/
theorem State.writeRecords_length_lt {s t : State} (hf : s.fresh s.journal.produced) {r : Record} {l : List Record}
    (h : s.writeRecords (r :: l) = some t) : s.queue.length < t.queue.length := by
  by_cases hlen : s.queue.length < 32
  · rw [State.writeRecords_cons hf hlen] at h
    refine lt_of_lt_of_le ?_ (State.writeRecords_length_le h)
    simp [State.wrote]
  · rw [State.writeRecords_full hf (by omega)] at h
    cases h

/-! ### Placing a record (Table 11-1, R183) -/

theorem State.placeRecord_full {s : State} (h : 256 ≤ s.journal.fill) (r : Record) :
    s.placeRecord r = some { s with journal := { s.journal with lost := satInc s.journal.lost } } := if_pos h

theorem State.placeRecord_next {s : State} (h : s.journal.fill < 256) (hl : s.journal.lost = 0) (r : Record) :
    s.placeRecord r = s.writeRecords [r] := by
  unfold State.placeRecord
  rw [if_neg (by omega), if_pos hl]

/-- The state with the count of lost records cleared, in which a GAP record is written. -/
def State.gapTold (s : State) : State := { s with journal := { s.journal with lost := 0 } }

theorem State.placeRecord_last {s : State} (h : s.journal.fill = 255) (hl : s.journal.lost ≠ 0) (r : Record) :
    s.placeRecord r = s.gapTold.writeRecords [gapRecord s.tick (satInc s.journal.lost)] := by
  unfold State.placeRecord
  rw [if_neg (by omega), if_neg hl, if_pos h]
  rfl

theorem State.placeRecord_gap {s : State} (h : s.journal.fill < 255) (hl : s.journal.lost ≠ 0) (r : Record) :
    s.placeRecord r = s.gapTold.writeRecords [gapRecord s.tick s.journal.lost, r] := by
  unfold State.placeRecord
  rw [if_neg (by omega), if_neg hl, if_neg (by omega)]
  rfl

/-- Where the ring has room, a record is written: alone, or as the GAP record that counts it, or after a GAP record. -/
theorem State.placeRecord_writes {s : State} (h : s.journal.fill < 256) (r : Record) :
    ∃ u l r', s.placeRecord r = State.writeRecords u (r' :: l) ∧ u.queue = s.queue ∧ u.journal.produced = s.journal.produced := by
  by_cases hl : s.journal.lost = 0
  · exact ⟨s, [], r, State.placeRecord_next h hl r, rfl, rfl⟩
  · by_cases h255 : s.journal.fill = 255
    · exact ⟨s.gapTold, [], _, State.placeRecord_last h255 hl r, rfl, rfl⟩
    · exact ⟨s.gapTold, [r], _, State.placeRecord_gap (by omega) hl r, rfl, rfl⟩

/-- A record written to a fresh slot waits at a full queue, and needs an entry where it is placed. -/
theorem State.placeRecord_needs_entry {s : State} (h : s.journal.fill < 256) (hf : s.fresh s.journal.produced) (r : Record) :
    (32 ≤ s.queue.length → s.placeRecord r = none) ∧
    ∀ t, s.placeRecord r = some t → s.queue.length < t.queue.length := by
  obtain ⟨u, l, r', hplace, hqueue, hprod⟩ := State.placeRecord_writes h r
  have hfu : u.fresh u.journal.produced := by
    rw [hprod]
    unfold State.fresh
    rw [hqueue]
    exact hf
  rw [hplace, ← hqueue]
  exact ⟨fun hlen => State.writeRecords_full hfu hlen r' l, fun t ht => State.writeRecords_length_lt hfu ht⟩

/-- Past a written record, the next slot of the ring is fresh where it was before. -/
theorem State.fresh_wrote {s : State} (h : s.fresh (s.journal.produced + 1)) (r : Record) :
    (s.wrote r).fresh (s.wrote r).journal.produced := by
  intro p hp
  rcases List.mem_append.mp hp with hp | hp
  · exact h p hp
  · rw [List.mem_singleton.mp hp, ringPosting_addr_toNat]
    change _ ≠ 0x8000 + 16 * ((s.journal.produced + 1).toNat % 256)
    rw [BitVec.toNat_add]
    change _ ≠ 0x8000 + 16 * ((s.journal.produced.toNat + 1) % 65536 % 256)
    omega

/-- A GAP record and the record after it are written together, or wait together (R183). -/
theorem State.placeRecord_pair {s : State} (hlt : s.journal.fill < 255) (hlost : s.journal.lost ≠ 0)
    (hf : s.fresh s.journal.produced) (hf' : s.fresh (s.journal.produced + 1)) (r : Record) :
    (31 ≤ s.queue.length → s.placeRecord r = none) ∧
    (s.queue.length < 31 → s.placeRecord r = some ((s.gapTold.wrote (gapRecord s.tick s.journal.lost)).wrote r)) := by
  have next : State.fresh _ _ := State.fresh_wrote (s := s.gapTold) hf' (gapRecord s.tick s.journal.lost)
  have longer : (s.gapTold.wrote (gapRecord s.tick s.journal.lost)).queue.length = s.queue.length + 1 := List.length_append
  have gap (h : s.queue.length < 32) := State.writeRecords_cons (s := s.gapTold) hf h (gapRecord s.tick s.journal.lost) [r]
  rw [State.placeRecord_gap hlt hlost]
  refine ⟨fun hlen => ?_, fun hlen => (gap (by omega)).trans (State.writeRecords_cons next (by omega) r [])⟩
  by_cases hfull : 32 ≤ s.queue.length
  · exact State.writeRecords_full (s := s.gapTold) hf hfull _ _
  · rw [gap (by omega)]
    exact State.writeRecords_full next (by omega) r []

/-! ### HANDOVER_PLACE (R175, R184) -/

section
variable {s : State} (hin : s.inReset = false) {i : Item} {rest : List Item} (hl : s.journal.handOver = i :: rest)
include hin hl

theorem exec_handoverPlace_waits (h : s.placeItem i = none) : exec .handoverPlace s = .next s := by
  refine congrArg Host.Outcome.next ((if_neg (by simp [hin])).trans ?_)
  unfold State.placeHandOver
  rw [hl]
  dsimp only
  rw [h]

theorem exec_handoverPlace_behind {t : State} (h : s.placeItem i = some t) (hw : s.walker.toPlace ≠ [])
    (hneeds : s.queue.length < t.queue.length ∨ s.walkerHolds i = true) : exec .handoverPlace s = .next s := by
  refine congrArg Host.Outcome.next ((if_neg (by simp [hin])).trans ?_)
  unfold State.placeHandOver
  rw [hl]
  dsimp only
  rw [h]
  exact if_pos ⟨hw, hneeds⟩

theorem exec_handoverPlace_places {t : State} (h : s.placeItem i = some t)
    (hfree : s.walker.toPlace = [] ∨ t.queue.length ≤ s.queue.length ∧ s.walkerHolds i = false) :
    exec .handoverPlace s = .next { t with journal := { t.journal with handOver := rest } } := by
  refine congrArg Host.Outcome.next ((if_neg (by simp [hin])).trans ?_)
  unfold State.placeHandOver
  rw [hl]
  dsimp only
  rw [h]
  refine if_neg ?_
  rintro ⟨hw, hneeds⟩
  obtain ⟨hlen, hnot⟩ := hfree.resolve_left hw
  rcases hneeds with g | g
  · omega
  · rw [hnot] at g
    cases g

end

/-- The walker has a word of the item's descriptor left to place. -/
theorem State.walkerHolds_word (s : State) (a : Half) (w : Word) (f : Bool) :
    s.walkerHolds (.word a w f) = true ↔ ∃ b w' f', Item.word b w' f' ∈ s.walker.toPlace ∧ descOf b = descOf a := by
  unfold State.walkerHolds
  rw [List.any_eq_true]
  constructor
  · rintro ⟨x, hx, hd⟩
    cases x with
    | word b w' f' => exact ⟨b, w', f', hx, of_decide_eq_true hd⟩
    | record r => cases hd
  · rintro ⟨b, w', f', hx, hd⟩
    exact ⟨_, hx, decide_eq_true hd⟩

/-- Settles O48: the layouts, and the placing of the head of the list case by case. -/
theorem handOverPlacesByTheTable : Obligations.HandOverPlacesByTheTable := by
  refine ⟨fun r => ?_, statusWord_carries, fun s i rest hin hl => ?_⟩
  · obtain ⟨hfirst, hlast⟩ := r.words_carry
    exact ⟨hfirst, rfl, rfl, hlast⟩
  intro j ring entry sat gap fresh waits walkerWaits held
  have behind {t : State} (h : s.placeItem i = some t) := exec_handoverPlace_behind hin hl h
  have places {t : State} (h : s.placeItem i = some t) := exec_handoverPlace_places hin hl h
  refine ⟨exec_handoverPlace_waits hin hl, fun hw t ht => places ht (.inl hw), ?_, ?_⟩
  · rintro a w f rfl
    have word {q : List Posting} (h : joinQueue s.queue (.word a w f) = some q) :
        s.placeItem (.word a w f) = some { s with queue := q } := congrArg (Option.map _) h
    have heldIff : held a ↔ s.walkerHolds (.word a w f) = true := (s.walkerHolds_word a w f).symm
    refine ⟨fun hm hnot => ?_, fun hheld => ?_, fun hf => ⟨fun hw hlen => ?_, fun hor => ?_⟩⟩
    · exact places (word (joinQueue_of_some hm)) (.inr ⟨(List.length_map ..).le, Bool.eq_false_iff.mpr fun g => hnot (heldIff.mpr g)⟩)
    · have hholds := heldIff.mp hheld
      obtain ⟨b, w', f', hb, -⟩ := hheld
      cases hp : s.placeItem (.word a w f) with
      | none => exact exec_handoverPlace_waits hin hl hp
      | some t => exact behind hp (List.ne_nil_of_mem hb) (.inr hholds)
    · exact places (word (joinQueue_of_fresh hf hlen)) (.inl (not_not.mp hw))
    · by_cases hlen : s.queue.length < 32
      · refine behind (word (joinQueue_of_fresh hf hlen)) (hor.resolve_right (by omega)) (.inl ?_)
        simp
      · refine exec_handoverPlace_waits hin hl ?_
        exact congrArg (Option.map _) (joinQueue_full hf (by omega))
  · rintro r rfl
    have hsat : satInc s.journal.lost = sat s.journal.lost := satInc_eq _
    refine ⟨fun hfull => ?_, fun hfill hf => ?_⟩
    · rw [← hsat]
      exact places (State.placeRecord_full hfull r) (.inr ⟨le_refl _, rfl⟩)
    obtain ⟨hnone, hneeds⟩ := State.placeRecord_needs_entry hfill hf r
    refine ⟨fun hor => ?_, fun hw hlost hlen => ?_, fun hw hlost h255 hlen => ?_, fun hw hlost hlt hf' hlen => ?_,
      fun hlost hlt hf' hlen => ?_⟩
    · by_cases hlen : 32 ≤ s.queue.length
      · exact exec_handoverPlace_waits hin hl (hnone hlen)
      · cases hp : s.placeItem (.record r) with
        | none => exact exec_handoverPlace_waits hin hl hp
        | some t => exact behind hp (hor.resolve_right hlen) (.inl (hneeds t hp))
    · exact places ((State.placeRecord_next hfill hlost r).trans (State.writeRecords_cons hf hlen r [])) (.inl (not_not.mp hw))
    · rw [← hsat]
      exact places ((State.placeRecord_last h255 hlost r).trans (State.writeRecords_cons (s := s.gapTold) hf hlen _ []))
        (.inl (not_not.mp hw))
    · have two : j.produced + 2 = j.produced + 1 + 1 := by bv_omega
      refine (places ((State.placeRecord_pair hlt hlost hf hf' r).2 hlen) (.inl (not_not.mp hw))).trans ?_
      rw [two]
      refine congrArg (fun queue => Host.Outcome.next { s with
        queue, journal := { j with produced := j.produced + 1 + 1, lost := 0, handOver := rest } }) ?_
      exact List.append_assoc s.queue [_] [_]
    · exact exec_handoverPlace_waits hin hl ((State.placeRecord_pair hlt hlost hf hf' r).1 hlen)

end Sys2Proof.Machine
end

section
/-!
The walker: how it places its items, and what follows the last (R66 to R70, R175): O47.
-/

namespace Sys2Proof.Machine

open Sys2Proof

/-! ### The Journal Writer (R175) -/

theorem exec_handoverPlace {s : State} (hin : s.inReset = false) : exec .handoverPlace s = .next s.placeHandOver :=
  congrArg Host.Outcome.next (if_neg (by simp [hin]))

/-- The writer's placing touches the Posting Queue and the journal alone. -/
theorem writerPlaces_only (s : State) :
    s.writerPlaces = { s with queue := s.writerPlaces.queue, journal := s.writerPlaces.journal } :=
  writerPlaces_induct (P := fun t => t = { s with queue := t.queue, journal := t.journal })
    (fun t ht => by rw [placeHandOver_only t, ht]) rfl

/-- What the writer has placed is the first part of its list. -/
theorem writerPlaces_handOver (s : State) : ∃ placed, s.journal.handOver = placed ++ s.writerPlaces.journal.handOver := by
  refine writerPlaces_induct (P := fun t => ∃ placed, s.journal.handOver = placed ++ t.journal.handOver) ?_ ⟨[], rfl⟩
  rintro t ⟨placed, ht⟩
  rcases placeHandOver_list t with h | ⟨i, h⟩
  · exact ⟨placed, by rw [h]; exact ht⟩
  · exact ⟨placed ++ [i], by rw [ht, h, List.append_assoc]; rfl⟩

/-! ### Placing does not look at the walker -/

theorem writeRecords_withWalker (s : State) (w : Walker) (l : List Record) :
    State.writeRecords { s with walker := w } l = (s.writeRecords l).map fun t => { t with walker := w } := by
  induction l generalizing s with
  | nil => rfl
  | cons r l ih =>
    rw [State.writeRecords, State.writeRecords]
    dsimp only
    cases joinQueue s.queue (ringPosting s.journal.produced r) with
    | none => rfl
    | some q => exact ih { s with queue := q, journal := { s.journal with produced := s.journal.produced + 1 } }

theorem placeItem_withWalker (s : State) (w : Walker) (i : Item) :
    State.placeItem { s with walker := w } i = (s.placeItem i).map fun t => { t with walker := w } := by
  cases i with
  | word a d f =>
    change Option.map _ (joinQueue s.queue _) = Option.map _ (Option.map _ (joinQueue s.queue _))
    rw [Option.map_map]
    rfl
  | record r =>
    change State.placeRecord _ r = Option.map _ (s.placeRecord r)
    unfold State.placeRecord
    dsimp only
    split_ifs
    · rfl
    · exact writeRecords_withWalker s w [r]
    · exact writeRecords_withWalker s.gapTold w _
    · exact writeRecords_withWalker s.gapTold w _

theorem placeItems_withWalker (s : State) (w : Walker) (l : List Item) :
    State.placeItems { s with walker := w } l = ({ (s.placeItems l).1 with walker := w }, (s.placeItems l).2) := by
  induction l generalizing s with
  | nil => rfl
  | cons i l ih =>
    rw [State.placeItems, State.placeItems, placeItem_withWalker]
    cases s.placeItem i with
    | none => rfl
    | some t => exact ih t

/-! ### The walker's placing, item by item (R68) -/

section
variable {s : State} {i : Item} {rest : List Item} (hl : s.walker.toPlace = i :: rest)
include hl

theorem walkerPlaces_waits (h : s.placeItem i = none) : s.walkerPlaces = s := by
  unfold State.walkerPlaces
  rw [hl, State.placeItems, h]
  dsimp only
  rw [← hl]

theorem walkerPlaces_next {t : State} (h : s.placeItem i = some t) :
    s.walkerPlaces = State.walkerPlaces { t with walker := { s.walker with toPlace := rest } } := by
  have hw : t.walker = s.walker := by rw [placeItem_only h]
  have hkeep : (t.placeItems rest).1.walker = t.walker := by
    have e := placeItems_withWalker t t.walker rest
    exact congrArg (fun p : State × List Item => p.1.walker) e
  unfold State.walkerPlaces
  rw [hl, State.placeItems, h, placeItems_withWalker]
  dsimp only
  rw [hkeep, hw]

end

theorem walkerPlaces_done {s : State} (hl : s.walker.toPlace = []) : s.walkerPlaces = s := by
  unfold State.walkerPlaces
  rw [hl, State.placeItems]
  dsimp only
  rw [← hl]

theorem walkerPlaces_last {s t : State} {i : Item} (hl : s.walker.toPlace = [i]) (h : s.placeItem i = some t) :
    s.walkerPlaces = { t with walker := { s.walker with toPlace := [] } } :=
  (walkerPlaces_next hl h).trans (walkerPlaces_done rfl)

/-- A run in DECIDING is told by what the walker's placing leaves. -/
theorem walkerRun_congr {s t : State} (h : s.walkerPlaces = t.walkerPlaces) : s.walkerRun = t.walkerRun := by
  unfold State.walkerRun
  rw [h]

theorem exec_walkerPostingPlace {s : State} (hin : s.inReset = false) (hw : s.walker.state = .deciding)
    (hl : s.walker.toPlace ≠ []) : exec .walkerPostingPlace s = .next s.walkerRun :=
  congrArg Host.Outcome.next (if_pos ⟨hin, hw, hl⟩)

theorem walkerRun_waits {s : State} {i : Item} {rest : List Item} (hl : s.walker.toPlace = i :: rest)
    (h : s.placeItem i = none) : s.walkerRun = s := by
  unfold State.walkerRun
  rw [walkerPlaces_waits hl h]
  exact if_pos (by simp [hl])

/-- The last item placed, the end tests follow (R69). -/
theorem walkerRun_last {s t : State} {i : Item} (hl : s.walker.toPlace = [i]) (he : s.walker.ending = false)
    (h : s.placeItem i = some t) :
    s.walkerRun = if (State.followChain { t with walker := { s.walker with toPlace := [] } }).walker.ending
      then (State.followChain { t with walker := { s.walker with toPlace := [] } }).endWalk
      else State.followChain { t with walker := { s.walker with toPlace := [] } } := by
  unfold State.walkerRun
  rw [walkerPlaces_last hl h]
  exact (if_neg (by simp)).trans (if_neg (by simp [he]))

/-! ### The end of a walk (R70) -/

/-- The CHAIN_END record waits, or is placed and the walk finished: the next head walked, or the walker IDLE (R70). -/
def State.walkEnds (w : Walker) (t : State) (r : Record) (next : State) : Prop :=
  (t.placeItem (.record r) = none → next = { t with walker := { w with ending := true, toPlace := [.record r] } }) ∧
  ∀ v, t.placeItem (.record r) = some v → next.attn = { t.attn with chainEnd := true } ∧ next.queue = v.queue ∧
    next.journal = v.journal ∧ next.engine = t.engine ∧
    (w.heads = [] → next.walker = { w with state := .idle, current := none, halt := false, fetched := none,
                                           toPlace := [], ending := false } ∧ next.port = t.port) ∧
    ∀ o rest, w.heads = o :: rest →
      next.walker = { state := .fetching, current := some o, examined := 0, halt := false, heads := rest,
                      fetched := none, toPlace := [], ending := false } ∧
      next.port = { t.port with requests := t.port.requests ++ [.walker] }

theorem finishWalk_facts {t v : State} {i : Item} (h : t.placeItem i = some v) (w : Walker) (items : List Item) (ending : Bool) :
    let next := State.finishWalk { v with walker := { w with ending, toPlace := items } }
    next.attn = { t.attn with chainEnd := true } ∧ next.queue = v.queue ∧ next.journal = v.journal ∧ next.engine = t.engine ∧
    (w.heads = [] → next.walker = { w with state := .idle, current := none, halt := false, fetched := none,
                                           toPlace := [], ending := false } ∧ next.port = t.port) ∧
    ∀ o rest, w.heads = o :: rest →
      next.walker = { state := .fetching, current := some o, examined := 0, halt := false, heads := rest,
                      fetched := none, toPlace := [], ending := false } ∧
      next.port = { t.port with requests := t.port.requests ++ [.walker] } := by
  have hv := placeItem_only h
  have hengine : v.engine = t.engine := by rw [hv]; rfl
  have hattn : v.attn = t.attn := by rw [hv]
  have hport : v.port = t.port := by rw [hv]
  dsimp only
  rw [finishWalk_engine]
  unfold State.finishWalk
  dsimp only
  rw [hattn, ← hengine]
  cases w.heads with
  | nil => exact ⟨rfl, rfl, rfl, rfl, fun _ => ⟨rfl, hport⟩, nofun⟩
  | cons o rest =>
    refine ⟨rfl, rfl, rfl, rfl, nofun, fun o' rest' h => ?_⟩
    cases h
    exact ⟨rfl, by rw [← hport]; rfl⟩

/-- A walk that has its CHAIN_END record to place ends as R70 says. -/
theorem endWalk_walkEnds (t : State) (w : Walker) (r : Record) :
    State.walkEnds w t r (State.endWalk { t with walker := { w with ending := true, toPlace := [.record r] } }) := by
  have hplace := placeItem_withWalker t { w with ending := true, toPlace := [.record r] } (.record r)
  constructor
  · intro hnone
    rw [hnone] at hplace
    unfold State.endWalk
    rw [walkerPlaces_waits rfl hplace]
    exact if_neg (by simp)
  · intro v hv
    rw [hv] at hplace
    have hend : State.endWalk { t with walker := { w with ending := true, toPlace := [.record r] } } =
        State.finishWalk { v with walker := { w with ending := true, toPlace := [] } } := by
      unfold State.endWalk
      rw [walkerPlaces_last rfl hplace]
      exact if_pos rfl
    rw [hend]
    exact finishWalk_facts hv w [] true

theorem walkerRun_ending {s : State} {r : Record} (hl : s.walker.toPlace = [.record r]) (he : s.walker.ending = true) :
    s.walkerRun = State.endWalk { s with walker := { s.walker with ending := true, toPlace := [.record r] } } := by
  have hs : s = { s with walker := { s.walker with ending := true, toPlace := [.record r] } } := by rw [← he, ← hl]
  rw [← hs]
  unfold State.walkerRun State.endWalk
  have hkeep : s.walkerPlaces.walker.ending = true := by
    cases hp : s.placeItem (.record r) with
    | none => rw [walkerPlaces_waits hl hp]; exact he
    | some t => rw [walkerPlaces_last hl hp]; exact he
  dsimp only
  rw [if_pos hkeep]
  exact ite_not ..

/-! ### The end tests (R69, Table 4-6) -/

/-- The code of the reason a walk ends for, by Table 4-6; none where the chain goes on. -/
theorem Walker.endTest_cases (w : Walker) (d : Desc) :
    let goesOn := d.next.toNat % 32 = 0 ∧ 0x4000 ≤ d.next.toNat ∧ d.next.toNat ≤ 0x7FE0
    let last := d.last = true ∨ d.next = 0xFFFF#16
    (w.halt = false → ¬last → goesOn → w.examined < 256 → w.endTest d = none) ∧
    ∀ (code : Byte), (w.halt = true ∧ code = 4) ∨ (w.halt = false ∧ last ∧ code = 1) ∨
        (w.halt = false ∧ ¬last ∧ ¬goesOn ∧ code = 2) ∨ (w.halt = false ∧ ¬last ∧ goesOn ∧ 256 ≤ w.examined ∧ code = 3) →
      ∃ e, w.endTest d = some e ∧ e.code = code ∧ (e = .badLink ↔ code = 2) := by
  intro goesOn last
  have hlast : d.endsChain = true ↔ last := by simp [Desc.endsChain, last]
  have hgoes : validPoolOffset d.next.toNat = true ↔ goesOn := validPoolOffset_iff _
  have notBad (g : goesOn) : ¬(!validPoolOffset d.next.toNat) = true := by simp [hgoes.mpr g]
  unfold Walker.endTest
  refine ⟨fun hh hl hg hx => ?_, ?_⟩
  · rw [if_neg (by simp [hh]), if_neg (hlast.not.mpr hl), if_neg (notBad hg), if_neg (by omega)]
  · rintro code (⟨hh, rfl⟩ | ⟨hh, hl, rfl⟩ | ⟨hh, hl, hg, rfl⟩ | ⟨hh, hl, hg, hx, rfl⟩)
    · exact ⟨.halted, if_pos hh, rfl, by decide⟩
    · refine ⟨.endOfChain, ?_, rfl, by decide⟩
      rw [if_neg (by simp [hh]), if_pos (hlast.mpr hl)]
    · refine ⟨.badLink, ?_, rfl, by decide⟩
      rw [if_neg (by simp [hh]), if_neg (hlast.not.mpr hl), if_pos (by simpa using hgoes.not.mpr hg)]
    · refine ⟨.limit, ?_, rfl, by decide⟩
      rw [if_neg (by simp [hh]), if_neg (hlast.not.mpr hl), if_neg (notBad hg), if_pos hx]

/-- What becomes of the walk when the last posting of a decision is placed. -/
theorem followChain_cases {s : State} {f : Fetch} (hf : s.walker.fetched = some f) :
    (s.walker.endTest (decodeDesc f) = none → s.followChain =
      { s with walker := { s.walker with state := .fetching, current := some (decodeDesc f).next, fetched := none },
               port := { s.port with requests := s.port.requests ++ [.walker] } }) ∧
    ∀ e, s.walker.endTest (decodeDesc f) = some e → s.followChain =
      { s with walker := { s.walker with ending := true, toPlace := [.record (chainEndRecord s.tick s.walker (decodeDesc f) e)] } } := by
  constructor
  · intro h
    unfold State.followChain
    rw [hf]
    dsimp only
    rw [h]
  · intro e h
    unfold State.followChain
    rw [hf]
    dsimp only
    rw [h]

/-! ### When a record waits (R183) -/

/-- A record that is written alone waits exactly at a full queue; one that needs a GAP before it, where fewer than two entries are
free (R173, R183). -/
theorem State.placeRecord_none_iff {s : State} (hfill : s.journal.fill < 256) (hf : s.fresh s.journal.produced) (r : Record) :
    let pair := s.journal.lost ≠ 0 ∧ s.journal.fill < 255
    (¬pair → (s.placeRecord r = none ↔ 32 ≤ s.queue.length)) ∧
    (pair → s.fresh (s.journal.produced + 1) → (s.placeRecord r = none ↔ 31 ≤ s.queue.length)) := by
  intro pair
  have waits := (State.placeRecord_needs_entry hfill hf r).1
  refine ⟨fun hp => ⟨fun h => not_lt.mp fun hlen => ?_, waits⟩, fun hp hf' => ?_⟩
  · by_cases hl : s.journal.lost = 0
    · rw [State.placeRecord_next hfill hl, State.writeRecords_cons hf hlen] at h
      cases h
    · have h255 : s.journal.fill = 255 := by
        have : ¬ s.journal.fill < 255 := fun g => hp ⟨hl, g⟩
        omega
      rw [State.placeRecord_last h255 hl, State.writeRecords_cons (s := s.gapTold) hf hlen] at h
      cases h
  · obtain ⟨hnone, hsome⟩ := State.placeRecord_pair hp.2 hp.1 hf hf' r
    refine ⟨fun h => not_lt.mp fun hlen => ?_, hnone⟩
    rw [hsome hlen] at h
    cases h

theorem walker_inReset_of_outer {s t : State} (h : t.outer = s.outer) : t.walker = s.walker ∧ t.inReset = s.inReset :=
  ⟨congrArg Outer.walker h, congrArg Outer.inReset h⟩

/-- Settles O47: the placing, the completion of a burst, a decision's settling, and the walker's goings on. -/
theorem walkerPlacesAndFollowsTheChain : Obligations.WalkerPlacesAndFollowsTheChain := by
  refine ⟨fun s a w final => ⟨fun h => ?_, fun h => ⟨fun hlen => ?_, fun hlen => ?_⟩⟩,
    fun s r => ⟨fun hfull => ?_, fun hfill hf => State.placeRecord_none_iff hfill hf r⟩,
    fun s hin => ⟨fun h => ?_, fun t h => ?_⟩, fun s => ?_, fun s u items hin hw hi => ?_, fun s hin hw => ?_⟩
  · exact congrArg (Option.map _) (joinQueue_of_some h)
  · exact congrArg (Option.map _) (joinQueue_of_fresh h hlen)
  · exact congrArg (Option.map _) (joinQueue_full h hlen)
  · exact (State.placeRecord_full hfull r).trans_ne (Option.some_ne_none _)
  · rw [exec_handoverPlace hin] at h
    exact writerPlaces_of_waits (Host.Outcome.next.inj h)
  · rw [exec_handoverPlace hin] at h
    rw [← Host.Outcome.next.inj h]
    exact writerPlaces_placeHandOver s
  · have honly := writerPlaces_only s
    refine ⟨?_, ?_, ?_, ?_, ?_, ?_, writerPlaces_handOver s⟩
    · unfold State.enterDeciding State.endGrant
      dsimp only
      rw [honly]
    all_goals rw [honly]
    rfl
  · obtain ⟨hwalker, hreset⟩ := walker_inReset_of_outer (State.outer_finish s u)
    unfold State.settle
    dsimp only
    rw [hwalker]
    generalize s.finish u = v at hreset
    exact exec_walkerPostingPlace (s := { v with walker := { u.walker with toPlace := items } }) (hreset.trans hin) hw hi
  intro w ended
  have run {l : List Item} {i : Item} (hl : w.toPlace = i :: l) : exec .walkerPostingPlace s = .next s.walkerRun :=
    exec_walkerPostingPlace hin hw (by rw [hl]; exact List.cons_ne_nil _ _)
  refine ⟨fun i rest hl h => ?_, fun i j rest t hl h => ?_, fun r hl he => ?_, fun i t f hl he h hf => ?_⟩
  · rw [run hl, walkerRun_waits hl h]
  · have ht := placeItem_only h
    have hreset : t.inReset = false := by rw [ht]; exact hin
    rw [run hl, walkerRun_congr (walkerPlaces_next hl h)]
    exact (exec_walkerPostingPlace (s := { t with walker := { w with toPlace := j :: rest } }) hreset hw
      (List.cons_ne_nil _ _)).symm
  · refine ⟨_, run hl, ?_⟩
    rw [walkerRun_ending hl he]
    exact endWalk_walkEnds s w r
  intro d goesOn last
  have ht := placeItem_only h
  have htick : t.tick = s.tick := by rw [ht]
  obtain ⟨hgo, hend⟩ := followChain_cases (s := { t with walker := { w with toPlace := [] } }) hf
  obtain ⟨htest, hcodes⟩ := Walker.endTest_cases { w with toPlace := [] } d
  refine ⟨fun hh hlast hg hx => ?_, fun code hcode => ?_⟩
  · rw [run hl, walkerRun_last hl he h, hgo (htest hh hlast hg hx)]
    exact congrArg Host.Outcome.next (if_neg (by simp [he]))
  · obtain ⟨e, hsome, hecode, hbad⟩ := hcodes code hcode
    have hrec : chainEndRecord t.tick { w with toPlace := [] } d e =
        { kind := .chainEnd, code, tick := s.tick, desc := w.current, detail := BitVec.ofNat 16 w.examined,
          tag := if code = 2 then some (d.next.setWidth 32) else none } := by
      unfold chainEndRecord
      simp only [hecode, htick, hbad]
    refine ⟨_, (run hl).trans (congrArg Host.Outcome.next ((walkerRun_last hl he h).trans ?_)), endWalk_walkEnds t w _⟩
    rw [hend e hsome, ← hrec]
    exact if_pos rfl

end Sys2Proof.Machine
end

section
/-!
The decisions that enter or take over a slot at once: ADOPT (R72, R98, R102) and the RELEASE of a RISING or ADJUSTING channel (R74, R96,
R110): O41 and O44.
-/

namespace Sys2Proof.Machine

open Sys2Proof

/-! ### ADOPT (R72) -/

theorem SameButPlacing.heldBetween {s t : State} (h : SameButPlacing s t) (a b : SiteId) : t.heldBetween a b = s.heldBetween a b := by
  rw [h]; rfl

theorem SameButMaps.heldBetween {s t : State} (h : SameButMaps s t) (a b : SiteId) : t.heldBetween a b = s.heldBetween a b := by
  rw [h]; rfl

theorem passDue_reserve (s : State) (h : Handle) (fp : List EntryRef) : (s.reserve h fp).passDue = s.passDue :=
  foldl_keeps _ _ (fun t r => passDue_reserveOne h t r) fp s

/-- The slot of an ADOPT before its request is placed (R98). -/
def State.adoptSlot (s : State) (h : Handle) (off : Half) : Slot :=
  { kind := .adopt, handle := h, desc := some off, dest := (s.chan h).dstSite, swing := 0, held := s.isHeld h, drive := .stopped }

/-- The state with an ADOPT in its slot and the LEVEL work of its channel dropped, before its request is placed (R98, R117). -/
def State.adopting (s : State) (k : SlotId) (h : Handle) (off : Half) : State :=
  (s.setSlot k (some (s.adoptSlot h off))).dropLevel (s.chan h).dstSite h

theorem State.placeAdopt_eq (s : State) (k : SlotId) (h : Handle) (off : Half) :
    s.placeAdopt k h off = if s.isHeld h then s.adopting k h off else (s.adopting k h off).placeRamp k := rfl

theorem State.slot_adopting (s : State) (k : SlotId) (h : Handle) (off : Half) (j : SlotId) :
    (s.adopting k h off).slot j = if j = k then some (s.adoptSlot h off) else s.slot j := by
  rw [State.adopting, State.slot_dropLevel, State.slot_setSlot]

theorem State.link_adopting (s : State) (k : SlotId) (h : Handle) (off : Half) (m : SiteId) :
    (s.adopting k h off).link m = if m = (s.chan h).dstSite then (s.link m).withoutLevel h else s.link m := by
  rw [State.adopting, State.link_dropLevel, State.link_setSlot]

theorem adopting_only (s : State) (k : SlotId) (h : Handle) (off : Half) : SameButLinks s (s.adopting k h off) :=
  (setSlot_only s k _).trans (dropLevel_only _ _ _)

theorem placeAdopt_only (s : State) (k : SlotId) (h : Handle) (off : Half) : SameButLinks s (s.placeAdopt k h off) := by
  rw [State.placeAdopt_eq]
  split
  · exact adopting_only s k h off
  · exact (adopting_only s k h off).trans (placeRamp_only _ _)

/-- What an adopting leaves of the slots and links: the ADOPT at rest when held, QUEUED behind a busy module's queue, SENT by an idle
module with nothing waiting, and no other module's link touched (R98, R102, R117). -/
structure State.Adopted (s u : State) (k : SlotId) (h : Handle) (off : Half) (drive : Drive) : Prop where
  own : u.slot k = some { s.adoptSlot h off with drive }
  others : ∀ m, m ≠ (s.chan h).dstSite → u.link m = s.link m
  held : s.isHeld h = true → drive = .stopped ∧ (∀ j, j ≠ k → u.slot j = s.slot j) ∧
    u.link (s.chan h).dstSite = (s.link (s.chan h).dstSite).withoutLevel h
  placed : s.isHeld h = false → drive = .queued ∨ drive = .sent
  busy : s.isHeld h = false → (s.link (s.chan h).dstSite).out ≠ none → drive = .queued ∧ (∀ j, j ≠ k → u.slot j = s.slot j) ∧
    u.link (s.chan h).dstSite = { (s.link (s.chan h).dstSite).withoutLevel h with
      queue := ((s.link (s.chan h).dstSite).withoutLevel h).queue ++ [.ramp k] }
  idle : s.isHeld h = false → (s.link (s.chan h).dstSite).out = none → ((s.link (s.chan h).dstSite).withoutLevel h).queue = [] →
    (s.link (s.chan h).dstSite).shutters = [] → drive = .sent ∧ (∀ j, j ≠ k → u.slot j = s.slot j) ∧
    u.link (s.chan h).dstSite = ((s.link (s.chan h).dstSite).withoutLevel h).sending k
      { module := (s.chan h).dstSite, seq := (s.link (s.chan h).dstSite).seq, first := (s.chan h).first, count := (s.chan h).count,
        input := (s.chan h).input, port := (s.chan h).outPort, setting := (s.chan h).motion.getD .blocked, cls := .ramp } []

theorem State.adopted_placeAdopt (s : State) (k : SlotId) (h : Handle) (off : Half) :
    ∃ drive, s.Adopted (s.placeAdopt k h off) k h off drive := by
  have hx : (s.adopting k h off).slot k = some (s.adoptSlot h off) := by rw [State.slot_adopting, if_pos rfl]
  have hlink : (s.adopting k h off).link (s.adoptSlot h off).dest = (s.link (s.chan h).dstSite).withoutLevel h :=
    (State.link_adopting ..).trans (if_pos rfl)
  have hother {j : SlotId} (hj : j ≠ k) : (s.adopting k h off).slot j = s.slot j := by rw [State.slot_adopting, if_neg hj]
  have hlinks {m : SiteId} (hm : m ≠ (s.chan h).dstSite) : (s.adopting k h off).link m = s.link m := by
    rw [State.link_adopting, if_neg hm]
  cases hheld : s.isHeld h with
  | true =>
    have hu : s.placeAdopt k h off = s.adopting k h off := (State.placeAdopt_eq ..).trans (if_pos hheld)
    rw [hu]
    exact ⟨.stopped, hx, fun _ => hlinks, fun _ => ⟨rfl, fun _ => hother, hlink⟩, by simp [hheld], by simp [hheld], by simp [hheld]⟩
  | false =>
    have hu : s.placeAdopt k h off = (s.adopting k h off).placeRamp k := (State.placeAdopt_eq ..).trans (if_neg (by simp [hheld]))
    obtain ⟨drive, hdrive, hslot⟩ := State.slot_placeRamp_self hx
    rw [hu]
    refine ⟨drive, hslot, fun m hm => (State.link_placeRamp_of_ne hx hm).trans (hlinks hm), by simp [hheld], fun _ => hdrive,
      fun _ ho => ?_, fun _ ho hq hs => ?_⟩
    · have hp := State.placeRamp_of_busy hx (by rw [hlink]; simpa [Link.withoutLevel] using ho)
      rw [hp, State.slot_setSlot_self] at hslot
      rw [hp]
      refine ⟨(congrArg Slot.drive (Option.some.inj hslot)).symm, fun j hj => ?_, ?_⟩
      · rw [State.slot_setSlot_of_ne _ _ _ hj, State.slot_setLink, hother hj]
      · rw [State.link_setSlot]
        refine (State.link_setLink_self ..).trans ?_
        rw [hlink]
    · have hp := State.placeRamp_of_idle hx (by rw [hlink]; simpa [Link.withoutLevel] using ho)
        (by rw [hlink]; exact hs) (by rw [hlink]; exact hq)
      rw [hp, State.slot_setSlot_self] at hslot
      rw [hp]
      refine ⟨(congrArg Slot.drive (Option.some.inj hslot)).symm, fun j hj => ?_, ?_⟩
      · rw [State.slot_setSlot_of_ne _ _ _ hj, State.slot_setLink, hother hj]
      · rw [State.link_setSlot]
        refine (State.link_setLink_self ..).trans ?_
        have hc := (adopting_only s k h off).chan h
        unfold State.rampMessage
        rw [hlink]
        simp only [State.adoptSlot, hc, nextAttenuation_adopt]
        rfl

/-- The decision of an ADOPT that passes every check (R72). -/
theorem State.decideAdopt_of_ok {s : State} {off : Half} {d : Desc} {a b : End} {kind : ConnKind} {c c' : Channel} {k : SlotId}
    (hok : s.checkNew d true = .ok (a, b, kind)) (hc : s.filled d off a b kind = c)
    (hm : s.checkMaps c (fun x => decide (x = .free)) = none) (hk : s.freeSlot = some k)
    (hc' : { c with state := .adjusting, pending := some (.slot k), motion := some (.att (d.preset.getD 200)) } = c') :
    s.decideAdopt off d =
      ((((s.reserve d.handle c.footprint).setChan d.handle c').placeAdopt k d.handle off).enterFlight off,
        s.outcomePosts off .taken c.clamped 0 d.handle) := by
  subst hc hc'
  unfold State.decideAdopt
  rw [hok]
  dsimp only
  rw [hm]
  dsimp only
  rw [hk]

/-- The LEVEL work of a channel at a module, as R117 says it goes. -/
theorem Link.withoutLevel_said (l : Link) (h : Handle) : l.withoutLevel h =
    { l with
      queue := l.queue.filter fun r => match r with
        | .level g _ => decide (g ≠ h)
        | .ramp _ => true
      out := l.out.map fun o => if o.bind = .channel h ∧ o.msg.cls = .level then { o with bind := .detached } else o } := by
  have hfilter : (l.queue.filter fun r => !r.isLevelOf h) = l.queue.filter fun r => match r with
      | .level g _ => decide (g ≠ h)
      | .ramp _ => true := by
    refine List.filter_congr fun r _ => ?_
    cases r with
    | level g a => simp [Request.isLevelOf]
    | ramp k => rfl
  unfold Link.withoutLevel Outstanding.detachIf
  rw [hfilter]
  simp only [decide_eq_true_eq]

/-- Settles O41: the footprint by the reservation, the slot and the link by `Adopted`. -/
theorem adoptEntersTheLowestFreeSlot : Obligations.AdoptEntersTheLowestFreeSlot := by
  intro s off d a b kind k hf hin hk hfree hends h1 h16 h320 ha hb hp level c hfp hslot hlow
  let t := s.enterDeciding
  have ht : SameButPlacing s t := enterDeciding_placing s
  let c0 := t.filled d off a b kind
  have hc0 : c0 = { c with state := .dark, pending := none, motion := none } := by
    rw [show c0 = s.filled d off a b kind from ht.filled .., State.filled_eq]
  have hfp0 : c0.footprint = c.footprint := by rw [hc0]; rfl
  have hc : { c0 with state := .adjusting, pending := some (.slot k), motion := some (.att (d.preset.getD 200)) } = c := by
    rw [hc0, Desc.preset, if_pos hp]
    rfl
  have hok : t.checkNew d true = .ok (a, b, kind) := by
    rw [ht.checkNew]
    exact State.checkNew_ok hfree hends ⟨h1, h16, h320⟩ ha hb (.inl hp)
  have hm : t.checkMaps c0 (fun x => decide (x = .free)) = none := State.checkMaps_none fun x hx => by
    rw [ht.classOf]
    exact decide_eq_true (State.classOf_free.mpr (hfp x (hfp0 ▸ hx)))
  have hdecide := State.decideAdopt_of_ok hok rfl hm (ht.freeSlot.trans (State.freeSlot_of_lowest hslot hlow)) hc
  rw [hfp0] at hdecide
  have hmaps : SameButMaps t (t.reserve d.handle c.footprint) := reserve_only _ _ _
  generalize hr : (t.reserve d.handle c.footprint).setChan d.handle c = r at hdecide
  have hchan (h : Handle) : r.chan h = if h = d.handle then c else s.chan h := by
    rw [← hr, State.chan_setChan, hmaps.chan, ht.chan]
  have hself : r.chan d.handle = c := by rw [hchan, if_pos rfl]
  have hheld : r.isHeld d.handle = s.heldBetween a.site b.site := by
    unfold State.isHeld
    rw [hself, ← ht.heldBetween, ← hmaps.heldBetween, ← hr]
    rfl
  have hlink (m : SiteId) : r.link m = s.link m := by rw [← hr, State.link_setChan, hmaps.link, ht.link]
  have hslots (j : SlotId) : r.slot j = s.slot j := by rw [← hr, State.slot_setChan, hmaps.slot, ht.slot]
  have hentry (x : EntryRef) : r.entry x = if x ∈ c.footprint then { s.entry x with owner := some d.handle } else s.entry x := by
    rw [← hr, State.entry_setChan, State.entry_reserve (by rw [ht.chan, hfree]; decide), ht.entry]
    split
    · next hx =>
      unfold State.reserved
      rw [ht.classOf, State.classOf_free.mpr (hfp x hx), ht.entry]
    · rfl
  have hsame := placeAdopt_only r k d.handle off
  obtain ⟨drive, hown, hothers, hstop, hplaced, hbusy, hidle⟩ := r.adopted_placeAdopt k d.handle off
  have hu := enterFlight_only (r.placeAdopt k d.handle off) off
  have hflight := (r.placeAdopt k d.handle off).mem_enterFlight off
  generalize r.placeAdopt k d.handle off = p at *
  have hdest : (r.chan d.handle).dstSite = b.site := congrArg Channel.dstSite hself
  rw [hdest, hheld] at hstop hbusy hidle
  rw [hheld] at hplaced
  have hflightLink (m : SiteId) : (p.enterFlight off).link m = p.link m := by rw [hu]; rfl
  have hflightSlot (j : SlotId) : (p.enterFlight off).slot j = p.slot j := by rw [hu]; rfl
  have hslotEq : r.adoptSlot d.handle off =
      { kind := .adopt, handle := d.handle, desc := some off, dest := b.site, swing := 0,
        held := s.heldBetween a.site b.site, drive := .stopped } := by
    unfold State.adoptSlot
    rw [hdest, hheld]
  simp only [hlink, hslots, hself, Link.withoutLevel_said] at hstop hbusy hidle
  have hpass : r.waitList = s.waitList ∧ r.committed = s.committed ∧ r.passDue = s.passDue := by
    rw [← hr]
    exact ⟨hmaps.waitList.trans ht.waitList, hmaps.committed.trans ht.committed, (passDue_reserve ..).trans ht.passDue⟩
  refine ⟨p.enterFlight off, State.decides_adopt hf hin hk (hdecide.trans ?_), ?_, fun h hh => ?_, fun x => ?_, fun m hm => ?_, ?_, ?_,
    ?_, hflight, drive, ?_, fun hh => ?_, fun hh => ⟨hplaced hh, fun o ho => ?_, fun ho hq hs => ?_⟩⟩
  · rw [show t.filled d off a b kind = c0 from rfl, hc0, ← ht.tick]
    rfl
  · rw [hu]; exact (hsame.chan _).trans hself
  · rw [hu]; exact (hsame.chan h).trans ((hchan h).trans (if_neg hh))
  · rw [← hentry, ← hsame.entry, hu]; cases x <;> rfl
  · rw [hflightLink, hothers m (hdest ▸ hm), hlink]
  · rw [hu, ← hpass.1]; exact hsame.waitList
  · rw [hu, ← hpass.2.1]; exact hsame.committed
  · rw [hu, ← hpass.2.2]; exact hsame.passDue
  · rw [hflightSlot, hown, hslotEq]
  · simp only [hflightSlot, hflightLink]
    exact hstop hh
  · simp only [hflightSlot, hflightLink]
    obtain ⟨hd, hslots', hlink'⟩ := hbusy hh (by simp [ho])
    refine ⟨hd, hslots', hlink'.trans ?_⟩
    rw [ho]
    rfl
  · simp only [hflightSlot, hflightLink]
    obtain ⟨hd, hslots', hlink'⟩ := hidle hh ho hq hs
    refine ⟨hd, hslots', hlink'.trans ?_⟩
    unfold Link.sending
    rw [hs]
    rfl

/-! ### The takeover (R96, R110) -/

theorem State.passDue_releaseSwing (s : State) (n : SiteId) (w : Nat) :
    (s.releaseSwing n w).passDue = (s.passDue || decide (0 < w ∧ n.val < 8)) := by
  unfold State.releaseSwing
  by_cases hn : n.val < 8
  · rw [SiteId.degree?_of_degree hn]
    simp [State.due, hn]
  · rw [SiteId.degree?_of_group (by omega)]
    simp [hn]

/-- The FALL that takes over a slot, before it goes on by its drive state (R96, R110). -/
def State.fallSlot (s : State) (x : Slot) (h : Handle) (off : Half) : Slot :=
  { x with kind := .fall, desc := some off, restoreSite := none, swing := s.swing .fall (s.chan h) none,
           takeover := x.takeover || decide (x.drive = .sent) }

/-- The swing of the transition in a slot is released and that of its channel's FALL committed (R96). -/
def State.exchanged (s : State) (x : Slot) (h : Handle) : State :=
  (s.releaseSwing x.dest x.swing).commit x.dest (s.swing .fall (s.chan h) none)

/-- The state with a slot taken over, before the slot goes on by its drive state (R96). -/
def State.taken (s : State) (k : SlotId) (x : Slot) (h : Handle) (off : Half) : State :=
  ((s.exchanged x h).setSlot k (some (s.fallSlot x h off))).setChan h
    { s.chan h with state := .falling, motion := some .blocked, desc := some off }

section
variable (s : State) (k : SlotId) (x : Slot) (h : Handle) (off : Half)

theorem State.exchanged_eq :
    s.exchanged x h = { s with committed := (s.exchanged x h).committed, passDue := (s.exchanged x h).passDue } := by
  unfold State.exchanged
  rw [State.commit_eq]
  unfold State.releaseSwing
  cases SiteId.degree? x.dest <;> rfl

theorem State.takeOver_eq (hx : s.slot k = some x) :
    s.takeOver k h off = match x.drive with
      | .pacing _ => (s.taken k x h off).placeRamp k
      | .queued | .sent | .stopped => s.taken k x h off := by
  unfold State.takeOver
  rw [hx]
  rfl

theorem taken_eq : s.taken k x h off =
    { s with chans := (s.taken k x h off).chans, slots := (s.taken k x h off).slots, committed := (s.taken k x h off).committed,
             passDue := (s.taken k x h off).passDue } := by
  unfold State.taken
  rw [State.exchanged_eq]
  rfl

theorem State.link_taken (m : SiteId) : (s.taken k x h off).link m = s.link m := by rw [taken_eq]; rfl
theorem State.params_taken (n : SiteId) : (s.taken k x h off).params n = s.params n := by rw [taken_eq]; rfl
theorem State.entry_taken (y : EntryRef) : (s.taken k x h off).entry y = s.entry y := by rw [taken_eq]; cases y <;> rfl

theorem State.slot_taken (j : SlotId) : (s.taken k x h off).slot j = if j = k then some (s.fallSlot x h off) else s.slot j := by
  rw [State.taken, State.slot_setChan, State.slot_setSlot, State.exchanged_eq]
  rfl

theorem State.chan_taken (g : Handle) : (s.taken k x h off).chan g =
    if g = h then { s.chan h with state := .falling, motion := some .blocked, desc := some off } else s.chan g := by
  rw [State.taken, State.chan_setChan, State.chan_setSlot, State.exchanged_eq]
  rfl

theorem State.swingOf_taken (q : Fin 8) : (s.taken k x h off).swingOf q =
    if x.dest = degreeSite q then s.swingOf q - x.swing + s.swing .fall (s.chan h) none else s.swingOf q := by
  rw [State.taken, State.swingOf_setChan, State.swingOf_setSlot, State.exchanged, State.swingOf_commit, State.swingOf_releaseSwing]
  split <;> rfl

theorem State.passDue_taken : (s.taken k x h off).passDue = (s.passDue || decide (0 < x.swing ∧ x.dest.val < 8)) := by
  rw [State.taken, State.setChan_passDue, State.setSlot_passDue, State.exchanged, State.commit_eq]
  exact State.passDue_releaseSwing s _ _

end

/-- The takeover of a slot, as its drive state has it go on (R74, R96, R110). -/
theorem State.slot_takeOver {s : State} {k : SlotId} {x : Slot} (hx : s.slot k = some x) (h : Handle) (off : Half) :
    SameButLinks (s.taken k x h off) (s.takeOver k h off) ∧
    ∃ y, (s.takeOver k h off).slot k = some y ∧ y = { s.fallSlot x h off with drive := y.drive, takeover := y.takeover } ∧
      (x.drive = .sent → y.drive = .sent ∧ y.takeover = true) ∧
      (x.drive = .queued ∨ x.drive = .stopped → y.drive = x.drive ∧ y.takeover = x.takeover) ∧
      ((∃ n, x.drive = .pacing n) →
        y.takeover = false ∧ (∀ n, n ≠ x.dest → (s.takeOver k h off).link n = s.link n) ∧
        ((s.link x.dest).out ≠ none → y.drive = .queued ∧
          (s.takeOver k h off).link x.dest = { s.link x.dest with queue := (s.link x.dest).queue ++ [.ramp k] }) ∧
        ((s.link x.dest).out = none → (s.link x.dest).queue = [] → (s.link x.dest).shutters = [] → y.drive = .sent ∧
          (x.handle = h → (s.takeOver k h off).link x.dest =
            (s.link x.dest).sending k (s.rampMessage x .fall .blocked) []))) ∧
      ((∀ n, x.drive ≠ .pacing n) → s.takeOver k h off = s.taken k x h off) := by
  have hslot : (s.taken k x h off).slot k = some (s.fallSlot x h off) := by rw [State.slot_taken, if_pos rfl]
  have heq := State.takeOver_eq s k x h off hx
  have stays (hd : s.takeOver k h off = s.taken k x h off) :
      SameButLinks (s.taken k x h off) (s.takeOver k h off) ∧ (s.takeOver k h off).slot k = some (s.fallSlot x h off) := by
    rw [hd]
    exact ⟨.refl _, hslot⟩
  cases hd : x.drive with
  | sent =>
    rw [hd] at heq
    refine ⟨(stays heq).1, _, (stays heq).2, rfl, fun _ => ⟨hd, by simp [State.fallSlot, hd]⟩, by simp, by simp, fun _ => heq⟩
  | queued =>
    rw [hd] at heq
    refine ⟨(stays heq).1, _, (stays heq).2, rfl, by simp, fun _ => ⟨hd, by simp [State.fallSlot, hd]⟩, by simp, fun _ => heq⟩
  | stopped =>
    rw [hd] at heq
    refine ⟨(stays heq).1, _, (stays heq).2, rfl, by simp, fun _ => ⟨hd, by simp [State.fallSlot, hd]⟩, by simp, fun _ => heq⟩
  | pacing n =>
    rw [hd] at heq
    obtain ⟨drive, hdrive, hplaced⟩ := State.slot_placeRamp_self hslot
    rw [heq]
    refine ⟨placeRamp_only _ _, _, hplaced, rfl, by simp, by simp, fun _ => ⟨rfl, fun m hm => ?_, fun ho => ?_, fun ho hq hs => ?_⟩,
      fun hno => absurd rfl (hno n)⟩
    · rw [State.link_placeRamp_of_ne hslot hm, State.link_taken]
    · have hp := State.placeRamp_of_busy hslot (by rw [State.link_taken]; exact ho)
      rw [hp, State.slot_setSlot_self] at hplaced
      rw [hp, State.link_setSlot]
      refine ⟨(congrArg Slot.drive (Option.some.inj hplaced)).symm, (State.link_setLink_self ..).trans ?_⟩
      rw [State.link_taken]
      rfl
    · have hp := State.placeRamp_of_idle hslot (by rw [State.link_taken]; exact ho) (by rw [State.link_taken]; exact hs)
        (by rw [State.link_taken]; exact hq)
      rw [hp, State.slot_setSlot_self] at hplaced
      rw [hp, State.link_setSlot]
      refine ⟨(congrArg Slot.drive (Option.some.inj hplaced)).symm, fun hh => (State.link_setLink_self ..).trans ?_⟩
      subst hh
      have hchan : (s.taken k x x.handle off).chan (s.fallSlot x x.handle off).handle =
          { s.chan x.handle with state := .falling, motion := some .blocked, desc := some off } :=
        (State.chan_taken ..).trans (if_pos rfl)
      unfold State.rampMessage
      simp only [State.link_taken, State.params_taken, hchan]
      rfl

/-- Settles O44: the decision takes the slot over; what becomes of the slot, the link and the swings by `slot_takeOver`. -/
theorem releaseTakesTheSlotOver : Obligations.ReleaseTakesTheSlotOver := by
  intro s off d k x hf hin hk hstate hpend hx hfall h c w
  let t := s.enterDeciding
  have ht : SameButPlacing s t := enterDeciding_placing s
  have hx' : t.slot k = some x := by rw [ht.slot, hx]
  have hpend' : (t.chan h).pending = some (.slot k) := by rw [ht.chan, hpend]
  have htrans : t.transOf h = some (x.kind, x.desc) := by
    unfold State.transOf
    rw [hpend']
    dsimp only
    rw [hx']
    rfl
  have hdecide : t.decideRelease off d = ((t.takeOver k h off).enterFlight off, t.cancelItems h ++ t.outcomePosts off .taken false 0 h) := by
    unfold State.decideRelease
    rcases hstate with g | g
    all_goals
      rw [← ht.chan] at g
      simp only [g]
      rw [hpend']
  have hitems : t.cancelItems h ++ t.outcomePosts off .taken false 0 h =
      cancelled s.tick x.desc c.clamped c h ++ postings s.tick off .taken false 0 h false := by
    rw [State.cancelItems_of_some htrans, ht.chan, ← ht.tick, decide_eq_true hfall, Bool.true_and]
    rfl
  have hswing : t.swing .fall (t.chan h) none = w := by rw [ht]; rfl
  have hfallSlot : t.fallSlot x h off =
      { x with kind := .fall, desc := some off, restoreSite := none, swing := w, takeover := x.takeover || decide (x.drive = .sent) } := by
    unfold State.fallSlot
    rw [hswing]
  have hmsg : t.rampMessage x .fall .blocked = s.rampMessage x .fall .blocked := by rw [ht]; rfl
  obtain ⟨hsame, y, hy, hyEq, hsent, hrest, hpacing, hstays⟩ := State.slot_takeOver hx' h off
  rw [hfallSlot] at hyEq
  simp only [ht.link, hmsg] at hpacing
  have hu := enterFlight_only (t.takeOver k h off) off
  have hflightLink (m : SiteId) : ((t.takeOver k h off).enterFlight off).link m = (t.takeOver k h off).link m := by rw [hu]; rfl
  have hflightSlot (j : SlotId) : ((t.takeOver k h off).enterFlight off).slot j = (t.takeOver k h off).slot j := by rw [hu]; rfl
  have hchan (g : Handle) : ((t.takeOver k h off).enterFlight off).chan g =
      if g = h then { c with state := .falling, motion := some .blocked, desc := some off } else s.chan g := by
    have hflight : ((t.takeOver k h off).enterFlight off).chan g = (t.takeOver k h off).chan g := by rw [hu]; rfl
    rw [hflight, hsame.chan, State.chan_taken, ht.chan, ht.chan]
  refine ⟨_, State.decides_release hf hin hk (hdecide.trans (congrArg _ hitems)), ?_, fun g hg => ?_, fun y => ?_, ?_,
    State.mem_enterFlight _ _, ?_, fun q => ?_, y, ?_, hyEq, hsent, hrest, fun hp => ?_, fun hno => ⟨?_, fun j hj => ?_⟩⟩
  · rw [hchan, if_pos rfl]
  · rw [hchan, if_neg hg]
  · have hflight : ((t.takeOver k h off).enterFlight off).entry y = (t.takeOver k h off).entry y := by rw [hu]; cases y <;> rfl
    rw [hflight, hsame.entry, State.entry_taken, ht.entry]
  · rw [hu]
    exact hsame.waitList.trans ((congrArg State.waitList (taken_eq t k x h off)).trans ht.waitList)
  · rw [hu]
    exact hsame.passDue.trans ((State.passDue_taken ..).trans (by rw [ht.passDue]))
  · have hflight : ((t.takeOver k h off).enterFlight off).swingOf q = (t.taken k x h off).swingOf q := by
      rw [hu]
      exact congrArg (Vector.get · q) hsame.committed
    have hcommitted : t.swingOf q = s.swingOf q := congrArg (Vector.get · q) ht.committed
    rw [hflight, State.swingOf_taken, hswing, hcommitted]
  · rw [hflightSlot, hy]
  · simp only [hflightLink]
    exact hpacing hp
  · rw [hu, hstays hno]
    exact (congrArg State.links (taken_eq t k x h off)).trans ht.links
  · rw [hflightSlot, hstays hno, State.slot_taken, if_neg hj, ht.slot]

end Sys2Proof.Machine
end

section
/-!
SUPPORT. What a module's link and the slots are after the sending of its next message and after a slot is stopped (R109, R113, R114).
-/

namespace Sys2Proof.Machine

open Sys2Proof

/-! ### The sending of a module's next message (R114) -/

/-- The link after a LEVEL message of a channel was sent, the requests `rest` left waiting (R113, R116). -/
def Link.sendingLevel (l : Link) (h : Handle) (msg : SettingMsg) (rest : List Request) : Link :=
  { l with seq := l.seq + 1, queue := rest, out := some { msg, bind := .channel h, timer := 8 } }

/-- Everything the sending of a module's next message can do. -/
inductive State.Sends (s : State) (m : SiteId) : State → Prop
  | shutter (e : ShutterEntry) (he : firstShutter (s.link m).shutters = some e) :
      s.Sends m (s.setLink m ((s.link m).sendingShutter m e))
  | nothing (he : firstShutter (s.link m).shutters = none) (hq : (s.link m).queue = []) : s.Sends m s
  | stray (k : SlotId) (rest : List Request) (he : firstShutter (s.link m).shutters = none) (hq : (s.link m).queue = .ramp k :: rest)
      (hx : s.slot k = none) : s.Sends m (s.setLink m { s.link m with queue := rest })
  | ramp (k : SlotId) (x : Slot) (rest : List Request) (msg : SettingMsg) (he : firstShutter (s.link m).shutters = none)
      (hq : (s.link m).queue = .ramp k :: rest) (hx : s.slot k = some x) :
      s.Sends m ((s.setLink m ((s.link m).sending k msg rest)).setSlot k (some { x with drive := .sent }))
  | level (h : Handle) (a : Nat) (rest : List Request) (msg : SettingMsg) (he : firstShutter (s.link m).shutters = none)
      (hq : (s.link m).queue = .level h a :: rest) : s.Sends m (s.setLink m ((s.link m).sendingLevel h msg rest))

theorem State.sends_sendNext (s : State) (m : SiteId) : s.Sends m (s.sendNext m) := by
  unfold State.sendNext
  dsimp only
  cases he : firstShutter (s.link m).shutters with
  | some e =>
    simp only [State.transmit, State.link_setLink_self, State.setLink_setLink]
    exact .shutter e he
  | none =>
    dsimp only
    cases hq : (s.link m).queue with
    | nil => exact .nothing he hq
    | cons r rest =>
      cases r with
      | level h a =>
        simp only [State.transmit, State.link_setLink_self, State.setLink_setLink]
        exact .level h a rest _ he hq
      | ramp k =>
        dsimp only
        cases hx : s.slot k with
        | none => exact .stray k rest he hq hx
        | some x =>
          simp only [State.transmit, State.link_setLink_self, State.link_setSlot, State.setLink_setSlot, State.setLink_setLink]
          exact .ramp k x rest _ he hq hx

/-! ### The stopping of a slot (R109) -/

theorem State.link_withdrawRamp (s : State) (n : SiteId) (k : SlotId) (m : SiteId) : (s.withdrawRamp n k).link m =
    if m = n then { s.link m with queue := (s.link m).queue.filter fun r => decide (r ≠ .ramp k) } else s.link m := by
  unfold State.withdrawRamp
  rw [State.link_setLink]
  split
  · next h => rw [h]
  · rfl

/-- A slot whose held flag sets is stopped by its drive state, the request of a QUEUED one withdrawn. -/
theorem State.stopSlot_setHeld (s : State) (k : SlotId) (x : Slot) :
    (s.setSlot k (some { x with held := true })).stopSlot k =
      (if x.drive = .queued then s.withdrawRamp x.dest k else s).setSlot k (some { x with held := true, drive := x.drive.stop }) := by
  unfold State.stopSlot
  rw [State.slot_setSlot_self]
  dsimp only
  cases hd : x.drive with
  | queued =>
    rw [if_pos rfl]
    simp only [State.withdrawRamp, State.link_setSlot, State.setLink_setSlot, State.setSlot_setSlot]
    rfl
  | pacing n =>
    rw [if_neg nofun]
    exact State.setSlot_setSlot ..
  | sent | stopped =>
    rw [if_neg nofun]
    rfl

end Sys2Proof.Machine
end

section
/-!
FREEZE (R63, R109, R143): the flags, and the slots and requests as the held flags set: O23.
-/

namespace Sys2Proof.Machine

open Sys2Proof

/-! ### Held flags that set (R109, R143) -/

/-- A slot after the held flags have become `now`, none of them clearing. -/
def Slot.heldAfter (now : Slot → Bool) (x : Slot) : Slot :=
  if x.stops now then { x with held := true, drive := x.drive.stop } else x

/-- The slots of `l` have been stopped where their held flags set, and nothing else has happened to slots and links. -/
structure State.stoppedOn (s t : State) (now : Slot → Bool) (l : List SlotId) : Prop where
  only : SameButLinks s t
  slot : ∀ k, t.slot k = if k ∈ l then (s.slot k).map (Slot.heldAfter now) else s.slot k
  link : ∀ m, t.link m =
    { s.link m with queue := (s.link m).queue.filter (Request.stays fun k => l.contains k && s.withdrawsAt now m k) }

theorem State.stoppedOn_nil (s : State) (now : Slot → Bool) : s.stoppedOn s now [] := by
  refine ⟨.refl s, fun k => by simp, fun m => ?_⟩
  have : (s.link m).queue.filter (Request.stays fun k => [].contains k && s.withdrawsAt now m k) = (s.link m).queue :=
    List.filter_eq_self.mpr fun r _ => by cases r <;> rfl
  rw [this]

section
variable {s t : State} {sites : List SiteId} {l : List SlotId} {k : SlotId}

/-- The requests that stay when one more slot's are withdrawn. -/
theorem filter_stays_append {now : Slot → Bool} {m : SiteId} (hw : s.withdrawsAt now m k = true) (q : List Request) :
    (q.filter (Request.stays fun j => l.contains j && s.withdrawsAt now m j)).filter (fun r => decide (r ≠ .ramp k)) =
      q.filter (Request.stays fun j => (l ++ [k]).contains j && s.withdrawsAt now m j) := by
  rw [List.filter_filter]
  refine List.filter_congr fun r _ => ?_
  cases r with
  | level h a => rfl
  | ramp j =>
    by_cases hj : j = k
    · subst hj; simp [Request.stays, hw]
    · simp [Request.stays, hj]

/-- The recomputation of one slot more, no flag clearing. -/
theorem State.stoppedOn.step (sets : ∀ x, s.slot k = some x → s.nowAt sites x = false → x.held = false)
    (w : s.stoppedOn t (s.nowAt sites) l) (hk : k ∉ l) :
    s.stoppedOn (State.reholdSlot sites t k) (s.nowAt sites) (l ++ [k]) := by
  have hslot : t.slot k = s.slot k := (w.slot k).trans (if_neg hk)
  /- `y` is what the slot becomes; where its request is not withdrawn no link changes. -/
  have rewrites {u : State} {y : Option Slot} (only : SameButLinks t u) (hu : ∀ j, u.slot j = if j = k then y else t.slot j)
      (hy : y = (s.slot k).map (Slot.heldAfter (s.nowAt sites)))
      (hlink : ∀ m, u.link m = if s.withdrawsAt (s.nowAt sites) m k = true
        then { t.link m with queue := (t.link m).queue.filter fun r => decide (r ≠ .ramp k) } else t.link m) :
      s.stoppedOn u (s.nowAt sites) (l ++ [k]) := by
    refine ⟨w.only.trans only, fun j => ?_, fun m => ?_⟩
    · rw [hu, w.slot]
      by_cases hj : j = k
      · subst hj; simp [hy]
      · simp [hj]
    · rw [hlink, w.link]
      split
      · next hw => rw [filter_stays_append hw]
      · next hw => rw [Request.stays_append (Bool.eq_false_iff.mpr hw)]
  cases hx : s.slot k with
  | none =>
    have hself : State.reholdSlot sites t k = t := by unfold State.reholdSlot; rw [hslot, hx]
    rw [hself]
    refine rewrites (y := none) (.refl t) (fun j => ?_) (by rw [hx]; rfl) fun m => ?_
    · split
      · next h => rw [h, hslot, hx]
      · rfl
    · rw [if_neg (by simp [State.withdrawsAt, hx])]
  | some x =>
    rw [hx] at hslot
    rw [reholdSlot_eq w.only hslot]
    have stops : x.stops (s.nowAt sites) = (!x.held && s.nowAt sites x) := rfl
    by_cases hstop : x.stops (s.nowAt sites) = true
    · rw [stops, Bool.and_eq_true, Bool.not_eq_true'] at hstop
      rw [if_neg (by rw [hstop.1, hstop.2]; decide), if_pos hstop.2, State.stopSlot_setHeld]
      rw [← Bool.not_eq_true', ← Bool.and_eq_true, ← stops] at hstop
      refine rewrites (y := some { x with held := true, drive := x.drive.stop }) ?_ (fun j => ?_) ?_ fun m => ?_
      · refine SameButLinks.trans ?_ (setSlot_only _ _ _)
        split
        · exact withdrawRamp_only _ _ _
        · exact .refl t
      · rw [State.slot_setSlot]
        split
        · rfl
        · split <;> rfl
      · rw [hx, Option.map_some, Slot.heldAfter, if_pos hstop]
      · rw [State.link_setSlot, State.withdrawsAt_some hx, hstop, Bool.true_and]
        by_cases hd : x.drive = .queued
        · rw [if_pos hd, State.link_withdrawRamp]
          simp [hd, eq_comm]
        · simp [hd]
    · have hnow : s.nowAt sites x = x.held := by
        rw [stops] at hstop
        have := sets x hx
        cases hh : x.held <;> cases hn : s.nowAt sites x <;> simp_all
      rw [if_pos hnow]
      refine rewrites (y := some x) (.refl t) (fun j => ?_) ?_ fun m => ?_
      · split
        · next h => rw [h, hslot]
        · rfl
      · rw [hx, Option.map_some, Slot.heldAfter, if_neg hstop]
      · rw [State.withdrawsAt_some hx, Bool.eq_false_iff.mpr hstop, Bool.false_and, if_neg (by decide)]

theorem State.stoppedOn_foldl (sets : ∀ k x, s.slot k = some x → s.nowAt sites x = false → x.held = false) {l₂ : List SlotId}
    (hl : (l ++ l₂).Nodup) (w : s.stoppedOn t (s.nowAt sites) l) :
    s.stoppedOn (l₂.foldl (State.reholdSlot sites) t) (s.nowAt sites) (l ++ l₂) := by
  induction l₂ generalizing l t with
  | nil => rwa [List.append_nil]
  | cons k l₂ ih =>
    have hk : k ∉ l := fun h => (List.nodup_append.mp hl).2.2 k h k (List.mem_cons_self ..) rfl
    rw [List.append_cons] at hl ⊢
    exact ih hl (w.step (sets k) hk)

/-- Where no held flag clears, the recomputation stops slots and withdraws their requests, and does nothing else (R109). -/
theorem State.stoppedOn_rehold (sets : ∀ k x, s.slot k = some x → s.nowAt sites x = false → x.held = false) :
    SameButLinks s (s.rehold sites) ∧ (∀ k, (s.rehold sites).slot k = (s.slot k).map (Slot.heldAfter (s.nowAt sites))) ∧
    ∀ m, (s.rehold sites).link m =
      { s.link m with queue := (s.link m).queue.filter (Request.stays fun k => s.withdrawsAt (s.nowAt sites) m k) } := by
  have hl : ([] ++ s.slotsByHandle).Nodup := by rw [List.nil_append]; exact slotsByHandle_nodup s
  have hmem (k : SlotId) : k ∈ s.slotsByHandle := (slotsByHandle_perm s).mem_iff.mpr (List.mem_finRange k)
  obtain ⟨only, slot, link⟩ := State.stoppedOn_foldl sets hl (s.stoppedOn_nil (s.nowAt sites))
  have gone (m : SiteId) : (fun k => ([] ++ s.slotsByHandle).contains k && s.withdrawsAt (s.nowAt sites) m k) =
      s.withdrawsAt (s.nowAt sites) m := funext fun k => by
    rw [List.nil_append, List.contains_iff_mem.mpr (hmem k), Bool.true_and]
  refine ⟨only, fun k => (slot k).trans (if_pos (List.mem_append_right [] (hmem k))), fun m => (link m).trans ?_⟩
  rw [gone]

end

/-! ### The freeze flags (R63) -/

/-- The freeze flags of the sites a mask names, written. -/
def State.froze (s : State) (v : Bool) (operand : BitVec 24) : State := (maskSites operand).foldl (State.setFreeze v) s

theorem mem_maskSites (operand : BitVec 24) (n : SiteId) : n ∈ maskSites operand ↔ operand.getLsbD n.val = true := by
  simp [maskSites, allSites]

section
variable (s : State) (v : Bool) (operand : BitVec 24)

theorem State.froze_only : s.froze v operand = { s with sites := (s.froze v operand).sites } := freezes_only v _ s

theorem State.site_froze (n : SiteId) : (s.froze v operand).site n =
    { s.site n with frozen := if operand.getLsbD n.val then v else (s.site n).frozen } := by
  rw [State.froze, site_freezes]
  by_cases h : operand.getLsbD n.val = true
  · rw [if_pos ((mem_maskSites ..).mpr h), if_pos h]
  · rw [if_neg ((mem_maskSites ..).not.mpr h), if_neg h]

theorem State.params_froze (n : SiteId) : (s.froze v operand).params n = s.params n := by
  unfold State.params
  rw [State.site_froze]

theorem State.chan_froze (h : Handle) : (s.froze v operand).chan h = s.chan h := by rw [State.froze_only]; rfl
theorem State.slot_froze (k : SlotId) : (s.froze v operand).slot k = s.slot k := by rw [State.froze_only]; rfl
theorem State.link_froze (m : SiteId) : (s.froze v operand).link m = s.link m := by rw [State.froze_only]; rfl
theorem State.slotAt_froze (x : Slot) (l : List SiteId) : (s.froze v operand).slotAt x l = s.slotAt x l := by
  rw [State.froze_only]; rfl

theorem State.holding_froze (n : SiteId) (c : Cond) : (s.froze v operand).holding n c = s.holding n c := by
  unfold State.holding
  rw [State.params_froze, show (s.froze v operand).cond n = s.cond n by rw [State.froze_only]; rfl]

/-- The freeze flags alone change which transitions are held (R142). -/
theorem State.heldBetween_froze (a b : SiteId) : (s.froze v operand).heldBetween a b =
    (s.sourceHold a || s.destHold b || (s.froze v operand).frozen a || (s.froze v operand).frozen b) := by
  unfold State.heldBetween State.sourceHold State.destHold
  simp only [State.holding_froze]

theorem State.frozen_froze (n : SiteId) :
    (s.froze v operand).frozen n = if operand.getLsbD n.val then v else (s.site n).frozen := by
  unfold State.frozen
  rw [State.site_froze]

/-- A slot has an end at a site whose flag the mask changes. -/
theorem State.slotAt_changed (x : Slot) : s.slotAt x ((maskSites operand).filter fun n => s.frozen n != v) = true ↔
    ∃ n : SiteId, operand.getLsbD n.val = true ∧ (s.site n).frozen ≠ v ∧
      ((s.chan x.handle).srcSite = n ∨ (s.chan x.handle).dstSite = n) := by
  have changed (n : SiteId) : n ∈ ((maskSites operand).filter fun n => s.frozen n != v) ↔
      operand.getLsbD n.val = true ∧ (s.site n).frozen ≠ v := by
    rw [List.mem_filter, mem_maskSites, bne_iff_ne]
    rfl
  unfold State.slotAt
  simp only [Bool.or_eq_true, List.contains_iff_mem, changed]
  constructor
  · rintro (⟨h1, h2⟩ | ⟨h1, h2⟩)
    · exact ⟨_, h1, h2, .inl rfl⟩
    · exact ⟨_, h1, h2, .inr rfl⟩
  · rintro ⟨n, h1, h2, rfl | rfl⟩
    · exact .inl ⟨h1, h2⟩
    · exact .inr ⟨h1, h2⟩

end

/-! ### FREEZE (R63) -/

theorem State.commandFreeze_of_mask {s : State} {operand : BitVec 24} (h : operand.toNat < 1024) :
    s.commandFreeze operand = ((s.froze true operand).rehold ((maskSites operand).filter fun n => s.frozen n != true), .accepted) := by
  have hflip : (fun n => !s.frozen n) = fun n => s.frozen n != true := funext fun n => by cases s.frozen n <;> rfl
  unfold State.commandFreeze State.froze
  rw [if_neg (by omega), hflip]

/-- A slot with an end at a site newly frozen is held, and no other held flag changes. -/
theorem State.nowAt_frozen (s : State) (operand : BitVec 24) (x : Slot) :
    (s.froze true operand).nowAt ((maskSites operand).filter fun n => s.frozen n != true) x =
      if s.slotAt x ((maskSites operand).filter fun n => s.frozen n != true) = true then true else x.held := by
  unfold State.nowAt
  rw [State.slotAt_froze]
  split
  · next h =>
    obtain ⟨n, hn, -, hends⟩ := (s.slotAt_changed true operand x).mp h
    have hfrozen : (s.froze true operand).frozen n = true := by rw [State.frozen_froze, if_pos hn]
    unfold State.isHeld
    rw [State.chan_froze, State.heldBetween_froze]
    rcases hends with rfl | rfl <;> simp [hfrozen]
  · rfl

/-- Settles O23: the flags by `site_froze`, the slots and requests by `stoppedOn_rehold`. -/
theorem freezeHoldsTheSitesItNames : Obligations.FreezeHoldsTheSitesItNames := by
  intro s operand hin
  have hexec := exec_of_command hin (c := .freeze operand) (code := 3#8) (operand := operand) (by simp)
  refine ⟨fun hbad => ?_, fun hmask => ?_⟩
  · rw [hexec, show State.command _ 3#8 operand = State.commandFreeze _ operand from rfl]
    unfold State.commandFreeze
    rw [if_pos hbad]
    rfl
  intro newlyFrozen withdrawn
  generalize hc : s.withCellWrite 0 (3#8 ++ operand) = c at hexec ⊢
  rw [show State.command c 3#8 operand = State.commandFreeze c operand from rfl, State.commandFreeze_of_mask hmask] at hexec
  have hchanged (x : Slot) : c.slotAt x ((maskSites operand).filter fun n => c.frozen n != true) = true ↔ newlyFrozen x := by
    rw [State.slotAt_changed, ← hc]
    simp only [ne_eq, Bool.not_eq_true]
    rfl
  have hnow := c.nowAt_frozen operand
  generalize (maskSites operand).filter (fun n => c.frozen n != true) = sites at hexec hchanged hnow
  have honly := c.froze_only true operand
  obtain ⟨hrehold, hslot, hlink⟩ := State.stoppedOn_rehold (s := c.froze true operand) (sites := sites) fun k x _ h => by
    rw [hnow] at h
    split at h
    · cases h
    · exact h
  have hstops (x : Slot) : x.stops ((c.froze true operand).nowAt sites) = true ↔ newlyFrozen x ∧ x.held = false := by
    unfold Slot.stops
    rw [hnow, Bool.and_eq_true, Bool.not_eq_true', and_comm]
    refine and_congr_left fun hh => ?_
    rw [hh, ← hchanged]
    cases c.slotAt x sites <;> decide
  have hsite (n : SiteId) : ((c.froze true operand).rehold sites).site n =
      { s.site n with frozen := (s.site n).frozen || operand.getLsbD n.val } := by
    rw [hrehold.channels.site, State.site_froze, ← hc]
    change ({ s.site n with frozen := if operand.getLsbD n.val = true then true else (s.site n).frozen } : Site) = _
    cases operand.getLsbD n.val <;> simp
  have hslots (k : SlotId) : c.slot k = s.slot k := by rw [← hc]; rfl
  have hlinks (m : SiteId) : c.link m = s.link m := by rw [← hc]; rfl
  simp only [State.slot_froze, State.link_froze, hslots, hlinks] at hslot hlink
  generalize (c.froze true operand).rehold sites = r at *
  have hr : r = { c with sites := r.sites, slots := r.slots, links := r.links } := by
    unfold SameButLinks at hrehold
    rw [honly] at hrehold
    rw [hrehold]
  refine ⟨_, hexec, by rw [hr]; rfl, by rw [hr, ← hc]; rfl, hsite, by rw [hr, ← hc]; rfl, by rw [hr, ← hc]; rfl, by rw [hr, ← hc]; rfl,
    by rw [hr, ← hc]; rfl, by rw [hr, ← hc]; rfl, by rw [hr, ← hc]; rfl, by rw [hr, ← hc]; rfl, by rw [hr, ← hc]; rfl,
    by rw [hr, ← hc]; rfl, fun m => (hlink m).trans ?_, fun k => ?_⟩
  · have stays (q : Request) : q.stays ((c.froze true operand).withdrawsAt ((c.froze true operand).nowAt sites) m) = !withdrawn m q := by
      cases q with
      | level h a => rfl
      | ramp k =>
        change (!((c.froze true operand).slot k).any _) = !(s.slot k).any _
        rw [State.slot_froze, hslots]
        congr 2
        funext x
        rw [Bool.eq_iff_iff, Bool.and_eq_true, hstops, decide_eq_true_iff, decide_eq_true_iff, and_assoc]
    rw [funext stays]
  · have hk : (State.logCommand (r, .accepted) 3#8).slot k = (s.slot k).map (Slot.heldAfter ((c.froze true operand).nowAt sites)) := hslot k
    cases hx : s.slot k with
    | none => rw [hk, hx]; rfl
    | some x =>
      rw [hk, hx, Option.map_some]
      unfold Slot.heldAfter
      refine ⟨fun hn => congrArg some ?_, fun hn => ?_⟩
      · cases hh : x.held with
        | true => rw [if_neg (by rw [hstops]; simp [hh]), if_pos rfl, ← hh]
        | false =>
          rw [if_pos ((hstops x).mpr ⟨hn, hh⟩), if_neg nofun]
          cases x.drive <;> rfl
      · rw [if_neg (by rw [hstops]; exact fun h => hn h.1)]

end Sys2Proof.Machine
end

section
/-!
THAW (R63, R109, R143, R144): what the recomputation of the held flags does where an idle module may have something waiting, and the
event's end: O24.
-/

namespace Sys2Proof.Machine

open Sys2Proof

/-! ### What a sending and a placing touch (R114, R117) -/

section
variable {s u : State} {m : SiteId} (w : s.Sends m u)
include w

theorem State.Sends.slot (j : SlotId) : u.slot j = s.slot j ∨
    ∃ y, s.slot j = some y ∧ .ramp j ∈ (s.link m).queue ∧ u.slot j = some { y with drive := .sent } := by
  cases w with
  | shutter | nothing | stray | level => exact .inl rfl
  | ramp k x rest msg he hq hx =>
    rw [State.slot_setSlot]
    split
    · next h => exact .inr ⟨x, h ▸ hx, by rw [hq, h]; exact List.mem_cons_self, rfl⟩
    · exact .inl rfl

theorem State.Sends.queue {r : Request} (hr : r ∈ (u.link m).queue) : r ∈ (s.link m).queue := by
  cases w with
  | nothing => exact hr
  | shutter =>
    rw [State.link_setLink_self] at hr
    exact hr
  | stray k rest he hq =>
    rw [State.link_setLink_self] at hr
    exact hq ▸ List.mem_cons_of_mem _ hr
  | level h a rest msg he hq =>
    rw [State.link_setLink_self] at hr
    exact hq ▸ List.mem_cons_of_mem _ hr
  | ramp k x rest msg he hq =>
    rw [State.link_setSlot, State.link_setLink_self] at hr
    exact hq ▸ List.mem_cons_of_mem _ hr

end

theorem State.kick_cases (s : State) (m : SiteId) :
    ((s.link m).out ≠ none ∧ s.kick m = s) ∨ ((s.link m).out = none ∧ s.Sends m (s.kick m)) := by
  by_cases ho : (s.link m).out = none
  · exact .inr ⟨ho, by rw [State.kick_of_idle ho]; exact s.sends_sendNext m⟩
  · exact .inl ⟨ho, State.kick_of_busy ho⟩

/-- The state with a slot's request at the tail of its module's queue, before the module may be sent it (R102, R117). -/
def State.requested (s : State) (k : SlotId) (x : Slot) : State :=
  (s.setLink x.dest { s.link x.dest with queue := (s.link x.dest).queue ++ [.ramp k] }).setSlot k
    (some { x with drive := .queued, takeover := false })

theorem State.placeRamp_eq_kick {s : State} {k : SlotId} {x : Slot} (hx : s.slot k = some x) :
    s.placeRamp k = (s.requested k x).kick x.dest := by
  rw [State.placeRamp, hx]
  rfl

theorem State.slot_requested (s : State) (k : SlotId) (x : Slot) (j : SlotId) : (s.requested k x).slot j =
    if j = k then some { x with drive := .queued, takeover := false } else s.slot j := by
  rw [State.requested, State.slot_setSlot, State.slot_setLink]

theorem State.link_requested (s : State) (k : SlotId) (x : Slot) (m : SiteId) : (s.requested k x).link m =
    if m = x.dest then { s.link m with queue := (s.link m).queue ++ [.ramp k] } else s.link m := by
  rw [State.requested, State.link_setSlot, State.link_setLink]
  split
  · next h => rw [h]
  · rfl

section
variable {s : State} {k : SlotId} {x : Slot} (hx : s.slot k = some x)
include hx

/-- A placing leaves another slot, or an idle module is sent its waiting request. -/
theorem State.slot_placeRamp_of_ne {j : SlotId} (hj : j ≠ k) : (s.placeRamp k).slot j = s.slot j ∨
    ∃ y, s.slot j = some y ∧ .ramp j ∈ (s.link x.dest).queue ∧ (s.link x.dest).out = none ∧
      (s.placeRamp k).slot j = some { y with drive := .sent } := by
  have hslot : (s.requested k x).slot j = s.slot j := by rw [State.slot_requested, if_neg hj]
  have hlink : (s.requested k x).link x.dest = { s.link x.dest with queue := (s.link x.dest).queue ++ [.ramp k] } := by
    rw [State.link_requested, if_pos rfl]
  rw [State.placeRamp_eq_kick hx]
  rcases (s.requested k x).kick_cases x.dest with ⟨-, h⟩ | ⟨ho, w⟩
  · rw [h]
    exact .inl hslot
  · rcases w.slot j with h | ⟨y, hy, hr, h⟩
    · exact .inl (h.trans hslot)
    · rw [hlink] at hr ho
      refine .inr ⟨y, hslot ▸ hy, ?_, ho, h⟩
      refine (List.mem_append.mp hr).resolve_right fun g => hj ?_
      cases List.mem_singleton.mp g
      rfl

theorem State.queue_placeRamp {m : SiteId} {r : Request} (hr : r ∈ ((s.placeRamp k).link m).queue) :
    r ∈ (s.link m).queue ∨ r = .ramp k := by
  by_cases hm : m = x.dest
  · subst hm
    have hin : r ∈ ((s.requested k x).link x.dest).queue := by
      rw [State.placeRamp_eq_kick hx] at hr
      rcases (s.requested k x).kick_cases x.dest with ⟨-, h⟩ | ⟨-, w⟩
      · rwa [h] at hr
      · exact w.queue hr
    rw [State.link_requested, if_pos rfl] at hin
    exact (List.mem_append.mp hin).imp_right List.mem_singleton.mp
  · rw [State.link_placeRamp_of_ne hx hm] at hr
    exact .inl hr

end

/-! ### The recomputation without an idle module's promise (R109, R143) -/

/-- What becomes of a slot when the held flags become `now`: a restarted one is QUEUED or SENT, another keeps its takeover mark and goes on
by R109, or is SENT meanwhile. -/
def Slot.ReheldTo (now : Slot → Bool) (x : Slot) (o : Option Slot) : Prop :=
  ∃ drive takeover, o = some { x with held := now x, drive, takeover } ∧
    (x.restarts now = true → takeover = false ∧ (drive = .queued ∨ drive = .sent)) ∧
    (x.restarts now = false → takeover = x.takeover ∧ (drive = .sent ∨ drive = if x.stops now then x.drive.stop else x.drive))

theorem Slot.ReheldTo.send {now : Slot → Bool} {x y : Slot} (h : x.ReheldTo now (some y)) :
    x.ReheldTo now (some { y with drive := .sent }) := by
  obtain ⟨drive, takeover, hy, hr, hn⟩ := h
  cases Option.some.inj hy
  exact ⟨.sent, takeover, rfl, fun h => ⟨(hr h).1, .inr rfl⟩, fun h => ⟨(hn h).1, .inl rfl⟩⟩

/-- The slots of `l` have been recomputed: their slots, the slots and requests still to come, and the busy modules' links. -/
structure State.rehelding (s t : State) (now : Slot → Bool) (l : List SlotId) : Prop where
  only : SameButLinks s t
  free : ∀ k, s.slot k = none → t.slot k = none
  done : ∀ k ∈ l, ∀ x, s.slot k = some x → x.ReheldTo now (t.slot k)
  todo : ∀ k, k ∉ l → ∀ x, s.slot k = some x → t.slot k = some x ∨
    (x.drive = .queued ∧ (s.link x.dest).out = none ∧ t.slot k = some { x with drive := .sent })
  requests : ∀ m k, .ramp k ∈ (t.link m).queue → k ∉ l → ∃ x, s.slot k = some x ∧ x.drive = .queued ∧ x.dest = m
  busy : ∀ m, (s.link m).out ≠ none → t.link m = s.linkAfter now l m

theorem State.rehelding_nil {s : State} (hr : s.requestsOk) (now : Slot → Bool) : s.rehelding s now [] where
  only := .refl s
  free _ hx := hx
  done := nofun
  todo _ _ _ hx := .inl hx
  requests m k h _ := by
    obtain ⟨x, hx, hdest, hdrive⟩ := hr.queued m k h
    exact ⟨x, hx, hdrive, hdest⟩
  busy m _ := (s.linkAfter_nil now m).symm

section
variable {s t t' : State} {now : Slot → Bool} {l : List SlotId} {k : SlotId}

theorem State.linkAfter_out {m : SiteId} (ho : (s.link m).out ≠ none) : (s.linkAfter now l m).out = (s.link m).out := by
  unfold State.linkAfter
  rw [if_neg ho]

/-- One slot more has been recomputed, others at most sent by an idle module. -/
theorem State.rehelding.append (w : s.rehelding t now l) (hk : k ∉ l) (only : SameButLinks t t')
    (others : ∀ j, j ≠ k → t'.slot j = t.slot j ∨
      ∃ y n, t.slot j = some y ∧ .ramp j ∈ (t.link n).queue ∧ (t.link n).out = none ∧ t'.slot j = some { y with drive := .sent })
    (free : s.slot k = none → t'.slot k = none) (mine : ∀ x, s.slot k = some x → x.ReheldTo now (t'.slot k))
    (requests : ∀ m r, r ∈ (t'.link m).queue → r ∈ (t.link m).queue ∨ r = .ramp k)
    (busy : ∀ m, (s.link m).out ≠ none → t'.link m = s.linkAfter now (l ++ [k]) m) : s.rehelding t' now (l ++ [k]) := by
  refine ⟨w.only.trans only, fun j hx => ?_, fun j hj x hx => ?_, fun j hj x hx => ?_, fun m j hr hj => ?_, busy⟩
  · by_cases hj : j = k
    · exact hj ▸ free (hj ▸ hx)
    · rcases others j hj with h | ⟨y, n, hy, -⟩
      · rw [h]; exact w.free j hx
      · rw [w.free j hx] at hy
        cases hy
  · rcases List.mem_append.mp hj with hj | hj
    · have hne : j ≠ k := fun he => hk (he ▸ hj)
      have hdone := w.done j hj x hx
      rcases others j hne with h | ⟨y, n, hy, -, -, h⟩
      · rw [h]; exact hdone
      · rw [h]; exact (hy ▸ hdone).send
    · cases List.mem_singleton.mp hj
      exact mine x hx
  · rw [List.mem_append, not_or, List.mem_singleton] at hj
    have htodo := w.todo j hj.1 x hx
    rcases others j hj.2 with h | ⟨y, n, hy, hr, ho, h⟩
    · rw [h]; exact htodo
    · rw [hy] at htodo
      rcases htodo with hyx | ⟨hq, hidle, hyx⟩
      · cases Option.some.inj hyx
        obtain ⟨x', hx', hq, hdest⟩ := w.requests n j hr hj.1
        cases Option.some.inj (hx.symm.trans hx')
        refine .inr ⟨hq, ?_, h⟩
        by_contra hb
        rw [hdest] at hb
        rw [w.busy n hb, State.linkAfter_out hb] at ho
        exact hb ho
      · cases Option.some.inj hyx
        exact .inr ⟨hq, hidle, h⟩
  · rw [List.mem_append, not_or, List.mem_singleton] at hj
    refine w.requests m j ((requests m _ hr).resolve_right fun he => hj.2 ?_) hj.1
    cases he
    rfl

/-- A slot is rewritten, and no request is placed or withdrawn at a busy module. -/
theorem State.rehelding.rewrite (w : s.rehelding t now l) (hk : k ∉ l) {x : Slot} (hx : s.slot k = some x) {y : Slot}
    (mine : x.ReheldTo now (some y)) (hw : ∀ m, (s.link m).out ≠ none → s.withdrawsAt now m k = false)
    (hr : ∀ m, s.restartsAt now m k = false) : s.rehelding (t.setSlot k (some y)) now (l ++ [k]) := by
  refine w.append hk (setSlot_only _ _ _) (fun j hj => .inl (State.slot_setSlot_of_ne _ _ _ hj)) (fun h => ?_) (fun x' hx' => ?_)
    (fun m r h => .inl h) fun m hm => ?_
  · rw [hx] at h
    cases h
  · cases Option.some.inj (hx.symm.trans hx')
    rw [State.slot_setSlot_self]
    exact mine
  · rw [State.link_setSlot, w.busy m hm, State.linkAfter_append_other (hw m hm) (hr m)]

theorem State.restartSlot_setSlot (s : State) (k : SlotId) (y : Slot) : (s.setSlot k (some y)).restartSlot k =
    if y.drive = .stopped then (s.setSlot k (some y)).placeRamp k else s.setSlot k (some y) := by
  unfold State.restartSlot
  rw [State.slot_setSlot_self]

/-- A slot that has not been recomputed, as it stands then: a QUEUED one of an idle module may have been SENT meanwhile. -/
theorem State.rehelding.found (w : s.rehelding t now l) (hk : k ∉ l) {x : Slot} (hx : s.slot k = some x) :
    ∃ drive, t.slot k = some { x with drive } ∧
      (drive = x.drive ∨ (drive = .sent ∧ x.drive = .queued ∧ (s.link x.dest).out = none)) := by
  rcases w.todo k hk x hx with h | ⟨hq, hidle, h⟩
  · exact ⟨x.drive, h, .inl rfl⟩
  · exact ⟨.sent, h, .inr ⟨rfl, hq, hidle⟩⟩

theorem Slot.not_restarts_of_stops {x : Slot} (h : x.stops now = true) : x.restarts now = false :=
  Bool.eq_false_iff.mpr fun g => Slot.not_stops_and_restarts now x ⟨h, g⟩

theorem Slot.not_stops_of_restarts {x : Slot} (h : x.restarts now = true) : x.stops now = false :=
  Bool.eq_false_iff.mpr fun g => Slot.not_stops_and_restarts now x ⟨g, h⟩

/-- A held flag sets: the slot is stopped, and its request withdrawn where it is still queued. -/
theorem State.rehelding.stop (w : s.rehelding t now l) (hk : k ∉ l) {x : Slot} (hx : s.slot k = some x) (h : x.stops now = true)
    {drive : Drive} (hdrive : drive = x.drive ∨ (drive = .sent ∧ x.drive = .queued ∧ (s.link x.dest).out = none)) :
    s.rehelding ((t.setSlot k (some { x with drive, held := true })).stopSlot k) now (l ++ [k]) := by
  have hr := Slot.not_restarts_of_stops h
  have hnow : now x = true := (Bool.and_eq_true_iff.mp h).2
  have mine : x.ReheldTo now (some { x with held := true, drive := drive.stop }) := by
    refine ⟨drive.stop, x.takeover, by rw [hnow], by simp [hr], fun _ => ⟨rfl, ?_⟩⟩
    rcases hdrive with rfl | ⟨rfl, -, -⟩
    · exact .inr (if_pos h).symm
    · exact .inl rfl
  rw [State.stopSlot_setHeld t k { x with drive }]
  by_cases hq : drive = .queued
  · have hxq : x.drive = .queued := hdrive.elim (fun e => e.symm.trans hq) fun e => e.2.1
    rw [if_pos hq]
    refine w.append hk ((withdrawRamp_only _ _ _).trans (setSlot_only _ _ _))
      (fun j hj => .inl (State.slot_setSlot_of_ne _ _ _ hj)) (fun g => ?_) (fun x' hx' => ?_) (fun m r hm => .inl ?_) fun m hm => ?_
    · rw [hx] at g
      cases g
    · cases Option.some.inj (hx.symm.trans hx')
      rw [State.slot_setSlot_self]
      exact mine
    · rw [State.link_setSlot, State.link_withdrawRamp] at hm
      split at hm
      · exact (List.mem_filter.mp hm).1
      · exact hm
    · rw [State.link_setSlot, State.link_withdrawRamp]
      by_cases hd : m = x.dest
      · subst hd
        rw [if_pos rfl, w.busy _ hm, State.linkAfter_append_stop (fun ho => absurd ho hm) hk (by rw [State.withdrawsAt_some hx, h]; simp [hxq])]
      · rw [if_neg hd, w.busy m hm, State.linkAfter_append_other (by rw [State.withdrawsAt_some hx]; simp [Ne.symm hd])
          (by rw [State.restartsAt_some hx, hr, Bool.and_false])]
  · rw [if_neg hq]
    refine w.rewrite hk hx mine (fun m hm => ?_) fun m => by rw [State.restartsAt_some hx, hr, Bool.and_false]
    rw [State.withdrawsAt_some hx, h, Bool.true_and, decide_eq_false_iff_not]
    rintro ⟨hxq, rfl⟩
    rcases hdrive with rfl | ⟨-, -, hidle⟩
    · exact hq hxq
    · exact hm hidle

/-- The held flag of a STOPPED slot clears: its request is placed. -/
theorem State.rehelding.restart (w : s.rehelding t now l) (hk : k ∉ l) {x : Slot} (hx : s.slot k = some x) (h : x.restarts now = true) :
    s.rehelding ((t.setSlot k (some { x with held := false })).placeRamp k) now (l ++ [k]) := by
  have hs := Slot.not_stops_of_restarts h
  have hnow : now x = false := by
    simp only [Slot.restarts, Bool.and_eq_true, Bool.not_eq_true'] at h
    exact h.1.2
  have hy : (t.setSlot k (some { x with held := false })).slot k = some { x with held := false } := State.slot_setSlot_self _ _ _
  have hw (m : SiteId) : s.withdrawsAt now m k = false := by rw [State.withdrawsAt_some hx, hs]; rfl
  refine w.append hk ((setSlot_only _ _ _).trans (placeRamp_only _ _)) (fun j hj => ?_) (fun g => ?_) (fun x' hx' => ?_)
    (fun m r hm => ?_) fun m hm => ?_
  · have hkeep : (t.setSlot k (some { x with held := false })).slot j = t.slot j := State.slot_setSlot_of_ne _ _ _ hj
    rcases State.slot_placeRamp_of_ne hy hj with e | ⟨y, hyj, hr, ho, e⟩
    · exact .inl (e.trans hkeep)
    · exact .inr ⟨y, x.dest, hkeep ▸ hyj, hr, ho, e⟩
  · rw [hx] at g
    cases g
  · cases Option.some.inj (hx.symm.trans hx')
    obtain ⟨drive, hdrive, e⟩ := State.slot_placeRamp_self hy
    exact ⟨drive, false, by rw [e, hnow], fun _ => ⟨rfl, hdrive⟩, by simp [h]⟩
  · exact State.queue_placeRamp hy hm
  · by_cases hd : m = x.dest
    · subst hd
      have hlink := w.busy _ hm
      have hb : (t.link x.dest).out ≠ none := by rw [hlink, State.linkAfter_out hm]; exact hm
      rw [State.placeRamp_of_busy hy hb, State.link_setSlot]
      refine (State.link_setLink_self ..).trans ?_
      rw [State.linkAfter_append_busy (hw _) (by rw [State.restartsAt_some hx, h]; simp) (hlink ▸ hb), ← hlink]
      rfl
    · rw [State.link_placeRamp_of_ne hy hd, State.link_setSlot, w.busy m hm,
        State.linkAfter_append_other (hw m) (by rw [State.restartsAt_some hx]; simp [Ne.symm hd])]

/-- The recomputation of one slot not yet recomputed. -/
theorem State.rehelding.step {sites : List SiteId} (w : s.rehelding t (s.nowAt sites) l) (hk : k ∉ l) :
    s.rehelding (State.reholdSlot sites t k) (s.nowAt sites) (l ++ [k]) := by
  cases hx : s.slot k with
  | none =>
    have hself : State.reholdSlot sites t k = t := by unfold State.reholdSlot; rw [w.free k hx]
    rw [hself]
    refine w.append hk (.refl t) (fun _ _ => .inl rfl) (w.free k) (fun x hx' => ?_) (fun m r h => .inl h) fun m hm => ?_
    · rw [hx] at hx'
      cases hx'
    · rw [w.busy m hm, State.linkAfter_append_other (by simp [State.withdrawsAt, hx]) (by simp [State.restartsAt, hx])]
  | some x =>
    obtain ⟨drive, hslot, hdrive⟩ := w.found hk hx
    have stops : x.stops (s.nowAt sites) = (!x.held && s.nowAt sites x) := rfl
    have restarts : x.restarts (s.nowAt sites) = (x.held && !s.nowAt sites x && decide (x.drive = .stopped)) := rfl
    have goesOn (hs : x.stops (s.nowAt sites) = false) (hr : x.restarts (s.nowAt sites) = false) :
        s.rehelding (t.setSlot k (some { x with drive, held := s.nowAt sites x })) (s.nowAt sites) (l ++ [k]) := by
      refine w.rewrite hk hx ⟨drive, x.takeover, rfl, by simp [hr], fun _ => ⟨rfl, ?_⟩⟩
        (fun m _ => by rw [State.withdrawsAt_some hx, hs]; rfl) fun m => by rw [State.restartsAt_some hx, hr, Bool.and_false]
      rw [hs]
      exact hdrive.elim (fun e => .inr e) fun e => .inl e.1
    rw [reholdSlot_eq w.only hslot]
    change s.rehelding (if s.nowAt sites x = x.held then t else if s.nowAt sites x = true
      then (t.setSlot k (some { x with drive, held := true })).stopSlot k
      else (t.setSlot k (some { x with drive, held := false })).restartSlot k) _ _
    split
    · next he =>
      have := goesOn (by rw [stops, he]; cases x.held <;> rfl) (by rw [restarts, he]; cases x.held <;> rfl)
      rw [he] at this
      have hsame : t.setSlot k (some { x with drive }) = t := by rw [← hslot]; exact t.setSlot_slot k
      exact hsame ▸ this
    · next hne =>
      split
      · next hn =>
        refine w.stop hk hx ?_ hdrive
        rw [stops, hn, Bool.and_true, Bool.not_eq_true']
        exact Bool.eq_false_iff.mpr fun g => hne (hn.trans g.symm)
      · next hn =>
        rw [Bool.not_eq_true] at hn
        have hheld : x.held = true := by
          rw [← Bool.not_eq_false]
          exact fun g => hne (hn.trans g.symm)
        rw [hn, hheld, Bool.not_false, Bool.true_and, Bool.true_and] at restarts
        rw [State.restartSlot_setSlot]
        by_cases hd : x.drive = .stopped
        · have hsame : drive = x.drive := hdrive.resolve_right fun e => by rw [hd] at e; exact nomatch e.2.1
          subst hsame
          rw [if_pos hd]
          exact w.restart hk hx (by rw [restarts]; exact decide_eq_true hd)
        · have hdrive' : drive ≠ .stopped := by
            rcases hdrive with rfl | ⟨rfl, -⟩
            · exact hd
            · exact nofun
          have := goesOn (by rw [stops, hheld]; rfl) (by rw [restarts]; exact decide_eq_false hd)
          rw [hn] at this
          exact (if_neg hdrive').symm ▸ this

theorem State.rehelding_foldl {sites : List SiteId} {l₂ : List SlotId} (hl : (l ++ l₂).Nodup) (w : s.rehelding t (s.nowAt sites) l) :
    s.rehelding (l₂.foldl (State.reholdSlot sites) t) (s.nowAt sites) (l ++ l₂) := by
  induction l₂ generalizing l t with
  | nil => rwa [List.append_nil]
  | cons k l₂ ih =>
    have hk : k ∉ l := fun h => (List.nodup_append.mp hl).2.2 k h k (List.mem_cons_self ..) rfl
    rw [List.append_cons] at hl ⊢
    exact ih hl (w.step hk)

end

/-- What the recomputation of the held flags does to the slots and to the busy modules' links, whatever waits at an idle module. -/
theorem State.requestsOk.rehold {s : State} (hr : s.requestsOk) (sites : List SiteId) :
    (∀ k x, s.slot k = some x → x.ReheldTo (s.nowAt sites) ((s.rehold sites).slot k)) ∧
    ∀ m, (s.link m).out ≠ none → (s.rehold sites).link m = { s.link m with queue := s.queueAfter (s.nowAt sites) m } := by
  have hl : ([] ++ s.slotsByHandle).Nodup := by rw [List.nil_append]; exact slotsByHandle_nodup s
  have w := State.rehelding_foldl hl (State.rehelding_nil hr (s.nowAt sites))
  rw [List.nil_append] at w
  refine ⟨fun k x hx => w.done k ((slotsByHandle_perm s).mem_iff.mpr (List.mem_finRange k)) x hx, fun m ho => ?_⟩
  refine (w.busy m ho).trans ?_
  rw [State.linkAfter, if_neg ho, s.stays_all, ← State.restarting_eq]
  rfl

/-- The recomputation frees no slot and fills none. -/
theorem State.slot_rehold_isSome (s : State) (sites : List SiteId) (k : SlotId) :
    ((s.rehold sites).slot k).isSome = (s.slot k).isSome := by
  refine foldl_keeps _ (fun t : State => (t.slot k).isSome) (fun t j => ?_) _ s
  rcases reholdSlot_cases sites t j with ⟨h, -⟩ | ⟨x, hx, h⟩
  · rw [h]
  · have hstill : ((State.reholdSlot sites t j).slot k).isSome =
        ((t.setSlot j (some { x with held := t.isHeld x.handle })).slot k).isSome := by
      rw [← Option.isSome_map (f := Slot.still), h.slot k, Option.isSome_map]
    rw [hstill, State.slot_setSlot]
    split
    · next e => rw [e, hx]; rfl
    · rfl

theorem State.slot_rehold_none (s : State) (sites : List SiteId) (k : SlotId) : (s.rehold sites).slot k = none ↔ s.slot k = none := by
  rw [← Option.not_isSome_iff_eq_none, ← Option.not_isSome_iff_eq_none, State.slot_rehold_isSome]

theorem State.rehold_nil (s : State) : s.rehold [] = s :=
  foldl_keeps (State.reholdSlot []) id (fun t k => by
    unfold State.reholdSlot
    split
    · rfl
    · exact if_neg nofun) _ s

/-! ### The end of an event that frees no slot (R89, R90, R159) -/

/-- An event that frees no slot swaps no site. -/
theorem State.finish_of_none_freed {before s : State} (h : ∀ k, s.slot k = none → before.slot k = none) :
    before.finish s = s.runPass := by
  have unfreed (n : SiteId) : before.freedAt s n = false := by
    refine Bool.eq_false_iff.mpr fun hf => ?_
    obtain ⟨k, x, hx, hnone, -⟩ := (before.freedAt_iff s n).mp hf
    rw [h k hnone] at hx
    cases hx
  have stands (l : List SiteId) : l.foldl (State.swapIfQuiet before) s = s := by
    induction l with
    | nil => rfl
    | cons n l ih =>
      have hn : before.swapIfQuiet s n = s := by
        unfold State.swapIfQuiet
        rw [unfreed]
        simp
      rw [List.foldl_cons, hn, ih]
  unfold State.finish
  rw [stands]

theorem State.admits_runPass (s : State) : s.admits s.runPass := by
  unfold State.runPass
  split
  · have cleared : s.admits { s with passDue := false } :=
      ⟨rfl, rfl, rfl, rfl, fun x => by cases x <;> rfl, fun _ => rfl, fun _ => rfl, fun _ => rfl⟩
    exact cleared.trans (State.admits_passFrom _ _ _)
  · exact ⟨rfl, rfl, rfl, rfl, fun _ => rfl, fun _ => rfl, fun _ => rfl, fun _ => rfl⟩

theorem vector_ext_get {α : Type} {n : Nat} {v w : Vector α n} (h : ∀ i : Fin n, v.get i = w.get i) : v = w :=
  Vector.ext fun i hi => h ⟨i, hi⟩

/-- The map entries and port cells are all that the maps hold. -/
theorem State.maps_of_entry {s t : State} (h : ∀ x, t.entry x = s.entry x) :
    t.maps = s.maps ∧ t.addCells = s.addCells ∧ t.dropCells = s.dropCells :=
  ⟨vector_ext_get fun m => vector_ext_get fun n => h (.slice m n), vector_ext_get fun g => vector_ext_get fun p => h (.addCell g p),
    vector_ext_get fun g => vector_ext_get fun p => h (.dropCell g p)⟩

/-! ### THAW (R63, R144) -/

/-- What `reheld` says is about slots, links, channels and parameters alone. -/
theorem State.reheld.congr {s s' t t' : State} {now : Slot → Bool} (w : s.reheld t now) (slot : ∀ k, s'.slot k = s.slot k)
    (link : ∀ m, s'.link m = s.link m) (chan : ∀ h, s'.chan h = s.chan h) (params : ∀ n, s'.params n = s.params n)
    (slot' : ∀ k, t'.slot k = t.slot k) (link' : ∀ m, t'.link m = t.link m) : s'.reheld t' now := by
  have restarting (m : SiteId) : s'.restarting now m = s.restarting now m := by
    unfold State.restarting
    simp only [slot]
  have queueAfter (m : SiteId) : s'.queueAfter now m = s.queueAfter now m := by
    unfold State.queueAfter
    simp only [slot, link, restarting]
  have message (x : Slot) (kind : TransKind) (motion : Setting) : s'.rampMessage x kind motion = s.rampMessage x kind motion := by
    unfold State.rampMessage
    simp only [link, chan, params]
  obtain ⟨free, stopped, restarted, others, busy, idle⟩ := w
  constructor
  · simpa only [slot, slot'] using free
  · simpa only [slot, slot'] using stopped
  · simpa only [slot, slot', link, restarting] using restarted
  · simpa only [slot, slot'] using others
  · simpa only [link, link', queueAfter] using busy
  · simpa only [slot, link, link', restarting, message, chan] using idle

theorem State.requestsOk.congr {s t : State} (w : s.requestsOk) (slot : ∀ k, t.slot k = s.slot k) (link : ∀ m, t.link m = s.link m) :
    t.requestsOk := by
  obtain ⟨queued, once, sent⟩ := w
  constructor
  · simpa only [slot, link] using queued
  · simpa only [link] using once
  · simpa only [slot, link] using sent

section
variable (s : State) (operand : BitVec 24)

/-- The sites that a THAW thaws. -/
def State.thawedSites : List SiteId := (maskSites operand).filter fun n => s.frozen n != false

/-- What a THAW leaves before the event's end. -/
def State.thawn : State := ((s.froze false operand).rehold (s.thawedSites operand)).due (decide (s.thawedSites operand ≠ []))

theorem State.commandThaw_of_mask (h : operand.toNat < 1024) :
    s.commandThaw operand = (s.finish (s.thawn operand), .accepted) := by
  have hflip : (fun n => s.frozen n) = fun n => s.frozen n != false := funext fun n => by cases s.frozen n <;> rfl
  unfold State.commandThaw State.thawn State.thawedSites State.froze
  rw [if_neg (by omega), hflip]

theorem State.thawn_only : s.thawn operand = { s with
    sites := (s.froze false operand).sites, slots := (s.thawn operand).slots, links := (s.thawn operand).links,
    passDue := (s.thawn operand).passDue } := by
  have honly := s.froze_only false operand
  have hrehold : SameButLinks (s.froze false operand) ((s.froze false operand).rehold (s.thawedSites operand)) := rehold_only _ _
  unfold State.thawn
  generalize (s.froze false operand).rehold (s.thawedSites operand) = r at *
  unfold SameButLinks at hrehold
  rw [hrehold, honly]
  rfl

theorem mem_thawedSites (n : SiteId) : n ∈ s.thawedSites operand ↔ (operand.getLsbD n.val && (s.site n).frozen) = true := by
  unfold State.thawedSites
  rw [List.mem_filter, mem_maskSites, bne_iff_ne, ne_eq, Bool.not_eq_false, Bool.and_eq_true]
  rfl

end

/-- The held flags after a THAW: at a slot with an end at a thawed site, what the holds and flags that remain give. -/
theorem State.nowAt_thawn (s : State) (operand : BitVec 24) (x : Slot) : (s.froze false operand).nowAt (s.thawedSites operand) x =
    let d := s.chan x.handle
    let thawed (n : SiteId) : Bool := operand.getLsbD n.val && (s.site n).frozen
    let frozenAfter (n : SiteId) := (s.site n).frozen && !operand.getLsbD n.val
    if thawed d.srcSite || thawed d.dstSite then
      s.sourceHold d.srcSite || s.destHold d.dstSite || frozenAfter d.srcSite || frozenAfter d.dstSite
    else x.held := by
  have contains (n : SiteId) : (s.thawedSites operand).contains n = (operand.getLsbD n.val && (s.site n).frozen) := by
    rw [Bool.eq_iff_iff, List.contains_iff_mem, mem_thawedSites]
  have flag (n : SiteId) : (s.froze false operand).frozen n = ((s.site n).frozen && !operand.getLsbD n.val) := by
    rw [State.frozen_froze]
    cases operand.getLsbD n.val <;> simp
  unfold State.nowAt State.isHeld
  rw [State.slotAt_froze]
  unfold State.slotAt
  simp only [contains, State.chan_froze, State.heldBetween_froze, flag]

theorem exec_thaw {s c : State} {operand : BitVec 24} (hin : s.inReset = false) (hc : s.withCellWrite 0 (4#8 ++ operand) = c) :
    exec (.thaw operand) s = .next (State.logCommand (c.commandThaw operand) 4#8) := by
  rw [exec_of_command hin (c := .thaw operand) (code := 4#8) (operand := operand) (by simp), hc]
  rfl

theorem exec_thaw_of_mask {s c : State} {operand : BitVec 24} (hin : s.inReset = false) (hc : s.withCellWrite 0 (4#8 ++ operand) = c)
    (hmask : operand.toNat < 1024) : exec (.thaw operand) s = .next ((c.finish (c.thawn operand)).withLog 4 1) := by
  rw [exec_thaw hin hc, State.commandThaw_of_mask c operand hmask]
  generalize c.finish _ = u
  rfl

/-- The flags that stay after a THAW. -/
theorem State.site_thawn (s : State) (operand : BitVec 24) (n : SiteId) : (s.thawn operand).site n =
    { s.site n with frozen := (s.site n).frozen && !operand.getLsbD n.val } := by
  have hfroze : (s.thawn operand).site n = (s.froze false operand).site n := by rw [State.thawn_only]; rfl
  rw [hfroze, State.site_froze]
  cases operand.getLsbD n.val <;> simp

theorem State.slot_thawn (s : State) (operand : BitVec 24) (k : SlotId) : (s.thawn operand).slot k =
    ((s.froze false operand).rehold (s.thawedSites operand)).slot k := by rw [State.thawn, State.slot_due]

theorem State.link_thawn (s : State) (operand : BitVec 24) (m : SiteId) : (s.thawn operand).link m =
    ((s.froze false operand).rehold (s.thawedSites operand)).link m := by rw [State.thawn, State.link_due]

theorem State.passDue_thawn (s : State) (operand : BitVec 24) :
    (s.thawn operand).passDue = (s.passDue || decide (s.thawedSites operand ≠ [])) := by
  have hkeep : ((s.froze false operand).rehold (s.thawedSites operand)).passDue = s.passDue :=
    (rehold_only _ _).passDue.trans (by rw [State.froze_only])
  unfold State.thawn
  rw [State.due, hkeep]

theorem State.outer_thawn (s : State) (operand : BitVec 24) : (s.thawn operand).outer = s.outer := by
  simp [State.thawn, State.froze, State.outer_freezes]

theorem State.slot_thawn_none (s : State) (operand : BitVec 24) (k : SlotId) : (s.thawn operand).slot k = none ↔ s.slot k = none := by
  rw [State.slot_thawn, State.slot_rehold_none, State.slot_froze]

theorem State.finish_thawn (s : State) (operand : BitVec 24) : s.finish (s.thawn operand) = (s.thawn operand).runPass :=
  State.finish_of_none_freed fun k => (s.slot_thawn_none operand k).mp

/-- A mask that names no frozen site changes nothing. -/
theorem State.thawn_of_none {s : State} {operand : BitVec 24} (h : s.thawedSites operand = []) : s.thawn operand = s := by
  have hsites : (s.froze false operand).sites = s.sites := vector_ext_get fun n => by
    change (s.froze false operand).site n = s.site n
    have hn : ¬(operand.getLsbD n.val && (s.site n).frozen) = true := by
      rw [← mem_thawedSites, h]
      exact List.not_mem_nil
    rw [State.site_froze]
    cases hb : operand.getLsbD n.val with
    | false => rfl
    | true =>
      have hf : (s.site n).frozen = false := by simpa [hb] using hn
      rw [if_pos rfl, ← hf]
  unfold State.thawn
  rw [h, State.rehold_nil, State.froze_only, hsites]
  simp

theorem State.outer_withLog_congr {s t : State} (h : t.outer = s.outer) (code result : Byte) :
    (t.withLog code result).outer = (s.withLog code result).outer := by
  change { t.outer with cmd := { count := t.outer.cmd.count + 1, code, result } } =
    { s.outer with cmd := { count := s.outer.cmd.count + 1, code, result } }
  rw [h]

/-- Settles O24: the slots and links by `reheld_rehold` and `requestsOk.rehold`, the end by `admits_runPass`. -/
theorem thawClearsFreezeFlags : Obligations.ThawClearsFreezeFlags := by
  intro s operand hin
  generalize hc : s.withCellWrite 0 (4#8 ++ operand) = c'
  intro c
  have same : c = c' := rfl
  clear_value c
  subst same
  refine ⟨fun hbad => ?_, fun hmask => ?_⟩
  · rw [exec_thaw hin hc]
    unfold State.commandThaw
    rw [if_pos hbad]
    rfl
  intro thawedSite frozenAfter heldAfter thawed now
  have hrun := exec_thaw_of_mask hin hc hmask
  have hcengine : c.engine = s.engine := by rw [← hc]; rfl
  have hcjournal : c.journal = s.journal := by rw [← hc]; rfl
  have hcslot (k : SlotId) : c.slot k = s.slot k := by rw [← hc]; rfl
  have hclink (m : SiteId) : c.link m = s.link m := by rw [← hc]; rfl
  have hcchan (h : Handle) : c.chan h = s.chan h := by rw [← hc]; rfl
  have hcparams (n : SiteId) : c.params n = s.params n := by rw [← hc]; rfl
  have hcsite (n : SiteId) : c.site n = s.site n := by rw [← hc]; rfl
  have hcpass : c.passDue = s.passDue := congrArg Engine.passDue hcengine
  have hnow : (c.froze false operand).nowAt (c.thawedSites operand) = now := funext fun x => by
    rw [State.nowAt_thawn, ← hc]
    rfl
  have hmem (n : SiteId) : n ∈ c.thawedSites operand ↔ thawedSite n = true := by rw [mem_thawedSites, hcsite]
  have hany : c.thawedSites operand ≠ [] ↔ ∃ n, thawedSite n = true := by
    rw [ne_eq, List.eq_nil_iff_forall_not_mem, not_forall]
    exact exists_congr fun n => not_not.trans (hmem n)
  have honly := c.thawn_only operand
  have hsite := c.site_thawn operand
  simp only [hcsite] at hsite
  have hadmits := (c.thawn operand).admits_runPass
  have htables := State.maps_of_entry hadmits.entry
  rw [State.finish_thawn] at hrun
  have hv : (c.thawn operand).engine = { s.engine with
      sites := (c.froze false operand).sites, slots := (c.thawn operand).slots, links := (c.thawn operand).links,
      passDue := (c.thawn operand).passDue } := by
    rw [← hcengine, honly]
    rfl
  have hvouter := c.outer_thawn operand
  have hvjournal : (c.thawn operand).journal = s.journal := by rw [honly, ← hcjournal]
  have hvdue := c.passDue_thawn operand
  have hvnone := c.slot_thawn_none operand
  have hvslot := c.slot_thawn operand
  have hvlink := c.link_thawn operand
  have hvsame : c.thawedSites operand = [] → c.thawn operand = c := State.thawn_of_none
  have hvfinish := c.finish_thawn operand
  generalize c.thawn operand = v at *
  have hrun' := hrun
  rw [← hvfinish] at hrun'
  refine ⟨⟨_, hrun, ?_, fun n => ?_, htables.1.trans (congrArg Engine.maps hv), htables.2.1.trans (congrArg Engine.addCells hv),
    htables.2.2.trans (congrArg Engine.dropCells hv), hadmits.conds.trans (congrArg Engine.conds hv),
    hadmits.taps.trans (congrArg Engine.taps hv), fun hpass hnone => ?_⟩, v, hrun', hvouter, hvjournal, hsite,
    congrArg Engine.chans hv, congrArg Engine.maps hv, congrArg Engine.addCells hv, congrArg Engine.dropCells hv,
    congrArg Engine.waitList hv, congrArg Engine.committed hv, congrArg Engine.conds hv, congrArg Engine.taps hv, ?_,
    fun hserved => ?_, fun k => ?_, fun hreq => ⟨fun k x hx => ?_, fun m ho => ?_⟩⟩
  · exact State.outer_withLog_congr (hadmits.outer.trans hvouter) 4 1
  · exact (congrArg (Vector.get · n) hadmits.sites).trans (hsite n)
  · have hnil : c.thawedSites operand = [] := by
      by_contra h
      obtain ⟨n, hn⟩ := hany.mp h
      rw [hnone n] at hn
      cases hn
    have hstands : c.runPass = c := if_neg (by rw [hcpass, hpass]; decide)
    rw [hvsame hnil, hstands]
    exact ⟨hcengine, hcjournal⟩
  · rw [hvdue, Bool.or_eq_true, decide_eq_true_iff, hany, hcpass]
  · have w := State.reheld_rehold (c.froze false operand) (c.thawedSites operand) fun m ho => by
      rw [State.link_froze, hclink] at ho ⊢
      exact hserved hin m ho
    rw [hnow] at w
    exact w.congr (fun k => by rw [State.slot_froze, hcslot]) (fun m => by rw [State.link_froze, hclink])
      (fun h => by rw [State.chan_froze, hcchan]) (fun n => by rw [State.params_froze, hcparams]) hvslot hvlink
  · rw [hvnone, hcslot]
    exact id
  all_goals
    have hreq' : (c.froze false operand).requestsOk :=
      hreq.congr (fun k => by rw [State.slot_froze, hcslot]) fun m => by rw [State.link_froze, hclink]
    obtain ⟨hslots, hlinks⟩ := hreq'.rehold (c.thawedSites operand)
    rw [hnow] at hslots hlinks
  · rw [hvslot]
    exact hslots k x (by rw [State.slot_froze, hcslot, hx])
  · have hqueue : (c.froze false operand).queueAfter now m = s.queueAfter now m := by
      unfold State.queueAfter State.restarting
      simp only [State.slot_froze, State.link_froze, hcslot, hclink]
    rw [hvlink, hlinks m (by rw [State.link_froze, hclink]; exact ho), hqueue, State.link_froze, hclink]

end Sys2Proof.Machine
end


section
/-!
SUPPORT. The bounds of the tables and the places of the postings (O7, O14), first part. `State.tidy` gathers what these obligations say of
one state, so that each operation is followed once; which of it is assumed, and so kept, is a parameter, since the obligations do not
assume it all together. First the parts, and what each elementary write keeps of them.
-/

namespace Sys2Proof.Machine

open Sys2Proof

/-! ### What is kept -/

/-- Which of the invariants of O7 and O14 are assumed, and of which modules that nothing waits while they are idle. -/
structure Assumed where
  queue : Prop
  bounds : Prop
  placed : Prop
  links : Prop
  requests : Prop
  served : SiteId → Prop

/-- None of them. -/
def Assumed.nothing : Assumed := ⟨False, False, False, False, False, fun _ => False⟩

/-- The same but for one module, which is about to be served. -/
def Assumed.but (p : Assumed) (m : SiteId) : Assumed := { p with served := fun n => p.served n ∧ n ≠ m }

/-- One module's side of the Switch Link, with the slots that its requests and its outstanding message name. -/
structure Link.fits (p : Assumed) (slots : SlotId → Option Slot) (m : SiteId) (l : Link) : Prop where
  bounded : p.links → l.bounded
  queued : p.requests → ∀ k, .ramp k ∈ l.queue → ∃ x, slots k = some x ∧ x.dest = m ∧ x.drive = .queued
  once : p.requests → (rampSlots l.queue).Nodup
  sent : p.requests → ∀ o k, l.out = some o → o.bind = .slot k → ∃ x, slots k = some x ∧ x.dest = m ∧ x.drive = .sent
  rested : p.requests → p.served m → l.out = none → l.shutters = [] ∧ l.queue = []

/-- The places of everything on its way to the SRAM: the memory path's part of `State.placedOk`. -/
def State.pathPlaced (s : State) : Prop :=
  (∀ o ∈ s.inFlight, validPoolOffset o.toNat = true) ∧ (∀ e ∈ s.queue, e.placed) ∧ (∀ i ∈ s.journal.handOver, i.placed) ∧
  (∀ i ∈ s.walker.toPlace, i.placed) ∧ validDesc s.walker.current ∧ ∀ o ∈ s.walker.heads, validPoolOffset o.toNat = true

/-- The descriptors of the transitions: the engine's part of `State.placedOk`. -/
def State.descsValid (s : State) : Prop :=
  (∀ h, validDesc (s.chan h).desc) ∧ (∀ e ∈ s.waitList, validDesc e.desc) ∧ ∀ k x, s.slot k = some x → validDesc x.desc

theorem State.placedOk_iff (s : State) : s.placedOk ↔ s.pathPlaced ∧ s.descsValid :=
  ⟨fun ⟨flight, queue, hand, place, current, heads, chans, waits, slots⟩ =>
    ⟨⟨flight, queue, hand, place, current, heads⟩, chans, waits, slots⟩,
   fun ⟨⟨flight, queue, hand, place, current, heads⟩, chans, waits, slots⟩ =>
    ⟨flight, queue, hand, place, current, heads, chans, waits, slots⟩⟩

/-- What is assumed of the invariants of O7 and O14 holds. -/
def State.tidy (p : Assumed) (s : State) : Prop :=
  (p.queue → s.queueOk) ∧ (p.bounds → s.boundsOk) ∧ (p.placed → s.pathPlaced) ∧ (p.placed → s.descsValid) ∧
  ∀ m, (s.link m).fits p s.slot m

/-- With nothing assumed of idle modules, the part of the links is `State.linksOk` and `State.requestsOk`. -/
theorem State.tidy_iff {p : Assumed} (s : State) (hp : ∀ m, ¬p.served m) :
    s.tidy p ↔ (p.queue → s.queueOk) ∧ (p.bounds → s.boundsOk) ∧ (p.placed → s.placedOk) ∧ (p.links → s.linksOk) ∧
      (p.requests → s.requestsOk) := by
  rw [State.placedOk_iff]
  constructor
  · rintro ⟨queue, bounds, path, descs, links⟩
    exact ⟨queue, bounds, fun h => ⟨path h, descs h⟩, fun h m => (links m).bounded h,
      fun h => ⟨fun m => (links m).queued h, fun m => (links m).once h, fun m => (links m).sent h⟩⟩
  · rintro ⟨queue, bounds, placed, links, requests⟩
    exact ⟨queue, bounds, fun h => (placed h).1, fun h => (placed h).2, fun m =>
      ⟨fun h => links h m, fun h => (requests h).queued m, fun h => (requests h).once m, fun h => (requests h).sent m,
       fun _ h => absurd h (hp m)⟩⟩

/-- With the requests assumed and every module served. -/
theorem State.tidy_served_iff {p : Assumed} (s : State) (hr : p.requests) (hp : ∀ m, p.served m) (hq : ¬p.queue) (hb : ¬p.bounds)
    (hpl : ¬p.placed) (hl : ¬p.links) :
    s.tidy p ↔ s.requestsOk ∧ ∀ m, (s.link m).out = none → (s.link m).shutters = [] ∧ (s.link m).queue = [] := by
  constructor
  · rintro ⟨-, -, -, -, links⟩
    exact ⟨⟨fun m => (links m).queued hr, fun m => (links m).once hr, fun m => (links m).sent hr⟩,
      fun m => (links m).rested hr (hp m)⟩
  · rintro ⟨requests, served⟩
    exact ⟨fun h => absurd h hq, fun h => absurd h hb, fun h => absurd h hpl, fun h => absurd h hpl, fun m =>
      ⟨fun h => absurd h hl, fun _ => requests.queued m, fun _ => requests.once m, fun _ => requests.sent m, fun _ _ => served m⟩⟩

/-! ### Requests -/

@[simp] theorem mem_rampSlots (q : List Request) (k : SlotId) : k ∈ rampSlots q ↔ .ramp k ∈ q := by
  unfold rampSlots
  rw [List.mem_filterMap]
  constructor
  · rintro ⟨r, hr, hk⟩
    cases r with
    | ramp j => cases hk; exact hr
    | level _ _ => cases hk
  · exact fun h => ⟨_, h, rfl⟩

@[simp] theorem rampSlots_append (q r : List Request) : rampSlots (q ++ r) = rampSlots q ++ rampSlots r := List.filterMap_append

@[simp] theorem levelCount_append (q r : List Request) : levelCount (q ++ r) = levelCount q + levelCount r := by
  simp [levelCount]

/-- A queue holds RAMP and LEVEL requests and nothing else. -/
theorem length_eq_ramps_add_levels (q : List Request) : q.length = (rampSlots q).length + levelCount q := by
  induction q with
  | nil => rfl
  | cons r q ih =>
    cases r with
    | ramp k =>
      have hr : rampSlots (.ramp k :: q) = k :: rampSlots q := rfl
      have hl : levelCount (.ramp k :: q) = levelCount q := rfl
      rw [hr, hl, List.length_cons, List.length_cons, ih]
      omega
    | level h a =>
      have hr : rampSlots (.level h a :: q) = rampSlots q := rfl
      have hl : levelCount (.level h a :: q) = levelCount q + 1 := rfl
      rw [hr, hl, List.length_cons, ih]
      omega

/-- A slot that a module's side of the Switch Link names: by a queued request, or by the outstanding message. -/
def Link.names (l : Link) (k : SlotId) : Prop := .ramp k ∈ l.queue ∨ ∃ o, l.out = some o ∧ o.bind = .slot k

/-- No module's side of the Switch Link names the slot. -/
def State.unnamed (p : Assumed) (s : State) (k : SlotId) : Prop := p.requests → ∀ m, ¬(s.link m).names k

/-! ### A link that holds less -/

/-- A side of the Switch Link with no more on it than another: nothing joined it, no message was sent, none bound anew. -/
structure Link.within (l' l : Link) : Prop where
  out : ∀ o', l'.out = some o' → ∃ o, l.out = some o ∧ o'.timer ≤ o.timer ∧ ∀ k, o'.bind = .slot k → o.bind = .slot k
  busy : l'.out = none → l.out = none
  shutters : l'.shutters.length ≤ l.shutters.length
  ramps : (rampSlots l'.queue).Sublist (rampSlots l.queue)
  levels : levelCount l'.queue ≤ levelCount l.queue
  length : l'.queue.length ≤ l.queue.length

theorem Outstanding.detachIf_timer (o : Outstanding) (b : Bool) : (o.detachIf b).timer = o.timer := by cases b <;> rfl

theorem Outstanding.detachIf_bind {o : Outstanding} {b : Bool} {k : SlotId} (h : (o.detachIf b).bind = .slot k) : o.bind = .slot k := by
  cases b
  · exact h
  · cases h

namespace Link.within

theorem withQueue (l : Link) {q : List Request} (hq : q.Sublist l.queue) : Link.within { l with queue := q } l where
  out o ho := ⟨o, ho, Nat.le_refl _, fun _ h => h⟩
  busy h := h
  shutters := Nat.le_refl _
  ramps := hq.filterMap _
  levels := (hq.filter _).length_le
  length := hq.length_le

theorem withOut (l : Link) {f : Outstanding → Outstanding} (timer : ∀ o, (f o).timer ≤ o.timer)
    (bind : ∀ o k, (f o).bind = .slot k → o.bind = .slot k) : Link.within { l with out := l.out.map f } l where
  out o' ho' := by
    obtain ⟨o, ho, rfl⟩ := Option.map_eq_some_iff.mp ho'
    exact ⟨o, ho, timer o, bind o⟩
  busy h := Option.map_eq_none_iff.mp h
  shutters := Nat.le_refl _
  ramps := .refl _
  levels := Nat.le_refl _
  length := Nat.le_refl _

theorem withShutters (l : Link) {e : List ShutterEntry} (he : e.length ≤ l.shutters.length) :
    Link.within { l with shutters := e } l where
  out o ho := ⟨o, ho, Nat.le_refl _, fun _ h => h⟩
  busy h := h
  shutters := he
  ramps := .refl _
  levels := Nat.le_refl _
  length := Nat.le_refl _

theorem withLevels (l : Link) {q : List Request} (ramps : rampSlots q = rampSlots l.queue) (length : q.length = l.queue.length) :
    Link.within { l with queue := q } l where
  out o ho := ⟨o, ho, Nat.le_refl _, fun _ h => h⟩
  busy h := h
  shutters := Nat.le_refl _
  ramps := ramps ▸ .refl _
  levels := by
    have hq := length_eq_ramps_add_levels q
    have hl := length_eq_ramps_add_levels l.queue
    have hr := congrArg List.length ramps
    show levelCount q ≤ levelCount l.queue
    omega
  length := Nat.le_of_eq length

theorem detach (l : Link) (b : Outstanding → Bool) : Link.within { l with out := l.out.map fun o => o.detachIf (b o) } l :=
  withOut l (fun o => Nat.le_of_eq (o.detachIf_timer _)) fun _ _ => Outstanding.detachIf_bind

end Link.within

namespace Link.fits

variable {p : Assumed} {f g : SlotId → Option Slot} {m : SiteId} {l l' : Link} (hl : l.fits p f m)
include hl

theorem of_within (h : l'.within l) : l'.fits p f m where
  bounded hp := by
    obtain ⟨levels, shutters, timer⟩ := hl.bounded hp
    refine ⟨h.levels.trans levels, h.shutters.trans shutters, fun o' ho' => ?_⟩
    obtain ⟨o, ho, ht, -⟩ := h.out o' ho'
    exact ht.trans (timer o ho)
  queued hp k hk := hl.queued hp k ((mem_rampSlots _ _).mp (h.ramps.subset ((mem_rampSlots _ _).mpr hk)))
  once hp := (hl.once hp).sublist h.ramps
  sent hp o' k ho' hk := by
    obtain ⟨o, ho, -, hb⟩ := h.out o' ho'
    exact hl.sent hp o k ho (hb k hk)
  rested hp hm ho := by
    obtain ⟨hs, hq⟩ := hl.rested hp hm (h.busy ho)
    have hs' := h.shutters
    have hq' := h.length
    rw [hs] at hs'
    rw [hq] at hq'
    exact ⟨List.eq_nil_of_length_eq_zero (Nat.le_zero.mp hs'), List.eq_nil_of_length_eq_zero (Nat.le_zero.mp hq')⟩

/-- A named slot is one of the module, QUEUED or SENT. -/
theorem of_names (hp : p.requests) {k : SlotId} (hk : l.names k) :
    ∃ x, f k = some x ∧ x.dest = m ∧ (x.drive = .queued ∨ x.drive = .sent) := by
  obtain hk | ⟨o, ho, hk⟩ := hk
  · obtain ⟨x, hx, hm, hd⟩ := hl.queued hp k hk
    exact ⟨x, hx, hm, .inl hd⟩
  · obtain ⟨x, hx, hm, hd⟩ := hl.sent hp o k ho hk
    exact ⟨x, hx, hm, .inr hd⟩

/-- Only the named slots matter, and of them the module and the drive state. -/
theorem reslot (h : p.requests → ∀ k x, l.names k → f k = some x → ∃ y, g k = some y ∧ y.dest = x.dest ∧ y.drive = x.drive) :
    l.fits p g m where
  bounded := hl.bounded
  queued hp k hk := by
    obtain ⟨x, hx, hm, hd⟩ := hl.queued hp k hk
    obtain ⟨y, hy, dest, drive⟩ := h hp k x (.inl hk) hx
    exact ⟨y, hy, dest.trans hm, drive.trans hd⟩
  once := hl.once
  sent hp o k ho hk := by
    obtain ⟨x, hx, hm, hd⟩ := hl.sent hp o k ho hk
    obtain ⟨y, hy, dest, drive⟩ := h hp k x (.inr ⟨o, ho, hk⟩) hx
    exact ⟨y, hy, dest.trans hm, drive.trans hd⟩
  rested := hl.rested

/-- A message is sent: the timer starts at 8 ticks, and a module that is busy is served. -/
theorem send {o : Outstanding} {n : Byte} (ht : o.timer ≤ 8)
    (hb : p.requests → ∀ k, o.bind = .slot k → ∃ x, f k = some x ∧ x.dest = m ∧ x.drive = .sent) :
    Link.fits p f m { l with seq := n, out := some o } where
  bounded hp := by
    obtain ⟨levels, shutters, -⟩ := hl.bounded hp
    exact ⟨levels, shutters, fun _ h => by cases h; exact ht⟩
  queued := hl.queued
  once := hl.once
  sent hp _ k h hk := by cases h; exact hb hp k hk
  rested _ _ := nofun

theorem but (n : SiteId) : l.fits (p.but n) f m := ⟨hl.bounded, hl.queued, hl.once, hl.sent, fun hp hm => hl.rested hp hm.1⟩

omit hl in
theorem of_but {n : SiteId} (hl : l.fits (p.but n) f m) (hm : m ≠ n) : l.fits p f m :=
  ⟨hl.bounded, hl.queued, hl.once, hl.sent, fun hp hs => hl.rested hp ⟨hs, hm⟩⟩

end Link.fits

/-! ### The elementary writes -/

namespace State.tidy

variable {p : Assumed} {s t : State} (hs : s.tidy p)
include hs

theorem queue : p.queue → s.queueOk := hs.1
theorem bounds : p.bounds → s.boundsOk := hs.2.1
theorem path : p.placed → s.pathPlaced := hs.2.2.1
theorem descs : p.placed → s.descsValid := hs.2.2.2.1
theorem link (m : SiteId) : (s.link m).fits p s.slot m := hs.2.2.2.2 m

theorem chanDesc (hp : p.placed) (h : Handle) : validDesc (s.chan h).desc := (hs.descs hp).1 h
theorem waitDesc (hp : p.placed) {e : WaitEntry} (he : e ∈ s.waitList) : validDesc e.desc := (hs.descs hp).2.1 e he
theorem slotDesc (hp : p.placed) {k : SlotId} {x : Slot} (hx : s.slot k = some x) : validDesc x.desc := (hs.descs hp).2.2 k x hx

theorem but (m : SiteId) : s.tidy (p.but m) := ⟨hs.queue, hs.bounds, hs.path, hs.descs, fun n => (hs.link n).but m⟩

theorem setChan {h : Handle} {c : Channel} (hc : p.placed → validDesc c.desc) : (s.setChan h c).tidy p := by
  refine ⟨hs.queue, hs.bounds, hs.path, fun hp => ⟨fun j => ?_, (hs.descs hp).2⟩, hs.link⟩
  rw [State.chan_setChan]
  split
  · exact hc hp
  · exact hs.chanDesc hp j

/-- A record is rewritten with the descriptor it has, or none. -/
theorem setChan_same {h : Handle} {c : Channel} (hc : c.desc = (s.chan h).desc ∨ c.desc = none) : (s.setChan h c).tidy p :=
  hs.setChan fun hp o ho => by
    obtain hc | hc := hc
    · exact hs.chanDesc hp h o (hc ▸ ho)
    · rw [hc] at ho; cases ho

theorem setLink {m : SiteId} {l : Link} (hl : l.fits p s.slot m) : (s.setLink m l).tidy p := by
  refine ⟨hs.queue, hs.bounds, hs.path, hs.descs, fun n => ?_⟩
  rw [State.link_setLink]
  split
  · rename_i h; subst h; exact hl
  · exact hs.link n

theorem setLink_within {m : SiteId} {l : Link} (hl : l.within (s.link m)) : (s.setLink m l).tidy p := hs.setLink ((hs.link m).of_within hl)

/-- A slot is written that no link names. -/
theorem setSlot {k : SlotId} {x : Option Slot} (hk : s.unnamed p k) (hx : p.placed → ∀ y, x = some y → validDesc y.desc) :
    (s.setSlot k x).tidy p := by
  refine ⟨hs.queue, hs.bounds, hs.path, fun hp => ⟨(hs.descs hp).1, (hs.descs hp).2.1, fun j y hy => ?_⟩, fun m => ?_⟩
  · rw [State.slot_setSlot] at hy
    split at hy
    · exact hx hp y hy
    · exact hs.slotDesc hp hy
  · refine (hs.link m).reslot fun hr j y hj hy => ?_
    have hne : j ≠ k := fun h => hk hr m (h ▸ hj)
    exact ⟨y, (State.slot_setSlot_of_ne s k x hne).trans hy, rfl, rfl⟩

/-- A slot that no link names takes another drive state. -/
theorem redrive {k : SlotId} {x y : Slot} (hk : s.unnamed p k) (hx : s.slot k = some x) (hy : y.desc = x.desc) :
    (s.setSlot k (some y)).tidy p :=
  hs.setSlot hk fun hp z hz => by cases hz; exact hy ▸ hs.slotDesc hp hx

/-- A slot keeps its module and its drive state. -/
theorem setSlot_same {k : SlotId} {x y : Slot} (hk : s.slot k = some x) (dest : y.dest = x.dest) (drive : y.drive = x.drive)
    (hy : p.placed → validDesc y.desc) : (s.setSlot k (some y)).tidy p := by
  refine ⟨hs.queue, hs.bounds, hs.path, fun hp => ⟨(hs.descs hp).1, (hs.descs hp).2.1, fun j z hz => ?_⟩, fun m => ?_⟩
  · rw [State.slot_setSlot] at hz
    split at hz
    · cases hz; exact hy hp
    · exact hs.slotDesc hp hz
  · refine (hs.link m).reslot fun hr j z _ hz => ?_
    rw [State.slot_setSlot]
    split
    · rename_i h; subst h
      cases hk.symm.trans hz
      exact ⟨y, rfl, dest, drive⟩
    · exact ⟨z, hz, rfl, rfl⟩

theorem withWaits {l : List WaitEntry} (hl : p.placed → ∀ e ∈ l, validDesc e.desc) : (s.withWaits l).tidy p :=
  ⟨hs.queue, hs.bounds, hs.path, fun hp => ⟨(hs.descs hp).1, hl hp, (hs.descs hp).2.2⟩, hs.link⟩

theorem setSite (n : SiteId) (x : Site) : (s.setSite n x).tidy p := hs
theorem setCond (n : SiteId) (c : CondRec) : (s.setCond n c).tidy p := hs
theorem setTap (i : TapId) (x : Tap) : (s.setTap i x).tidy p := hs
theorem due (b : Bool) : (s.due b).tidy p := hs

theorem setEntry (r : EntryRef) (e : Entry) : (s.setEntry r e).tidy p := by
  cases r <;> exact hs

omit hs in
theorem foldl {α : Type} {f : State → α → State} (hf : ∀ {s} a, s.tidy p → (f s a).tidy p) (l : List α) {s : State}
    (hs : s.tidy p) : (l.foldl f s).tidy p := by
  induction l generalizing s with
  | nil => exact hs
  | cons a l ih => exact ih (hf a hs)

theorem handOne {i : Item} (hi : p.placed → i.placed) : (s.handOne i).tidy p := by
  have joined : ({ s with journal := { s.journal with handOver := s.journal.handOver ++ [i] } } : State).tidy p := by
    refine ⟨hs.queue, hs.bounds, fun hp => ?_, hs.descs, hs.link⟩
    obtain ⟨flight, queue, hand, rest⟩ := hs.path hp
    exact ⟨flight, queue, List.forall_mem_append.mpr ⟨hand, by simpa using hi hp⟩, rest⟩
  unfold State.handOne
  split
  · exact joined
  · split
    · exact joined
    · exact hs

theorem handOver {items : List Item} (hi : p.placed → ∀ i ∈ items, i.placed) : (s.handOver items).tidy p := by
  unfold State.handOver
  induction items generalizing s with
  | nil => exact hs
  | cons i items ih =>
    exact ih (hs.handOne fun hp => hi hp i List.mem_cons_self) fun hp j hj => hi hp j (List.mem_cons_of_mem i hj)

/-- A record has a place of its own choosing. -/
theorem handOver_record (r : Record) : (s.handOver [.record r]).tidy p :=
  hs.handOver fun _ i hi => by cases List.mem_singleton.mp hi; trivial

/-! ### Slots that no link names -/

theorem unnamed_of_none {k : SlotId} (hk : s.slot k = none) : s.unnamed p k := by
  intro hr m hn
  obtain ⟨x, hx, -⟩ := (hs.link m).of_names hr hn
  rw [hk] at hx
  cases hx

theorem unnamed_of_drive {k : SlotId} {x : Slot} (hk : s.slot k = some x) (queued : x.drive ≠ .queued) (sent : x.drive ≠ .sent) :
    s.unnamed p k := by
  intro hr m hn
  obtain ⟨y, hy, -, hd⟩ := (hs.link m).of_names hr hn
  cases hk.symm.trans hy
  exact hd.elim queued sent

/-- Only the module of a slot can name it. -/
theorem unnamed_of_dest {k : SlotId} {x : Slot} (hk : s.slot k = some x) (h : p.requests → ¬(s.link x.dest).names k) :
    s.unnamed p k := by
  intro hr m hn
  obtain ⟨y, hy, hm, -⟩ := (hs.link m).of_names hr hn
  cases hk.symm.trans hy
  exact h hr (hm ▸ hn)

end State.tidy

end Sys2Proof.Machine
end


section
/-!
SUPPORT. The bounds of the tables and the places of the postings (O7, O14), second part: the Switch Link and the slots, holds, and the
removal of transitions.
-/

namespace Sys2Proof.Machine

open Sys2Proof

theorem State.transmit_eq (s : State) (m : SiteId) (first count : Nat) (input : InputSel) (port : Option (Fin 12)) (setting : Setting)
    (cls : MsgClass) (bind : Binding) : ∃ o n, s.transmit m first count input port setting cls bind =
      s.setLink m { s.link m with seq := n, out := some o } ∧ o.timer = 8 ∧ o.bind = bind :=
  ⟨_, _, rfl, rfl, rfl⟩

namespace State.tidy

variable {p : Assumed} {s t : State} (hs : s.tidy p)
include hs

/-! ### The Switch Link (R101, R111, R114, R117, R118) -/

omit hs in
/-- A module that is sent a message is served. -/
theorem transmit {m : SiteId} (hs : s.tidy (p.but m)) {bind : Binding}
    (hb : p.requests → ∀ k, bind = .slot k → ∃ x, s.slot k = some x ∧ x.dest = m ∧ x.drive = .sent)
    (first count : Nat) (input : InputSel) (port : Option (Fin 12)) (setting : Setting) (cls : MsgClass) :
    (s.transmit m first count input port setting cls bind).tidy p := by
  obtain ⟨o, n, h, timer, rfl⟩ := s.transmit_eq m first count input port setting cls bind
  rw [h]
  have sent := (hs.link m).send (n := n) (Nat.le_of_eq timer) hb
  refine ⟨hs.queue, hs.bounds, hs.path, hs.descs, fun j => ?_⟩
  rw [State.link_setLink]
  split
  · rename_i h; subst h
    exact ⟨sent.bounded, sent.queued, sent.once, sent.sent, fun _ _ => nofun⟩
  · rename_i h; exact (hs.link j).of_but h

omit hs in
/-- An idle module is sent what waits first, and is then served (R114). -/
theorem sendNext {m : SiteId} (hs : s.tidy (p.but m)) (idle : (s.link m).out = none) : (s.sendNext m).tidy p := by
  have without {r : Request} {rest : List Request} (hq : (s.link m).queue = r :: rest) :
      (s.setLink m { s.link m with queue := rest }).tidy (p.but m) :=
    hs.setLink_within (Link.within.withQueue _ (hq ▸ List.sublist_cons_self r rest))
  unfold State.sendNext
  dsimp only
  split
  · rename_i e _
    refine transmit (hs.setLink_within (Link.within.withShutters _ (List.erase_sublist.length_le))) (fun _ k h => ?_) _ _ _ _ _ _
    split at h <;> cases h
  · rename_i hf
    split
    · rename_i hq
      refine ⟨hs.queue, hs.bounds, hs.path, hs.descs, fun j => ?_⟩
      by_cases hj : j = m
      · subst hj
        have hl := hs.link j
        refine ⟨hl.bounded, hl.queued, hl.once, hl.sent, fun _ _ _ => ⟨?_, hq⟩⟩
        by_contra hne
        obtain ⟨e, he⟩ := firstShutter_isSome hne
        rw [hf] at he
        cases he
      · exact (hs.link j).of_but hj
    · rename_i k rest hq
      have mem : .ramp k ∈ (s.link m).queue := hq ▸ List.mem_cons_self
      split
      · rename_i hk
        have left := without hq
        refine ⟨left.queue, left.bounds, left.path, left.descs, fun j => ?_⟩
        by_cases hj : j = m
        · subst hj
          have hl := left.link j
          refine ⟨hl.bounded, hl.queued, hl.once, hl.sent, fun hr _ _ => ?_⟩
          obtain ⟨x, hx, -⟩ := (hs.link j).queued hr k mem
          rw [hk] at hx
          cases hx
        · exact (left.link j).of_but hj
      · rename_i x hx
        have unnamed : (s.setLink m { s.link m with queue := rest }).unnamed (p.but m) k := by
          intro hr
          obtain ⟨y, hy, hm, -⟩ := (hs.link m).queued hr k mem
          cases hx.symm.trans hy
          refine (without hq).unnamed_of_dest (x := x) hx (fun _ => ?_) hr
          have once := (hs.link m).once hr
          rw [hq] at once
          rw [hm, State.link_setLink_self]
          rintro (hk | ⟨o, ho, -⟩)
          · exact (List.nodup_cons.mp once).1 ((mem_rampSlots _ _).mpr hk)
          · rw [idle] at ho; cases ho
        refine transmit ((without hq).redrive (y := { x with drive := .sent }) unnamed hx rfl) (fun hr j hj => ?_) _ _ _ _ _ _
        cases hj
        obtain ⟨y, hy, hm, -⟩ := (hs.link m).queued hr k mem
        cases hx.symm.trans hy
        exact ⟨_, State.slot_setSlot_self _ k _, hm, rfl⟩
    · rename_i hq
      exact transmit (without hq) (fun _ _ h => by cases h) _ _ _ _ _ _

omit hs in
theorem kick {m : SiteId} (hs : s.tidy (p.but m)) : (s.kick m).tidy p := by
  unfold State.kick
  split
  · rename_i o ho
    refine ⟨hs.queue, hs.bounds, hs.path, hs.descs, fun j => ?_⟩
    by_cases hj : j = m
    · subst hj
      have hl := hs.link j
      exact ⟨hl.bounded, hl.queued, hl.once, hl.sent, fun _ _ h => by rw [ho] at h; cases h⟩
    · exact (hs.link j).of_but hj
  · exact sendNext hs (by assumption)

/-- A slot that no link names joins its module's queue. -/
theorem placeRamp {k : SlotId} (hk : s.unnamed p k) : (s.placeRamp k).tidy p := by
  unfold State.placeRamp
  split
  · exact hs
  · rename_i x hx
    dsimp only
    have queued : (s.setSlot k (some { x with drive := .queued, takeover := false })).tidy (p.but x.dest) :=
      (hs.but x.dest).redrive hk hx rfl
    have slot := State.slot_setSlot_self s k (some { x with drive := .queued, takeover := false })
    have hl := queued.link x.dest
    refine kick (setLink queued ⟨fun hp => ?_, fun hr j hj => ?_, fun hr => ?_, hl.sent, fun _ h => absurd rfl h.2⟩)
    · obtain ⟨levels, shutters, timer⟩ := hl.bounded hp
      exact ⟨by simpa [levelCount, Request.isLevel] using levels, shutters, timer⟩
    · obtain hj | hj := List.mem_append.mp hj
      · exact hl.queued hr j hj
      · cases List.mem_singleton.mp hj
        exact ⟨_, slot, rfl, rfl⟩
    · have fresh : k ∉ rampSlots (s.link x.dest).queue := fun h => hk hr x.dest (.inl ((mem_rampSlots _ _).mp h))
      rw [rampSlots_append]
      refine List.nodup_append.mpr ⟨hl.once hr, List.nodup_singleton k, fun a ha b hb => ?_⟩
      cases List.mem_singleton.mp hb
      exact fun h => fresh (h ▸ ha)

theorem withdrawRamp (m : SiteId) (k : SlotId) : (s.withdrawRamp m k).tidy p :=
  hs.setLink_within (Link.within.withQueue _ List.filter_sublist)

theorem detachRamp (m : SiteId) (k : SlotId) : (s.detachRamp m k).tidy p := hs.setLink_within (Link.within.detach _ _)

/-- A QUEUED slot whose request is withdrawn has nothing on a link. -/
theorem unnamed_withdrawRamp {k : SlotId} {x : Slot} (hx : s.slot k = some x) (hd : x.drive = .queued) :
    (s.withdrawRamp x.dest k).unnamed p k := by
  refine (hs.withdrawRamp x.dest k).unnamed_of_dest (x := x) hx fun hr => ?_
  unfold State.withdrawRamp
  dsimp only
  rw [State.link_setLink_self]
  rintro (hk | ⟨o, ho, hk⟩)
  · simp at hk
  · obtain ⟨y, hy, -, hsent⟩ := (hs.link x.dest).sent hr o k ho hk
    cases hx.symm.trans hy
    rw [hd] at hsent
    cases hsent

/-- A SENT slot whose message is detached has nothing on a link. -/
theorem unnamed_detachRamp {k : SlotId} {x : Slot} (hx : s.slot k = some x) (hd : x.drive = .sent) :
    (s.detachRamp x.dest k).unnamed p k := by
  refine (hs.detachRamp x.dest k).unnamed_of_dest (x := x) hx fun hr => ?_
  unfold State.detachRamp
  dsimp only
  rw [State.link_setLink_self]
  rintro (hk | ⟨o', ho', hk⟩)
  · obtain ⟨y, hy, -, hqueued⟩ := (hs.link x.dest).queued hr k hk
    cases hx.symm.trans hy
    rw [hd] at hqueued
    cases hqueued
  · obtain ⟨o, ho, rfl⟩ := Option.map_eq_some_iff.mp ho'
    have hb := Outstanding.detachIf_bind hk
    simp [Outstanding.detachIf, hb] at hk

theorem releaseSwing (n : SiteId) (w : Nat) : (s.releaseSwing n w).tidy p := by
  unfold State.releaseSwing
  split <;> exact hs

theorem commit (n : SiteId) (w : Nat) : (s.commit n w).tidy p := by
  rw [State.commit_eq]; exact hs

/-- The slot that ends is left by its drive state. -/
theorem endSlot (k : SlotId) : (s.endSlot k).tidy p := by
  have freed {t : State} (ht : t.tidy p) (hk : t.unnamed p k) (n : SiteId) (w : Nat) :
      (((t.releaseSwing n w).setSlot k none).due true).tidy p :=
    setSlot (ht.releaseSwing n w) (by unfold State.releaseSwing; split <;> exact hk) fun _ _ h => by cases h
  unfold State.endSlot
  split
  · exact hs
  · rename_i x hx
    dsimp only
    split <;> rename_i hd
    · exact freed (hs.withdrawRamp _ k) (hs.unnamed_withdrawRamp hx hd) _ _
    · exact freed (hs.detachRamp _ k) (hs.unnamed_detachRamp hx hd) _ _
    · exact freed hs (hs.unnamed_of_drive hx (by rw [hd]; nofun) (by rw [hd]; nofun)) _ _
    · exact freed hs (hs.unnamed_of_drive hx (by rw [hd]; nofun) (by rw [hd]; nofun)) _ _

theorem stopSlot (k : SlotId) : (s.stopSlot k).tidy p := by
  unfold State.stopSlot
  split
  · exact hs
  · rename_i x hx
    split <;> rename_i hd
    · exact (hs.withdrawRamp _ k).redrive (hs.unnamed_withdrawRamp hx hd) hx rfl
    · exact hs.redrive (hs.unnamed_of_drive hx (by rw [hd]; nofun) (by rw [hd]; nofun)) hx rfl
    all_goals exact hs

theorem restartSlot (k : SlotId) : (s.restartSlot k).tidy p := by
  unfold State.restartSlot
  split
  · exact hs
  · rename_i x hx
    split
    · rename_i hd
      exact hs.placeRamp (hs.unnamed_of_drive hx (by rw [hd]; nofun) (by rw [hd]; nofun))
    · exact hs

/-- A slot leaves SENT once its message no longer names it. -/
theorem leaveSent {k : SlotId} (hk : s.unnamed p k) : (s.leaveSent k).tidy p := by
  unfold State.leaveSent
  split
  · exact hs
  · rename_i x hx
    split
    · exact hs.redrive hk hx rfl
    · split
      · exact hs.placeRamp hk
      · exact hs.redrive hk hx rfl

theorem placeLevel (m : SiteId) (h : Handle) (a : Nat) : (s.placeLevel m h a).tidy p := by
  unfold State.placeLevel
  dsimp only
  split
  · refine hs.setLink_within (Link.within.withLevels _ ?_ (List.length_map ..))
    generalize (s.link m).queue = q
    induction q with
    | nil => rfl
    | cons r q ih =>
      cases r with
      | ramp k => exact congrArg (k :: ·) ih
      | level g b =>
        rw [List.map_cons]
        split <;> exact ih
  · split
    · rename_i hc
      have hl := (hs.but m).link m
      refine kick ((hs.but m).setLink ⟨fun hp => ?_, fun hr j hj => ?_, fun hr => ?_, hl.sent, fun _ h => absurd rfl h.2⟩)
      · obtain ⟨-, shutters, timer⟩ := hl.bounded hp
        refine ⟨?_, shutters, timer⟩
        simp only [levelCount_append]
        exact hc
      · obtain hj | hj := List.mem_append.mp hj
        · exact hl.queued hr j hj
        · cases List.mem_singleton.mp hj
      · have same : rampSlots ((s.link m).queue ++ [.level h a]) = rampSlots (s.link m).queue := by
          rw [rampSlots_append]; exact List.append_nil _
        exact same ▸ hl.once hr
    · exact hs

theorem withdrawLevel (m : SiteId) (h : Handle) : (s.withdrawLevel m h).tidy p :=
  hs.setLink_within (Link.within.withQueue _ List.filter_sublist)

theorem detachLevel (m : SiteId) (h : Handle) : (s.detachLevel m h).tidy p :=
  hs.setLink_within (Link.within.detach _ fun o => decide (o.bind = .channel h ∧ o.msg.cls = .level))

theorem dropLevel (m : SiteId) (h : Handle) : (s.dropLevel m h).tidy p := (hs.withdrawLevel m h).detachLevel m h

theorem addShutter {m : SiteId} {e : ShutterEntry} (h : s.addShutter m e = some t) : t.tidy p := by
  unfold State.addShutter at h
  dsimp only at h
  split at h
  · cases h; exact hs
  · split at h
    · rename_i hc
      cases h
      have hl := (hs.but m).link m
      refine kick ((hs.but m).setLink ⟨fun hp => ?_, hl.queued, hl.once, hl.sent, fun _ h => absurd rfl h.2⟩)
      obtain ⟨levels, -, timer⟩ := hl.bounded hp
      refine ⟨levels, ?_, timer⟩
      rw [List.length_append]
      exact hc
    · cases h

theorem unbindShutters (m : SiteId) (h : Handle) : (s.unbindShutters m h).tidy p := by
  have unbound := hs.setLink_within (m := m) (Link.within.withShutters (s.link m)
    (e := (s.link m).shutters.map fun e => if e.handle = h then { e with bound := false } else e) (Nat.le_of_eq (List.length_map ..)))
  have detached := unbound.setLink_within (m := m) (Link.within.detach _ fun o => decide (o.bind = .channel h ∧ o.msg.cls = .shutter))
  rwa [State.link_setLink_self, State.setLink_setLink] at detached

/-! ### Holds (R143), and the removal of transitions (R17, R83) -/

theorem reholdSlot (sites : List SiteId) (k : SlotId) : (s.reholdSlot sites k).tidy p := by
  unfold State.reholdSlot
  split
  · exact hs
  · rename_i x hx
    split
    · dsimp only
      split
      · exact hs
      · have flagged := hs.setSlot_same (y := { x with held := s.isHeld x.handle }) hx rfl rfl fun hp => hs.slotDesc (x := x) hp hx
        split
        · exact flagged.stopSlot k
        · exact flagged.restartSlot k
    · exact hs

theorem rehold (sites : List SiteId) : (s.rehold sites).tidy p := foldl (fun k h => h.reholdSlot sites k) _ hs

theorem removeEntry (h : Handle) : (s.removeEntry h).tidy p := by
  unfold State.removeEntry
  split
  · exact hs
  · exact (hs.withWaits fun hp e he => hs.waitDesc hp (List.mem_of_mem_filter he)).due _

theorem dropTransition (h : Handle) : (s.dropTransition h).tidy p := by
  unfold State.dropTransition
  refine State.tidy.setChan_same ?_ (.inr rfl)
  split
  · exact hs
  · exact hs.removeEntry h
  · exact hs.endSlot _

theorem handOverEntry (h : Handle) (doomed : List Handle) (r : EntryRef) : (s.handOverEntry h doomed r).tidy p := by
  unfold State.handOverEntry
  dsimp only
  split
  · split
    · exact (hs.setEntry r _).due _
    · exact hs.setEntry r _
  · exact hs

theorem dropClaim (h : Handle) (r : EntryRef) : (s.dropClaim h r).tidy p := by
  unfold State.dropClaim
  dsimp only
  split
  · exact hs.setEntry r _
  · exact hs

theorem reserve (h : Handle) (fp : List EntryRef) : (s.reserve h fp).tidy p := by
  rw [reserve_only]; exact hs

theorem toFree (h : Handle) (doomed : List Handle) : (s.toFree h doomed).tidy p := by
  unfold State.toFree
  have released := foldl (f := State.handOverEntry h doomed) (fun r ht => ht.handOverEntry h doomed r)
    ((s.dropTransition h).chan h).footprint (hs.dropTransition h)
  have unclaimed := foldl (f := State.dropClaim h) (fun r ht => ht.dropClaim h r) ((s.dropTransition h).chan h).footprint released
  exact ((unclaimed.dropLevel _ h).unbindShutters _ h).setChan_same (.inr rfl)

end State.tidy

end Sys2Proof.Machine
end


section
/-!
SUPPORT. The bounds of the tables and the places of the postings (O7, O14), third part: admissions and offers, the Condition Unit, the
Level Loop, the Site Store and the end of an event.
-/

namespace Sys2Proof.Machine

open Sys2Proof

/-! ### The postings of an outcome (R54, R56) -/

theorem validDesc_none : validDesc none := nofun

theorem validDesc_some {off : Half} (h : validPoolOffset off.toNat = true) : validDesc (some off) := fun o ho => by cases ho; exact h

/-- w6 and w7 of a descriptor place are words of the pool (R54). -/
theorem poolWord_of_desc {off : Half} (h : validPoolOffset off.toNat = true) : poolWord (statusAddr off) ∧ poolWord (stampAddr off) := by
  obtain ⟨aligned, low, high⟩ := (validPoolOffset_iff _).mp h
  have status : (statusAddr off).toNat = off.toNat + 24 := by
    show (off + 24#16).toNat = _
    rw [BitVec.toNat_add, BitVec.toNat_ofNat]
    omega
  have stamp : (stampAddr off).toNat = off.toNat + 28 := by
    show (off + 28#16).toNat = _
    rw [BitVec.toNat_add, BitVec.toNat_ofNat]
    omega
  unfold poolWord
  rw [status, stamp]
  omega

section
variable (s : State) {off : Half} (h : validPoolOffset off.toNat = true)
include h

theorem outcomePosts_placed (o : Outc) (c : Bool) (r : Byte) (g : Handle) : ∀ i ∈ s.outcomePosts off o c r g, i.placed := by
  obtain ⟨status, stamp⟩ := poolWord_of_desc h
  exact List.forall_mem_cons.mpr ⟨stamp, List.forall_mem_cons.mpr ⟨status, nofun⟩⟩

/-- The postings of an outcome with its record. -/
theorem outcome_placed (o : Outc) (c : Bool) (r : Byte) (g : Handle) (rec : Record) :
    ∀ i ∈ s.outcomePosts off o c r g ++ [.record rec], i.placed :=
  List.forall_mem_append.mpr ⟨outcomePosts_placed s h o c r g, fun i hi => by cases List.mem_singleton.mp hi; trivial⟩

end

theorem State.raiseSkips_desc (s : State) (dest : SiteId) {l : List WaitEntry} (hl : ∀ e ∈ l, validDesc e.desc) :
    ∀ e ∈ s.raiseSkips dest l, validDesc e.desc := by
  intro e he
  obtain ⟨x, hx, rfl⟩ := List.mem_map.mp he
  split
  · exact hl x hx
  · exact hl x hx

namespace State.tidy

variable {p : Assumed} {s t : State} (hs : s.tidy p)
include hs

/-- The transition a channel has is of a descriptor place. -/
theorem transDesc (hp : p.placed) {h : Handle} {k : TransKind} {d : Option Half} (ht : s.transOf h = some (k, d)) : validDesc d := by
  unfold State.transOf at ht
  split at ht
  · cases ht
  · obtain ⟨e, he, hd⟩ := Option.map_eq_some_iff.mp ht
    cases hd
    exact hs.waitDesc hp (List.mem_of_find?_eq_some he)
  · obtain ⟨x, hx, hd⟩ := Option.map_eq_some_iff.mp ht
    cases hd
    exact hs.slotDesc hp hx

theorem cancelItems_placed (hp : p.placed) (h : Handle) : ∀ i ∈ s.cancelItems h, i.placed := by
  unfold State.cancelItems
  dsimp only
  split
  · rename_i ht
    exact outcome_placed s (hs.transDesc hp ht _ rfl) _ _ _ _ _
  · exact nofun

/-! ### Admissions and offers (R88 to R92) -/

theorem admitEntry {e : WaitEntry} (he : p.placed → validDesc e.desc) : (s.admitEntry e).tidy p := by
  cases hk : s.freeSlot with
  | none => unfold State.admitEntry; rw [hk]; exact hs
  | some k =>
    obtain ⟨w, m, u, o, h⟩ := State.admitEntry_eq (e := e) hk
    rw [h]
    have free : (s.commit e.dest w).slot k = none := by rw [State.commit_eq]; exact State.slot_of_freeSlot hk
    have desc : ((s.commit e.dest w).chan e.handle).desc = (s.chan e.handle).desc := by rw [State.commit_eq]; rfl
    have committed := hs.commit e.dest w
    generalize s.commit e.dest w = v at free desc committed ⊢
    have entered : (v.setSlot k (some (e.toSlot w))).tidy p :=
      committed.setSlot (committed.unnamed_of_none free) fun hp y hy => by cases hy; exact he hp
    have recorded := (entered.setChan_same (h := e.handle) (c := (s.chan e.handle).inSlot e k m u o) (.inl desc.symm)).dropLevel
      e.dest e.handle
    exact recorded.placeRamp (recorded.unnamed_of_drive (State.slot_setSlot_self v k _) nofun nofun)

theorem completeAdjust (e : WaitEntry) : (s.completeAdjust e).tidy p := hs.setChan_same (.inr rfl)

theorem adjustDone {e : WaitEntry} (he : p.placed → validDesc e.desc) : (s.adjustDone e).tidy p := by
  unfold State.adjustDone
  split
  · exact hs
  · rename_i d hd
    exact hs.handOver fun hp => outcome_placed s (he hp d hd) _ _ _ _ _

theorem admitWaiting {e : WaitEntry} (he : p.placed → validDesc e.desc) : (s.admitWaiting e).tidy p := by
  unfold State.admitWaiting
  split
  · exact (hs.adjustDone he).completeAdjust e
  · exact hs.admitEntry he

omit hs in
theorem passFrom {older l : List WaitEntry} {s : State} (hs : s.tidy p) (ho : p.placed → ∀ e ∈ older, validDesc e.desc)
    (hl : p.placed → ∀ e ∈ l, validDesc e.desc) : (s.passFrom older l).tidy p := by
  induction l generalizing s older with
  | nil => exact hs.withWaits ho
  | cons e l ih =>
    have he (hp : p.placed) : validDesc e.desc := hl hp e List.mem_cons_self
    have hl' (hp : p.placed) : ∀ x ∈ l, validDesc x.desc := fun x hx => hl hp x (List.mem_cons_of_mem e hx)
    unfold State.passFrom
    dsimp only
    split
    · exact ih (hs.admitWaiting he) (fun hp => State.raiseSkips_desc _ _ (ho hp)) hl'
    · exact ih hs (fun hp => List.forall_mem_append.mpr ⟨ho hp, by simpa using he hp⟩) hl'

theorem runPass : s.runPass.tidy p := by
  unfold State.runPass
  split
  · exact passFrom (s := { s with passDue := false }) hs (fun _ => nofun) fun hp _ he => hs.waitDesc hp he
  · exact hs

theorem append {e : WaitEntry} (he : p.placed → validDesc e.desc) : (s.append e).tidy p := by
  have waits : (s.withWaits (s.waitList ++ [e])).tidy p :=
    hs.withWaits fun hp => List.forall_mem_append.mpr ⟨fun _ => hs.waitDesc hp, by simpa using he hp⟩
  exact due (waits.setChan_same (c := { s.chan e.handle with pending := some .waiting }) (.inl rfl)) true

theorem offer {e : WaitEntry} (h : (s.offer e).state? = some t) (he : p.placed → validDesc e.desc) : t.tidy p := by
  have skipped {u : State} (hu : u.tidy p) : (u.withWaits (u.raiseSkips e.dest u.waitList)).tidy p :=
    hu.withWaits fun hp => State.raiseSkips_desc _ _ fun _ => hu.waitDesc hp
  unfold State.offer at h
  split at h
  · split at h
    · cases h
      exact (hs.completeAdjust e).withWaits fun hp => State.raiseSkips_desc _ _ fun _ => hs.waitDesc hp
    · cases h; exact skipped (hs.admitEntry he)
  · split at h
    · cases h; exact hs.append he
    · cases h

theorem placeAdopt {k : SlotId} (hk : s.unnamed p k) (h : Handle) {off : Half} (ho : p.placed → validPoolOffset off.toNat = true) :
    (s.placeAdopt k h off).tidy p := by
  unfold State.placeAdopt
  dsimp only
  have entered {x : Slot} (hx : x.desc = some off) : ((s.setSlot k (some x)).dropLevel (s.chan h).dstSite h).tidy p :=
    (hs.setSlot hk fun hp y hy => by cases hy; exact hx ▸ validDesc_some (ho hp)).dropLevel _ h
  split
  · exact entered rfl
  · exact (entered rfl).placeRamp ((entered rfl).unnamed_of_drive (State.slot_setSlot_self _ k _) nofun nofun)

theorem takeOver (k : SlotId) (h : Handle) {off : Half} (ho : p.placed → validPoolOffset off.toNat = true) :
    (s.takeOver k h off).tidy p := by
  unfold State.takeOver
  split
  · exact hs
  · rename_i x hx
    have slot (w v : Nat) : ((s.releaseSwing x.dest w).commit x.dest v).slot k = some x := by
      rw [State.commit_eq]
      unfold State.releaseSwing
      split <;> exact hx
    have desc (hp : p.placed) : validDesc (some off) := validDesc_some (ho hp)
    have taken {y : Slot} {c : Channel} (w v : Nat) (dest : y.dest = x.dest) (drive : y.drive = x.drive) (hy : y.desc = some off)
        (hc : c.desc = some off) : ((((s.releaseSwing x.dest w).commit x.dest v).setSlot k (some y)).setChan h c).tidy p :=
      (((hs.releaseSwing _ _).commit _ _).setSlot_same (slot w v) dest drive (hy ▸ desc)).setChan (hc ▸ desc)
    dsimp only
    split
    · rename_i hd
      refine placeRamp ?_ (unnamed_of_drive ?_ (State.slot_setSlot_self _ k _) (by rw [hd]; nofun) (by rw [hd]; nofun))
      all_goals exact taken _ _ rfl rfl rfl rfl
    all_goals exact taken _ _ rfl rfl rfl rfl

end State.tidy

end Sys2Proof.Machine
end


section
/-!
SUPPORT. The bounds of the tables and the places of the postings (O7, O14), fourth part: the Condition Unit, the Level Loop, the Site Store
and the end of an event.
-/

namespace Sys2Proof.Machine

open Sys2Proof

/-- The postings of a final outcome and the record that follows them. -/
theorem finalPosts_placed (s : State) {d : Option Half} (hd : validDesc d) (o : Outc) (c : Bool) (h : Handle) (r : Record) :
    ∀ i ∈ s.finalPosts d o c h ++ [.record r], i.placed := by
  cases d with
  | none => exact fun i hi => by cases List.mem_singleton.mp hi; trivial
  | some a => exact outcome_placed s (hd a rfl) _ _ _ _ _

namespace State.tidy

variable {p : Assumed} {s t : State} (hs : s.tidy p)
include hs

/-! ### The Condition Unit (R118, R140, R146, R149) -/

theorem riseBase (n : SiteId) (c : Cond) (l : Level) : (s.riseBase n c l).tidy p := ((hs.setCond n _).handOver_record _).rehold _

theorem fallBase (n : SiteId) (c : Cond) (l : Level) : (s.fallBase n c l).tidy p :=
  (((hs.setCond n _).handOver_record _).rehold _).due _

theorem raiseModFault (n : SiteId) : (s.raiseModFault n).tidy p := by
  unfold State.raiseModFault
  split
  · exact hs.riseBase n _ _
  · exact hs

theorem clearModFault (n : SiteId) : (s.clearModFault n).tidy p := by
  unfold State.clearModFault
  split
  · exact hs.fallBase n _ _
  · exact hs

theorem placeShutter (h : Handle) (b : Bool) : (s.placeShutter h b).tidy p := by
  unfold State.placeShutter
  dsimp only
  split
  · rename_i ht
    have hu := hs.addShutter ht
    split
    · exact hu.setChan_same (.inl rfl)
    · exact hu
  · refine raiseModFault (setChan_same hs ?_) _
    exact .inl rfl

theorem darken (site : SiteId) (h : Handle) (b : Bool) : (s.darken site h b).tidy p := by
  have dropped := (hs.dropTransition h).dropLevel (s.chan h).dstSite h
  unfold State.darken
  dsimp only
  generalize ((s.dropTransition h).dropLevel (s.chan h).dstSite h) = u at dropped ⊢
  have dark : (u.setChan h { u.chan h with state := .dark, shutteredBy := some site }).tidy p := dropped.setChan_same (.inl rfl)
  refine State.tidy.handOver ?_ fun hp => finalPosts_placed s (hs.chanDesc hp h) _ _ _ _
  split
  · exact dark.placeShutter h true
  · exact dark

theorem endFall (h : Handle) : (s.endFall h).tidy p := by
  unfold State.endFall
  refine handOver (toFree (placeShutter (dropLevel (hs.dropTransition h) _ h) h false) h []) fun hp => ?_
  split
  · exact nofun
  · rename_i d hd
    exact outcome_placed s (hs.chanDesc hp h d hd) _ _ _ _ _

theorem shutterOne (site : SiteId) (h : Handle) : (s.shutterOne site h).tidy p := by
  unfold State.shutterOne
  dsimp only
  split
  · exact hs
  · split
    · exact hs
    · split
      · exact hs.darken site h _
      · exact hs
    · exact hs.darken site h _
    · exact hs.darken site h _
    · split
      · exact hs.endFall h
      · exact hs.darken site h _
    · exact hs.endFall h

theorem restoreOne (site : SiteId) (h : Handle) : (s.restoreOne site h).tidy p := by
  unfold State.restoreOne
  dsimp only
  split
  · split
    · exact hs.append fun _ => validDesc_none
    · exact hs
  · exact hs

theorem restoreAll (site : SiteId) : (s.restoreAll site).tidy p :=
  foldl (fun h ht => ht.restoreOne site h) _ (hs.setCond site _)

theorem expireHoldOff (site : SiteId) : (s.expireHoldOff site).tidy p := (hs.setCond site _).restoreAll site

theorem rerunDeferred : s.rerunDeferred.tidy p :=
  foldl (fun n ht => by
    unfold State.rerunOne
    split
    · exact ht.restoreAll n
    · exact ht) _ hs

theorem startHoldOff (n : SiteId) : (s.startHoldOff n).tidy p := by
  unfold State.startHoldOff
  dsimp only
  split
  · exact hs.expireHoldOff n
  · exact hs

theorem judgeInLos (n : SiteId) (l : Level) : (s.judgeInLos n l).tidy p := by
  unfold State.judgeInLos
  dsimp only
  split
  · split
    · exact (hs.fallBase n _ l).startHoldOff n
    · exact hs
  · split
    · split
      · exact foldl (fun h ht => ht.shutterOne n h) _ (hs.riseBase n _ l)
      · exact hs.riseBase n _ l
    · exact hs

theorem judgeInHigh (n : SiteId) (l : Level) : (s.judgeInHigh n l).tidy p := by
  rw [judgeInHigh_eq]
  split
  · split
    · exact hs.fallBase n _ l
    · exact hs
  · split
    · exact hs.riseBase n _ l
    · exact hs

theorem judgeIngress (n : SiteId) : (s.judgeIngress n).tidy p := (hs.judgeInLos n _).judgeInHigh n _

theorem judgeMonStale (n : SiteId) : (s.judgeMonStale n).tidy p := by
  unfold State.judgeMonStale
  dsimp only
  split
  · split
    · exact hs
    · exact hs.fallBase n _ _
  · split
    · exact hs.riseBase n _ _
    · exact hs

/-! ### The Level Loop (R125 to R130) -/

theorem correctOne (n : SiteId) (h : Handle) : (s.correctOne n h).tidy p := by
  unfold State.correctOne
  dsimp only
  split
  · split
    · exact hs.setChan_same (.inl rfl)
    · exact hs.setChan_same (.inl rfl)
    · split
      · refine withdrawLevel (setChan_same hs ?_) n h
        exact .inl rfl
      · refine placeLevel (setChan_same hs ?_) n h _
        exact .inl rfl
  · exact hs

theorem levelLoop (n : SiteId) : (s.levelLoop n).tidy p := by
  unfold State.levelLoop
  split
  · exact foldl (fun h ht => ht.correctOne n h) _ hs
  · exact hs

/-! ### The Site Store (R156 to R163) -/

/-- The fetch queue alone is written, each site in it once. -/
theorem setFetch {f : SetupFetch} (hf : s.setup.queue.Nodup → f.queue.Nodup) : ({ s with setup := f } : State).tidy p := by
  refine ⟨hs.queue, fun hb => ?_, hs.path, hs.descs, hs.link⟩
  obtain ⟨heads, fairness, flight, queue⟩ := hs.bounds hb
  exact ⟨heads, fairness, flight, hf queue⟩

theorem requestSetup : s.requestSetup.tidy p := by
  unfold State.requestSetup
  split <;> exact hs

theorem joinFetch (n : SiteId) : (s.joinFetch n).tidy p := by
  unfold State.joinFetch
  refine State.tidy.requestSetup ?_
  split
  · exact hs
  · rename_i hn
    refine hs.setFetch fun h => List.nodup_append.mpr ⟨h, List.nodup_singleton n, fun a ha b hb hab => ?_⟩
    cases List.mem_singleton.mp hb
    exact hn (List.contains_iff_mem.mpr (hab ▸ ha))

theorem settleFairness : s.settleFairness.tidy p := by
  unfold State.settleFairness
  split
  · exact hs
  · refine ⟨hs.queue, fun hb => ?_, hs.path, hs.descs, hs.link⟩
    obtain ⟨heads, -, flight, queue⟩ := hs.bounds hb
    exact ⟨heads, Nat.zero_le 8, flight, queue⟩

theorem abandonFetch (n : SiteId) : (s.abandonFetch n).tidy p := by
  have left : ({ s with setup := { s.setup with queue := s.setup.queue.erase n } } : State).tidy p := hs.setFetch fun h => h.erase n
  unfold State.abandonFetch
  split
  · exact hs
  · split
    · refine settleFairness (requestSetup ?_)
      exact left
    · exact left

theorem swap (n : SiteId) : (s.swap n).tidy p := by
  unfold State.swap
  dsimp only
  split
  · exact hs
  · exact (((hs.setSite n _).handOver_record _).rehold _).due true

theorem finish (before : State) : (State.finish before s).tidy p :=
  (foldl (fun n ht => by
    unfold State.swapIfQuiet
    split
    · exact ht.swap n
    · exact ht) _ hs).runPass

theorem enabled (n : SiteId) (q : Params) (mask : Half) : (s.enabled n q mask).tidy p :=
  ((((hs.setSite n _).setTap _ _).setTap _ _).handOver_record _).judgeIngress n

theorem reloaded (n : SiteId) (q : Params) (mask : Half) : (s.reloaded n q mask).tidy p := by
  unfold State.reloaded
  dsimp only
  split
  · exact (hs.setSite n _).joinFetch n
  · split
    · exact (hs.setSite n _).swap n
    · exact hs.setSite n _

theorem deliver (b : SetupBurst) : (s.deliver b).tidy p := by
  unfold State.deliver
  dsimp only
  split
  · split
    · exact hs.joinFetch _
    · exact hs
  · split
    · exact hs.enabled _ _ _
    · exact hs.reloaded _ _ _
    · exact hs

theorem setupDone : s.setupDone.tidy p := by
  unfold State.setupDone
  split
  · split
    · exact hs
    · rename_i b _ _ _
      dsimp only
      refine State.tidy.finish (requestSetup (deliver (setFetch (s := s.endGrant) ?_ fun h => h.erase b.site) b)) s
      exact hs
  · exact hs

theorem siteDown (n : SiteId) : (s.siteDown n).tidy p :=
  ((((State.tidy.abandonFetch (hs.setCond n _) n).setSite n _).setTap _ _).setTap _ _).handOver_record _

theorem cancelOne (h : Handle) : (s.cancelOne h).tidy p := (hs.dropTransition h).handOver fun hp => hs.cancelItems_placed hp h

theorem tearDown (n : SiteId) : (s.tearDown n).tidy p := by
  unfold State.tearDown
  have cancelled := foldl (f := State.cancelOne) (fun h ht => ht.cancelOne h) (s.concerned n) hs
  have dropped := foldl (f := State.dropLevelOf) (fun h ht => ht.dropLevel _ h) (s.concerned n) cancelled
  have dark := foldl (f := State.shutterDown ((s.concerned n).filter s.rampSent)) (fun h ht => by
    unfold State.shutterDown
    split
    · exact ht.placeShutter h false
    · exact ht) (s.concerned n) dropped
  exact foldl (f := State.freeDown (s.concerned n)) (fun h ht => ht.toFree h _) (s.concerned n) dark

theorem disableSite (n : SiteId) : (s.disableSite n).tidy p := by
  unfold State.disableSite
  split
  · exact hs
  · exact hs.siteDown n
  · exact ((hs.tearDown n).siteDown n).finish s

theorem reloadSite (n : SiteId) : (s.reloadSite n).tidy p := by
  unfold State.reloadSite
  dsimp only
  split
  · exact (hs.setSite n _).joinFetch n
  · split
    · exact hs.setSite n _
    · exact hs
  · exact (hs.setSite n _).joinFetch n

end State.tidy

end Sys2Proof.Machine
end


section
/-!
SUPPORT. The bounds of the tables and the places of the postings (O7, O14), fifth part: the Posting Queue and its two producers, the walks,
and the decisions.
-/

namespace Sys2Proof.Machine

open Sys2Proof

/-- A record posting lies at a slot of the ring (R183). -/
theorem ringPosting_placed (n : Half) (r : Record) : (ringPosting n r).placed := by
  have h := ringPosting_addr_toNat n r
  show (BitVec.ofNat 16 (0x8000 + 16 * (n.toNat % 256))).toNat % 16 = 0 ∧ _
  change (BitVec.ofNat 16 (0x8000 + 16 * (n.toNat % 256))).toNat = _ at h
  rw [h]
  omega

/-- A chain that goes on goes to a descriptor place (R69). -/
theorem Walker.next_valid {w : Walker} {d : Desc} (h : w.endTest d = none) : validPoolOffset d.next.toNat = true := by
  unfold Walker.endTest at h
  split at h
  · cases h
  · split at h
    · cases h
    · split at h
      · cases h
      · rename_i hbad
        simpa using hbad

/-- A decision that leaves what is assumed, and requires postings of the pool. -/
def Decision.tidy (p : Assumed) (r : Decision) : Prop := r.1.tidy p ∧ (p.placed → ∀ i ∈ r.2, i.placed)

namespace State.tidy

variable {p : Assumed} {s t : State} (hs : s.tidy p)
include hs

/-! ### The Posting Queue (R172, R173, R183) -/

theorem join {e : Posting} {q : List Posting} (h : joinQueue s.queue e = some q) (he : p.placed → e.placed) :
    ({ s with queue := q } : State).tidy p := by
  refine ⟨fun hq => joinQueue_keeps h (hs.queue hq), hs.bounds, fun hp => ?_, hs.descs, hs.link⟩
  obtain ⟨flight, queue, rest⟩ := hs.path hp
  refine ⟨flight, ?_, rest⟩
  rcases joinQueue_cases h with ⟨-, rfl⟩ | ⟨-, -, rfl⟩
  · refine List.forall_mem_map.mpr fun x hx => ?_
    split
    · exact he hp
    · exact queue x hx
  · exact List.forall_mem_append.mpr ⟨queue, by simpa using he hp⟩

omit hs in
theorem writeRecords {l : List Record} {s : State} (hs : s.tidy p) (h : s.writeRecords l = some t) : t.tidy p := by
  induction l generalizing s with
  | nil => cases h; exact hs
  | cons r l ih =>
    unfold State.writeRecords at h
    split at h
    · cases h
    · rename_i q hq
      refine ih ?_ h
      exact hs.join hq fun _ => ringPosting_placed _ r

theorem placeItem {i : Item} (hi : p.placed → i.placed) (h : s.placeItem i = some t) : t.tidy p := by
  unfold State.placeItem at h
  split at h
  · obtain ⟨q, hq, rfl⟩ := Option.map_eq_some_iff.mp h
    exact hs.join hq hi
  · unfold State.placeRecord at h
    split at h
    · cases h; exact hs
    · split at h
      · exact hs.writeRecords h
      · split at h
        · exact writeRecords (s := { s with journal := { s.journal with lost := 0 } }) hs h
        · exact writeRecords (s := { s with journal := { s.journal with lost := 0 } }) hs h

theorem placeHandOver : s.placeHandOver.tidy p := by
  rcases placeHandOver_cases s with h | ⟨i, rest, t, hand, ht, -, h⟩
  · rw [h]; exact hs
  · rw [h]
    have placed (hp : p.placed) : ∀ j ∈ i :: rest, j.placed := by
      obtain ⟨-, -, items, -⟩ := hs.path hp
      rwa [hand] at items
    have hu := hs.placeItem (fun hp => placed hp i List.mem_cons_self) ht
    refine ⟨hu.queue, hu.bounds, fun hp => ?_, hu.descs, hu.link⟩
    obtain ⟨flight, queue, -, others⟩ := hu.path hp
    exact ⟨flight, queue, fun j hj => placed hp j (List.mem_cons_of_mem i hj), others⟩

theorem enterDeciding : s.enterDeciding.tidy p :=
  writerPlaces_induct (P := fun t => t.tidy p) (fun _ ht => ht.placeHandOver) hs

/-! ### Walks (R61, R66 to R70) -/

/-- The walker is written, with postings of the pool and heads and a descriptor that are descriptor places. -/
theorem setWalker {w : Walker} (heads : p.bounds → w.heads.length ≤ 4) (toPlace : p.placed → ∀ i ∈ w.toPlace, i.placed)
    (current : p.placed → validDesc w.current) (valid : p.placed → ∀ o ∈ w.heads, validPoolOffset o.toNat = true) :
    ({ s with walker := w } : State).tidy p := by
  refine ⟨hs.queue, fun hb => ?_, fun hp => ?_, hs.descs, hs.link⟩
  · obtain ⟨-, rest⟩ := hs.bounds hb
    exact ⟨heads hb, rest⟩
  · obtain ⟨flight, queue, hand, -⟩ := hs.path hp
    exact ⟨flight, queue, hand, toPlace hp, current hp, valid hp⟩

theorem headsLength (hb : p.bounds) : s.walker.heads.length ≤ 4 := (hs.bounds hb).1

theorem toPlacePlaced (hp : p.placed) : ∀ i ∈ s.walker.toPlace, i.placed := by
  obtain ⟨-, -, -, toPlace, -, -⟩ := hs.path hp
  exact toPlace

theorem currentDesc (hp : p.placed) : validDesc s.walker.current := by
  obtain ⟨-, -, -, -, current, -⟩ := hs.path hp
  exact current

theorem headsValid (hp : p.placed) : ∀ o ∈ s.walker.heads, validPoolOffset o.toNat = true := by
  obtain ⟨-, -, -, -, -, heads⟩ := hs.path hp
  exact heads

/-- The walker's items are written. -/
theorem setToPlace {l : List Item} (hl : p.placed → ∀ i ∈ l, i.placed) :
    ({ s with walker := { s.walker with toPlace := l } } : State).tidy p :=
  hs.setWalker hs.headsLength hl hs.currentDesc hs.headsValid

theorem startWalk {head : Half} {heads : List Half} (hh : p.placed → validPoolOffset head.toNat = true)
    (length : p.bounds → heads.length ≤ 4) (valid : p.placed → ∀ o ∈ heads, validPoolOffset o.toNat = true) :
    (s.startWalk head heads).tidy p :=
  hs.setWalker (w := { state := .fetching, current := some head, examined := 0, halt := false, heads, fetched := none, toPlace := [],
                       ending := false })
    length (fun _ => nofun) (fun hp => validDesc_some (hh hp)) valid

omit hs in
theorem placeItems {l : List Item} {s : State} (hs : s.tidy p) (hl : p.placed → ∀ i ∈ l, i.placed) :
    (s.placeItems l).1.tidy p ∧ (p.placed → ∀ i ∈ (s.placeItems l).2, i.placed) := by
  induction l generalizing s with
  | nil => exact ⟨hs, hl⟩
  | cons i l ih =>
    unfold State.placeItems
    split
    · exact ⟨hs, hl⟩
    · rename_i t ht
      exact ih (hs.placeItem (fun hp => hl hp i List.mem_cons_self) ht) fun hp j hj => hl hp j (List.mem_cons_of_mem i hj)

theorem walkerPlaces : s.walkerPlaces.tidy p := by
  obtain ⟨placed, left⟩ := hs.placeItems hs.toPlacePlaced
  exact placed.setToPlace left

theorem finishWalk : s.finishWalk.tidy p := by
  unfold State.finishWalk
  dsimp only
  split
  · rename_i head rest hh
    refine State.tidy.startWalk (s := { s with attn := { s.attn with chainEnd := true } }) ?_ (fun hp => ?_) (fun hb => ?_) fun hp => ?_
    · exact hs
    · exact hs.headsValid hp head (hh ▸ List.mem_cons_self)
    · have length := hs.headsLength hb
      rw [hh, List.length_cons] at length
      omega
    · exact fun o ho => hs.headsValid hp o (hh ▸ List.mem_cons_of_mem head ho)
  · exact hs.setWalker
      (w := { s.walker with state := .idle, current := none, halt := false, fetched := none, toPlace := [], ending := false })
      hs.headsLength (fun _ => nofun) (fun _ => validDesc_none) hs.headsValid

theorem followChain : s.followChain.tidy p := by
  unfold State.followChain
  split
  · exact hs
  · rename_i f _
    dsimp only
    split
    · rename_i goesOn
      refine hs.setWalker (w := { s.walker with state := .fetching, current := some (decodeDesc f).next, fetched := none })
        hs.headsLength hs.toPlacePlaced (fun _ => validDesc_some ?_) hs.headsValid
      exact Walker.next_valid goesOn
    · exact hs.setWalker (w := { s.walker with
          ending := true, toPlace := [.record (chainEndRecord s.tick s.walker (decodeDesc f) _)] })
        hs.headsLength (fun _ i hi => by cases List.mem_singleton.mp hi; trivial) hs.currentDesc
        hs.headsValid

theorem endWalk : s.endWalk.tidy p := by
  unfold State.endWalk
  dsimp only
  split
  · exact hs.walkerPlaces.finishWalk
  · exact hs.walkerPlaces

theorem walkerRun : s.walkerRun.tidy p := by
  unfold State.walkerRun
  dsimp only
  split
  · exact hs.walkerPlaces
  · split
    · exact hs.walkerPlaces.finishWalk
    · split
      · exact hs.walkerPlaces.followChain.endWalk
      · exact hs.walkerPlaces.followChain

/-! ### Decisions (R71 to R76) -/

theorem enterFlight {off : Half} (ho : p.placed → validPoolOffset off.toNat = true) : (s.enterFlight off).tidy p := by
  unfold State.enterFlight
  split
  · exact hs
  · rename_i hn
    refine ⟨hs.queue, fun hb => ?_, fun hp => ?_, hs.descs, hs.link⟩
    · obtain ⟨heads, fairness, flight, fetch⟩ := hs.bounds hb
      refine ⟨heads, fairness, List.nodup_append.mpr ⟨flight, List.nodup_singleton off, fun a ha b hb hab => ?_⟩, fetch⟩
      cases List.mem_singleton.mp hb
      exact hn (List.contains_iff_mem.mpr (hab ▸ ha))
    · obtain ⟨flight, rest⟩ := hs.path hp
      exact ⟨List.forall_mem_append.mpr ⟨flight, by simpa using ho hp⟩, rest⟩

section
variable {off : Half} (ho : p.placed → validPoolOffset off.toNat = true) (d : Desc)
include ho

theorem refuse (r : Reason) : (s.refuse off d r).tidy p := ⟨hs, fun hp => outcome_placed s (ho hp) _ _ _ _ _⟩

omit hs in
/-- A descriptor taken or waiting enters flight, with the two postings of its outcome. -/
theorem enters (ht : t.tidy p) (u : State) {o : Outc} {c : Bool} {r : Byte} {h : Handle} :
    Decision.tidy p (t.enterFlight off, u.outcomePosts off o c r h) :=
  ⟨ht.enterFlight ho, fun hp => outcomePosts_placed u (ho hp) _ _ _ _⟩

theorem decideSetup : (s.decideSetup off d).tidy p := by
  have desc (hp : p.placed) : validDesc (some off) := validDesc_some (ho hp)
  unfold State.decideSetup
  split
  · exact hs.refuse ho d _
  · rename_i a b k _
    dsimp only
    split
    · exact hs.refuse ho d _
    · have filled := (hs.reserve d.handle (s.filled d off a b k).footprint).setChan (h := d.handle) (c := s.filled d off a b k) desc
      split <;> rename_i heq
      · exact enters ho (filled.offer (congrArg Offer.state? heq) desc) s
      · exact enters ho (filled.offer (congrArg Offer.state? heq) desc) s
      · exact enters ho (filled.offer (congrArg Offer.state? heq) desc) s
      · exact hs.refuse ho d _

theorem decideAdopt : (s.decideAdopt off d).tidy p := by
  unfold State.decideAdopt
  split
  · exact hs.refuse ho d _
  · rename_i a b k _
    dsimp only
    split
    · exact hs.refuse ho d _
    · split
      · exact hs.refuse ho d _
      · rename_i slot hslot
        have reserved := hs.reserve d.handle (s.filled d off a b k).footprint
        have free : (s.reserve d.handle (s.filled d off a b k).footprint).slot slot = none := by
          rw [reserve_only]; exact State.slot_of_freeSlot hslot
        refine enters ho (placeAdopt (reserved.setChan ?_) (reserved.unnamed_of_none free) d.handle ho) s
        exact fun hp => validDesc_some (ho hp)

theorem decideRetarget : (s.decideRetarget off d).tidy p := by
  have desc (hp : p.placed) : validDesc (some off) := validDesc_some (ho hp)
  unfold State.decideRetarget
  dsimp only
  split
  case h_6 =>
    split
    · exact hs.refuse ho d _
    · split
      · exact hs.refuse ho d _
      · have aimed (target : Int) (clamped : Bool) :
            (s.setChan d.handle { s.chan d.handle with target, clamped, desc := some off }).tidy p := hs.setChan desc
        split <;> rename_i heq
        · exact enters ho ((aimed _ _).offer (congrArg Offer.state? heq) desc) s
        · exact ⟨(aimed _ _).offer (congrArg Offer.state? heq) desc, fun hp => outcome_placed s (ho hp) _ _ _ _ _⟩
        · exact enters ho ((aimed _ _).offer (congrArg Offer.state? heq) desc) s
        · exact hs.refuse ho d _
  all_goals exact hs.refuse ho d _

theorem offerFall {u : State} (hu : u.tidy p) {items : List Item} (hi : p.placed → ∀ i ∈ items, i.placed) :
    (s.offerFall u off d items).tidy p := by
  have desc (hp : p.placed) : validDesc (some off) := validDesc_some (ho hp)
  have offered : (u.setChan d.handle { u.chan d.handle with desc := some off }).tidy p := hu.setChan desc
  have posts (hp : p.placed) (o : Outc) : ∀ i ∈ items ++ s.outcomePosts off o false 0 d.handle, i.placed :=
    List.forall_mem_append.mpr ⟨hi hp, outcomePosts_placed s (ho hp) _ _ _ _⟩
  unfold State.offerFall
  dsimp only
  split <;> rename_i heq
  · exact ⟨(offered.offer (congrArg Offer.state? heq) desc).enterFlight ho, fun hp => posts hp _⟩
  · exact ⟨(offered.offer (congrArg Offer.state? heq) desc).enterFlight ho, fun hp => posts hp _⟩
  · exact ⟨(offered.offer (congrArg Offer.state? heq) desc).enterFlight ho, fun hp => posts hp _⟩
  · exact hs.refuse ho d _

theorem decideRelease : (s.decideRelease off d).tidy p := by
  have cancelled (hp : p.placed) := hs.cancelItems_placed hp d.handle
  unfold State.decideRelease
  dsimp only
  split
  · exact hs.refuse ho d _
  · exact hs.refuse ho d _
  · exact ⟨hs.toFree d.handle [], fun hp => List.forall_mem_append.mpr ⟨cancelled hp, outcome_placed s (ho hp) _ _ _ _ _⟩⟩
  · split
    · exact hs.refuse ho d _
    · exact hs.offerFall ho d (hs.dropTransition d.handle) cancelled
  all_goals
    split
    · exact ⟨(hs.takeOver _ d.handle ho).enterFlight ho,
        fun hp => List.forall_mem_append.mpr ⟨cancelled hp, outcomePosts_placed s (ho hp) _ _ _ _⟩⟩
    all_goals exact hs.refuse ho d _

theorem decideMark : (s.decideMark off d).tidy p := ⟨hs, fun hp => outcome_placed s (ho hp) _ _ _ _ _⟩

omit ho in
theorem decideInFlight : (s.decideInFlight off d).tidy p := ⟨hs, fun _ i hi => by cases List.mem_singleton.mp hi; trivial⟩

end

omit hs in
theorem settle {r : Decision} (hr : r.tidy p) : (s.settle r).tidy p := by
  obtain ⟨state, items⟩ := hr
  unfold State.settle
  dsimp only
  exact walkerRun (setToPlace (state.finish s) items)

theorem decideStep (applies : Half → Desc → Bool) {decision : State → Half → Desc → Decision}
    (h : ∀ t off d, t.tidy p → (p.placed → validPoolOffset off.toNat = true) → (decision t off d).tidy p) :
    (s.decideStep applies decision).tidy p := by
  unfold State.decideStep
  split
  · exact hs
  · rename_i off d hd
    split
    · refine settle (h _ _ _ hs.enterDeciding fun hp => ?_)
      unfold State.fetchedDesc at hd
      split at hd
      · cases hd
      · split at hd
        · rename_i hc _
          cases hd
          exact hs.currentDesc hp _ hc
        · cases hd
    · exact hs

end State.tidy

end Sys2Proof.Machine
end


section
/-!
SUPPORT. The bounds of the tables and the places of the postings (O7, O14), sixth part: the answers, the scan link, the commands, the
controller cycles, the ticks and the reset input.
-/

namespace Sys2Proof.Machine

open Sys2Proof

/-- The cold state is within every bound, and idle. -/
theorem State.tidy_reset (p : Assumed) : State.reset.tidy p := by
  obtain ⟨path, descs⟩ := (State.placedOk_iff _).mp State.placedOk_reset
  refine ⟨fun _ => resetIsSound.queue, fun _ => resetIsSound.bounds, fun _ => path, fun _ => descs, fun m =>
    ⟨fun _ => State.linksOk_reset m, fun _ => State.requestsOk_reset.queued m, fun _ => State.requestsOk_reset.once m,
     fun _ => State.requestsOk_reset.sent m, fun _ _ _ => ?_⟩⟩
  rw [State.link_reset]
  exact ⟨rfl, rfl⟩

/-- An entry with bytes of one of its words replaced lies where it did. -/
theorem Posting.mergeAt_placed {e : Posting} (h : e.placed) (o : Half) (en : BitVec 4) (data : Word) : (e.mergeAt o en data).placed := by
  unfold Posting.mergeAt
  split
  · split
    · exact h
    · iterate 3
        split
        · exact h
      exact h
  · exact h

namespace State.tidy

variable {p : Assumed} {s t : State} (hs : s.tidy p)
include hs

/-! ### The answers (R105 to R121) -/

theorem complete (x : Slot) (hd : p.placed → validDesc x.desc) : (s.complete x).tidy p := by
  unfold State.complete
  dsimp only
  refine rerunDeferred (handOver ?_ fun hp => ?_)
  · split
    · exact hs.toFree _ []
    · exact (hs.dropTransition x.handle).setChan_same (.inl rfl)
  · unfold State.doneLater
    dsimp only
    split
    · rename_i d hx
      exact outcome_placed s (hd hp d hx) _ _ _ _ _
    · split
      · exact fun i hi => by cases List.mem_singleton.mp hi; trivial
      · exact nofun

theorem rampAnswer {k : SlotId} (hk : s.unnamed p k) (setting : Setting) (ok : Bool) : (s.rampAnswer k setting ok).tidy p := by
  unfold State.rampAnswer
  split
  · exact hs
  · rename_i x hx
    split
    · dsimp only
      have applied : (s.setChan x.handle { s.chan x.handle with applied := setting, unconfirmed := false }).tidy p :=
        hs.setChan_same (.inl rfl)
      split
      · exact applied.complete x fun hp => hs.slotDesc hp hx
      · exact applied.leaveSent hk
    · exact hs.leaveSent hk

theorem channelAnswer (h : Handle) (m : SettingMsg) (ok : Bool) : (s.channelAnswer h m ok).tidy p := by
  unfold State.channelAnswer
  dsimp only
  split
  · split
    · exact hs.setChan_same (.inl rfl)
    · exact hs
  · exact hs.setChan_same (.inl rfl)
  · exact hs

theorem classAnswer {o : Outstanding} (ho : ∀ k, o.bind = .slot k → s.unnamed p k) (ok : Bool) : (s.classAnswer o ok).tidy p := by
  unfold State.classAnswer
  split
  · rename_i k hb
    exact hs.rampAnswer (ho k hb) _ ok
  · exact hs.channelAnswer _ _ ok
  · exact hs

theorem faultAnswer (m : SiteId) (ok : Bool) : (s.faultAnswer m ok).tidy p := by
  unfold State.faultAnswer
  split
  · exact hs.clearModFault m
  · exact hs.raiseModFault m

theorem busy (m : SiteId) : (s.busy m).tidy p :=
  hs.setLink_within (Link.within.withOut _ (fun _ => Nat.le_refl _) fun _ _ h => by cases h)

/-- While an answer is taken the slot of its message is on no link. -/
theorem unnamed_busy {m : SiteId} {o : Outstanding} (ho : (s.link m).out = some o) {k : SlotId} (hk : o.bind = .slot k) :
    (s.busy m).unnamed p k := by
  intro hr
  obtain ⟨x, hx, hm, hd⟩ := (hs.link m).sent hr o k ho hk
  refine (hs.busy m).unnamed_of_dest (x := x) hx (fun _ => ?_) hr
  unfold State.busy
  rw [hm, State.link_setLink_self]
  rintro (hq | ⟨o', ho', hb⟩)
  · obtain ⟨y, hy, -, hqueued⟩ := (hs.link m).queued hr k hq
    cases hx.symm.trans hy
    rw [hd] at hqueued
    cases hqueued
  · obtain ⟨_, _, rfl⟩ := Option.map_eq_some_iff.mp ho'
    cases hb

/-- A message is abandoned; its module is then served only if nothing waits. -/
theorem abandonMessage {m : SiteId} (hm : ¬p.served m) : (s.abandonMessage m).tidy p := by
  have hl := hs.link m
  refine hs.setLink ⟨fun hp => ?_, hl.queued, hl.once, fun _ _ _ => nofun, fun _ h => absurd h hm⟩
  obtain ⟨levels, shutters, -⟩ := hl.bounded hp
  exact ⟨levels, shutters, nofun⟩

theorem closeAnswer (before : State) (m : SiteId) : (State.closeAnswer before s m).tidy p := by
  have finished := hs.finish before
  unfold State.closeAnswer
  dsimp only
  generalize State.finish before s = u at finished ⊢
  exact kick ((finished.but m).abandonMessage fun h => h.2 rfl)

theorem messageEnds (m : SiteId) (ok : Bool) : (s.messageEnds m ok).tidy p := by
  unfold State.messageEnds
  split
  · exact hs
  · rename_i o ho
    exact (((hs.busy m).classAnswer (fun _ hk => hs.unnamed_busy ho hk) ok).faultAnswer m ok).closeAnswer s m

theorem takeAck (l : SiteId) (m q o : Byte) : (s.takeAck l m q o).tidy p := by
  unfold State.takeAck
  split
  · exact hs
  · split
    · exact hs
    · split
      · exact hs.messageEnds l _
      · exact hs

theorem ackExpires (m : SiteId) : (s.ackExpires m).tidy p := by
  unfold State.ackExpires
  split
  · exact hs.messageEnds m false
  · exact hs

theorem pacingExpires (k : SlotId) : (s.pacingExpires k).tidy p := by
  unfold State.pacingExpires
  split
  · rename_i h
    obtain ⟨-, due⟩ := h
    cases hx : s.slot k with
    | none => rw [hx] at due; cases due
    | some x =>
      rw [hx] at due
      have hd : x.drive = .pacing 0 := of_decide_eq_true due
      exact hs.placeRamp (hs.unnamed_of_drive hx (by rw [hd]; nofun) (by rw [hd]; nofun))
  · exact hs

theorem holdOffExpires (n : SiteId) : (s.holdOffExpires n).tidy p := by
  unfold State.holdOffExpires
  split
  · exact (hs.expireHoldOff n).finish s
  · exact hs

/-! ### The scan link (R46 to R48) -/

theorem offerFrame (i : TapId) (b : Bool) : (s.offerFrame i b).tidy p := by
  unfold State.offerFrame
  dsimp only
  have judged : (if b then s.judgeMonStale (tapSite i) else s).tidy p := by
    split
    · exact hs.judgeMonStale _
    · exact hs
  split
  · exact (judged.judgeIngress _).due _
  · exact judged.levelLoop _

theorem storeFrame (i : TapId) (f : List Byte) : (s.storeFrame i f).tidy p := by
  unfold State.storeFrame
  dsimp only
  split <;> exact hs.setTap i _

theorem goodFrame (i : TapId) (f : List Byte) : (s.goodFrame i f).tidy p := by
  unfold State.goodFrame
  dsimp only
  split
  · exact ((hs.storeFrame i f).offerFrame i _).finish s
  · exact hs.storeFrame i f

theorem endFrame (f : List Byte) : (s.endFrame f).tidy p := by
  unfold State.endFrame
  dsimp only
  split
  · exact hs
  · exact hs
  · refine goodFrame ?_ _ _
    exact hs

theorem scanStep (b : Byte) : (s.scanStep b).tidy p := by
  unfold State.scanStep State.takeByte
  split
  · exact hs
  · split
    · dsimp only
      split
      · exact hs.endFrame _
      · exact hs
    · split
      · exact hs
      · exact hs

theorem staleExpires (i : TapId) : (s.staleExpires i).tidy p := by
  unfold State.staleExpires
  split
  · exact ((hs.setTap i _).judgeMonStale _).finish s
  · exact hs

/-! ### Commands and control cells (R60 to R64, R168) -/

theorem commandGo (x : BitVec 24) : (s.commandGo x).1.tidy p := by
  unfold State.commandGo
  split
  · exact hs
  · rename_i hx
    have valid : validPoolOffset (x.setWidth 16).toNat = true := by
      have hv : validPoolOffset x.toNat = true := by simpa using hx
      obtain ⟨-, -, high⟩ := (validPoolOffset_iff _).mp hv
      rwa [BitVec.toNat_setWidth, Nat.mod_eq_of_lt (by omega)]
    dsimp only
    split
    · exact hs.startWalk (fun _ => valid) hs.headsLength hs.headsValid
    · split
      · rename_i hlt
        refine hs.setWalker (w := { s.walker with heads := s.walker.heads ++ [x.setWidth 16] })
          (fun _ => ?_) hs.toPlacePlaced hs.currentDesc
          fun hp => List.forall_mem_append.mpr ⟨hs.headsValid hp, by simpa using valid⟩
        rw [List.length_append]
        exact hlt
      · exact hs

theorem commandHalt : s.commandHalt.1.tidy p := by
  unfold State.commandHalt
  split
  · exact hs
  · split
    · exact hs
    · exact hs.setWalker (w := { s.walker with heads := [], halt := true }) (fun _ => Nat.zero_le 4)
        hs.toPlacePlaced hs.currentDesc fun _ => nofun

theorem freezes (v : Bool) (l : List SiteId) : (l.foldl (State.setFreeze v) s).tidy p := by
  rw [freezes_only]; exact hs

theorem command (code : Byte) (x : BitVec 24) : (s.command code x).1.tidy p := by
  unfold State.command
  split
  · exact hs.commandGo x
  · exact hs.commandHalt
  · unfold State.commandFreeze
    split
    · exact hs
    · dsimp only
      exact (hs.freezes true _).rehold _
  · unfold State.commandThaw
    split
    · exact hs
    · dsimp only
      exact (((hs.freezes false _).rehold _).due _).finish s
  · unfold State.commandEnable
    split
    · exact hs
    · split
      · exact (hs.setSite _ _).joinFetch _
      · exact hs
  · unfold State.commandDisable
    split
    · exact hs
    · split
      · exact hs
      · exact hs.disableSite _
  · unfold State.commandReload
    split
    · exact hs
    · split
      · exact hs.reloadSite _
      · exact hs
  · exact hs

theorem offerConsumer (v : Half) : (s.offerConsumer v).tidy p := by
  unfold State.offerConsumer
  split <;> exact hs

theorem controlWrite (o : Nat) (w : Word) : (s.controlWrite o w).tidy p := by
  unfold State.controlWrite
  split
  · exact hs.command _ _
  · split
    · exact hs.offerConsumer _
    · iterate 6
        split
        · exact hs
      exact hs

/-! ### Controller cycles and the Arbiter (R166 to R179) -/

theorem busAccess (c : BusCycle) : (s.busAccess c).tidy p := by
  unfold State.busAccess
  split <;> exact hs

theorem cellWrite (o : Nat) (w : Word) {effect : State → State} (h : ∀ {t}, t.tidy p → (effect t).tidy p) :
    (s.cellWrite o w effect).tidy p := by
  unfold State.cellWrite
  dsimp only
  split
  · exact hs.busAccess _
  · refine h ?_
    exact hs

theorem viewRead (o : Nat) (en : BitVec 4) : (s.viewRead o en).tidy p := by
  unfold State.viewRead
  dsimp only
  split
  · exact hs
  · unfold State.clearSticky
    split
    · split <;> exact hs
    · exact hs

theorem mergeQueued (o : Nat) (en : BitVec 4) (data : Word) : (s.mergeQueued o en data).tidy p := by
  refine ⟨fun hq => ?_, hs.bounds, fun hp => ?_, hs.descs, hs.link⟩
  · obtain ⟨length, addrs⟩ := hs.queue hq
    have same : (s.mergeQueued o en data).queue.map Posting.addr = s.queue.map Posting.addr := by
      show (s.queue.map _).map Posting.addr = _
      rw [List.map_map]
      exact List.map_congr_left fun e _ => (e.mergeAt_facts _ _ _).1
    exact ⟨(List.length_map ..).trans_le length, same ▸ addrs⟩
  · obtain ⟨flight, queue, rest⟩ := hs.path hp
    exact ⟨flight, List.forall_mem_map.mpr fun e he => Posting.mergeAt_placed (queue e he) _ _ _, rest⟩

theorem windowWrite (o : Nat) (c : BusCycle) : (s.windowWrite o c).tidy p := by
  have merged : ((s.holdCycle c).mergeQueued o c.enables c.data).tidy p := mergeQueued (s := s.holdCycle c) hs _ _ _
  unfold State.windowWrite
  split
  · exact hs
  · dsimp only
    split
    · exact merged.controlWrite o _
    · exact merged

theorem windowRead (o : Nat) (c : BusCycle) : (s.windowRead o c).tidy p := by
  unfold State.windowRead
  split
  · exact hs
  · split
    · exact hs.viewRead o _
    · split
      · split <;> exact hs
      · exact hs

theorem arrive (c : BusCycle) : (s.arrive c).tidy p := by
  unfold State.arrive
  split
  · exact hs.busAccess c
  · split
    · exact hs
    · split
      · exact hs.windowWrite _ c
      · exact hs.windowRead _ c

/-- The fairness count is written, and of the port nothing else that is bounded (R177). -/
theorem setPort {q : Port} (h : p.bounds → q.fairness ≤ 8) : ({ s with port := q } : State).tidy p := by
  refine ⟨hs.queue, fun hb => ?_, hs.path, hs.descs, hs.link⟩
  obtain ⟨heads, -, rest⟩ := hs.bounds hb
  exact ⟨heads, h hb, rest⟩

theorem grant : s.grant.tidy p := by
  rcases s.grant_cases with h | h | h | h <;> rw [h]
  · exact hs
  · unfold State.grantController
    split
    · exact hs
    · refine busAccess (hs.setPort fun _ => ?_) _
      show (if s.partWaits then _ else _) ≤ 8
      split
      · exact Nat.min_le_left 8 _
      · exact Nat.zero_le 8
  · unfold State.grantBurst
    split
    · exact hs
    · rename_i rest _
      exact hs.setPort (q := s.port.grantPart .walkerBurst rest) fun _ => Nat.zero_le 8
    · rename_i rest _
      exact hs.setPort (q := s.port.grantPart .setupBurst rest) fun _ => Nat.zero_le 8
  · exact hs.setPort (q := s.port.grantPart .posting s.port.requests) fun _ => Nat.zero_le 8

theorem sramWrites (l : List (Nat × Word)) : (s.sramWrites l).tidy p :=
  foldl (f := fun (t : State) (w : Nat × Word) => t.sramPut w.1 w.2) (fun _ ht => ht) l hs

theorem leaveFlight (e : Posting) : (s.leaveFlight e).tidy p := by
  unfold State.leaveFlight
  split
  · exact hs
  · dsimp only
    split
    · refine ⟨hs.queue, fun hb => ?_, fun hp => ?_, hs.descs, hs.link⟩
      · obtain ⟨heads, fairness, flight, fetch⟩ := hs.bounds hb
        exact ⟨heads, fairness, flight.filter _, fetch⟩
      · obtain ⟨flight, rest⟩ := hs.path hp
        exact ⟨fun o ho => flight o (List.mem_of_mem_filter ho), rest⟩
    · exact hs

theorem drain : s.drain.tidy p := by
  unfold State.drain
  split
  · exact hs
  · split
    · exact hs
    · rename_i e rest he
      have written := hs.sramWrites e.writes
      refine State.tidy.leaveFlight ?_ e
      have queue : (s.sramWrites e.writes).queue = e :: rest := 
        (foldl_keeps (fun (t : State) (w : Nat × Word) => t.sramPut w.1 w.2) State.queue (fun _ _ => rfl) _ s).trans he
      refine ⟨fun hq => ?_, written.bounds, fun hp => ?_, written.descs, written.link⟩
      · obtain ⟨length, addrs⟩ := written.queue hq
        rw [queue] at length addrs
        exact ⟨Nat.le_of_succ_le length, (List.nodup_cons.mp addrs).2⟩
      · obtain ⟨flight, placed, others⟩ := written.path hp
        rw [queue] at placed
        exact ⟨flight, fun x hx => placed x (List.mem_cons_of_mem e hx), others⟩

/-! ### Ticks and the reset input (R1, R180) -/

theorem tickSlot (k : SlotId) : (s.tickSlot k).tidy p := by
  unfold State.tickSlot
  split
  · exact hs
  · rename_i x hx
    split
    · rename_i hd
      exact hs.redrive (hs.unnamed_of_drive hx (by rw [hd]; nofun) (by rw [hd]; nofun)) hx rfl
    all_goals exact hs

theorem tickLink (m : SiteId) : (s.tickLink m).tidy p :=
  hs.setLink_within (Link.within.withOut _ (fun o => Nat.sub_le o.timer 1) fun _ _ h => h)

theorem tickOnce : s.tickOnce.tidy p := by
  unfold State.tickOnce
  split
  · exact hs
  · have slots := foldl (f := State.tickSlot) (fun k ht => ht.tickSlot k) allSlots (s := { s with tick := s.tick + 1 }) hs
    have links := foldl (f := State.tickLink) (fun m ht => ht.tickLink m) allSites slots
    have taps := foldl (f := State.tickTap) (fun i ht => ht.setTap i _) allTaps links
    exact foldl (f := State.tickCond) (fun n ht => ht.setCond n _) allSites taps

theorem abandonAll (hp : ∀ m, ¬p.served m) (waiting : List BusCycle) : (s.abandonAll waiting).tidy p := by
  have passed : (waiting.foldl State.busAccess { s with inReset := true }).tidy p :=
    foldl (fun c ht => ht.busAccess c) waiting (s := { s with inReset := true }) hs
  have messages := foldl (f := State.abandonMessage) (fun m ht => ht.abandonMessage (hp m)) allSites passed
  unfold State.abandonAll
  dsimp only
  generalize allSites.foldl State.abandonMessage _ = u at messages ⊢
  refine ⟨fun _ => ⟨Nat.zero_le 32, List.nodup_nil⟩, fun hb => ?_, fun hq => ?_, messages.descs, messages.link⟩
  · obtain ⟨-, fairness, flight, -⟩ := messages.bounds hb
    exact ⟨Nat.zero_le 4, fairness, flight, List.nodup_nil⟩
  · obtain ⟨flight, -⟩ := messages.path hq
    exact ⟨flight, nofun, nofun, nofun, validDesc_none, nofun⟩

theorem assertReset (hp : ∀ m, ¬p.served m) (begun : Nat) : (s.assertReset begun).tidy p := by
  unfold State.assertReset
  split
  · exact hs
  · split
    · rename_i q _ _ _
      exact abandonAll (hs.sramWrites (q.writes.take begun)) hp s.port.waiting
    · exact hs.abandonAll hp s.port.waiting

theorem releaseReset (straps : BitVec 2) : (s.releaseReset straps).tidy p := by
  unfold State.releaseReset
  split
  · exact State.tidy_reset p
  · exact hs

/-! ### Every command -/

theorem exec {c : Instr} (h : exec c s = .next t) (hp : (∃ b, c = .resetAssert b) → ∀ m, ¬p.served m) : t.tidy p := by
  cases c <;> cases h
  case resetAssert begun => exact hs.assertReset (hp ⟨begun, rfl⟩) begun
  case resetRelease straps => exact hs.releaseReset straps
  case tick => exact hs.tickOnce
  case go x => exact hs.cellWrite _ _ fun ht => ht.command 1 x
  case halt x => exact hs.cellWrite _ _ fun ht => ht.command 2 x
  case freeze x => exact hs.cellWrite _ _ fun ht => ht.command 3 x
  case thaw x => exact hs.cellWrite _ _ fun ht => ht.command 4 x
  case enable x => exact hs.cellWrite _ _ fun ht => ht.command 5 x
  case disable x => exact hs.cellWrite _ _ fun ht => ht.command 6 x
  case reload x => exact hs.cellWrite _ _ fun ht => ht.command 7 x
  case unknownCommand code x => exact hs.cellWrite _ _ fun ht => ht.command code x
  case consumerUpdate v => exact hs.cellWrite _ _ fun ht => ht.offerConsumer _
  case thresholdWrite cell v => exact hs.cellWrite _ _ fun ht => ht.controlWrite _ v
  case maskWrite cell v => exact hs.cellWrite _ _ fun ht => ht.controlWrite _ v
  case probeWrite v => exact hs.cellWrite _ _ fun ht => ht.controlWrite _ v
  case stickyWordRead w en =>
    split
    · exact hs.busAccess _
    · exact hs.viewRead _ en
  case suppressedWrite o en data => exact hs.arrive _
  case controllerCycle dir a en data => exact hs.arrive _
  case lockAssert =>
    unfold State.assertLock
    split <;> exact hs
  case lockDeassert => exact hs
  case lockBroken =>
    unfold State.breakLock
    split
    · refine handOver_record ?_ _
      exact hs
    · exact hs
  case arbiterGrant => exact hs.grant
  case setup => exact hs.decideStep _ fun _ _ d ht ho => ht.decideSetup ho d
  case adopt => exact hs.decideStep _ fun _ _ d ht ho => ht.decideAdopt ho d
  case retarget => exact hs.decideStep _ fun _ _ d ht ho => ht.decideRetarget ho d
  case release => exact hs.decideStep _ fun _ _ d ht ho => ht.decideRelease ho d
  case mark => exact hs.decideStep _ fun _ _ d ht ho => ht.decideMark ho d
  case badKind => exact hs.decideStep _ fun _ _ d ht ho => ht.refuse ho d _
  case inFlightRefusal => exact hs.decideStep _ fun _ _ d ht _ => ht.decideInFlight d
  case setupFetchComplete => exact hs.setupDone
  case postingDrain => exact hs.drain
  case walkerPostingPlace =>
    unfold State.resumeWalker
    split
    · exact hs.walkerRun
    · exact hs
  case handoverPlace =>
    split
    · exact hs
    · exact hs.placeHandOver
  case scanByte b => exact hs.scanStep b
  case byteGapExpiry =>
    unfold State.abandonFrame
    split <;> exact hs
  case staleTimerExpiry tap => exact hs.staleExpires tap
  case ackReceived l m q o => exact hs.takeAck l m q o
  case ackTimeout m => exact hs.ackExpires m
  case pacingExpiry k => exact hs.pacingExpires k
  case holdOffExpiry n => exact hs.holdOffExpires n

end State.tidy

end Sys2Proof.Machine
end


section
/-!
SUPPORT. The bounds of the tables and the places of the postings (O7, O14), last part: a step, what becomes of the reset input, and the two
obligations.
-/

namespace Sys2Proof.Machine

open Sys2Proof

/-- A step keeps what is assumed, unless idle modules are assumed served and the reset input is asserted. -/
theorem State.tidy.step {p : Assumed} {s t : State} (hs : s.tidy p) (h : step s = .next t) (hp : ∀ m, ¬p.served m) : t.tidy p := by
  unfold Machine.step at h
  split at h
  · cases h; exact hs
  · rename_i c rest _
    exact State.tidy.exec (s := { s with pending := rest }) hs h fun _ => hp

/-! ### The Posting Queue (O7) -/

/-- An entry's words lie at its address and within its slot of the ring, a word posting's at its address alone. -/
theorem Posting.placed.mem_offsets {e : Posting} (he : e.placed) {o : Nat} (ho : o ∈ e.offsets) :
    (e.addr.toNat < 0x8000 ∧ o = e.addr.toNat) ∨
    (0x8000 ≤ e.addr.toNat ∧ e.addr.toNat % 16 = 0 ∧ e.addr.toNat ≤ o ∧ o ≤ e.addr.toNat + 12) := by
  cases e with
  | word a w f =>
    obtain ⟨-, -, high⟩ := he
    exact .inl ⟨high, List.mem_singleton.mp ho⟩
  | record a w0 w1 w2 w3 =>
    obtain ⟨aligned, low, -⟩ := he
    refine .inr ⟨low, aligned, ?_⟩
    change o ∈ [a.toNat, a.toNat + 4, a.toNat + 8, a.toNat + 12] at ho
    change a.toNat ≤ o ∧ o ≤ a.toNat + 12
    simp only [List.mem_cons, List.not_mem_nil, or_false] at ho
    omega

theorem Posting.offsets_nodup (e : Posting) : e.offsets.Nodup := by
  cases e with
  | word a w f => exact List.nodup_singleton _
  | record a w0 w1 w2 w3 =>
    change [a.toNat, a.toNat + 4, a.toNat + 8, a.toNat + 12].Nodup
    simp

/-- Entries of two addresses hold no word in common. -/
theorem Posting.placed.disjoint {e f : Posting} (he : e.placed) (hf : f.placed) (hne : e.addr ≠ f.addr) :
    List.Disjoint e.offsets f.offsets := by
  intro o ho hq
  have apart : e.addr.toNat ≠ f.addr.toNat := fun h => hne (BitVec.eq_of_toNat_eq h)
  have he := he.mem_offsets ho
  have hf := hf.mem_offsets hq
  omega

/-- Settles O7: the queue and the places are kept by every operation, and entries at places of their kind overlap only at one address. -/
theorem stepKeepsPostingQueue : Obligations.StepKeepsPostingQueue := by
  refine ⟨fun s t hs h => ?_, fun s t hs h => ?_, fun s hq hp => ?_⟩
  · have start := (s.tidy_iff (p := { Assumed.nothing with queue := True }) fun _ => not_false).mpr
      ⟨fun _ => hs, nofun, nofun, nofun, nofun⟩
    exact (start.step h fun _ => not_false).queue trivial
  · have start := (s.tidy_iff (p := { Assumed.nothing with placed := True }) fun _ => not_false).mpr
      ⟨nofun, nofun, fun _ => hs, nofun, nofun⟩
    have done := start.step h fun _ => not_false
    exact t.placedOk_iff.mpr ⟨done.path trivial, done.descs trivial⟩
  · obtain ⟨-, addrs⟩ := hq
    refine List.nodup_flatMap.mpr ⟨fun e _ => e.offsets_nodup, ?_⟩
    exact (List.pairwise_map.mp addrs).imp_of_mem fun he hf hne => (hp.queue _ he).disjoint (hp.queue _ hf) hne

/-! ### The bounded tables (O14) -/

theorem State.assertReset_inReset (s : State) (begun : Nat) : (s.assertReset begun).inReset = true := by
  cases hs : s.inReset with
  | false => exact ((State.sameButMemory_iff _ _).mp (State.sameButMemory_assertReset hs begun)).1
  | true => unfold State.assertReset; rw [if_pos hs]; exact hs

/-- Only the release ends a reset (R180). -/
theorem exec_inReset {c : Instr} {s t : State} (h : exec c s = .next t) (hs : s.inReset = true) :
    t.inReset = true ∨ ∃ straps, t = s.releaseReset straps := by
  by_cases hassert : ∃ b, c = .resetAssert b
  · obtain ⟨b, rfl⟩ := hassert
    cases h
    exact .inl (s.assertReset_inReset b)
  by_cases hrelease : ∃ straps, c = .resetRelease straps
  · obtain ⟨straps, rfl⟩ := hrelease
    cases h
    exact .inr ⟨straps, rfl⟩
  by_cases htick : c = .tick
  · subst htick
    cases h
    left
    show s.tickOnce.inReset = true
    unfold State.tickOnce
    rw [if_pos hs]
    exact hs
  · obtain ⟨kept, -⟩ := exec_memoryOnly h htick (fun b hb => hassert ⟨b, hb⟩) fun b hb => hrelease ⟨b, hb⟩
    obtain ⟨reset, -⟩ := (s.sameButMemory_iff t).mp kept
    exact .inl (reset.trans hs)

/-- The requests and the served modules, assumed together. -/
def Assumed.servedRequests : Assumed := { Assumed.nothing with requests := True, served := fun _ => True }

theorem State.tidy_servedRequests_iff (s : State) :
    s.tidy .servedRequests ↔ s.requestsOk ∧ ∀ m, (s.link m).out = none → (s.link m).shutters = [] ∧ (s.link m).queue = [] :=
  s.tidy_served_iff trivial (fun _ => trivial) not_false not_false not_false not_false

/-- Every command leaves no module idle with something waiting (R114). -/
theorem exec_served {c : Instr} {s t : State} (hr : s.requestsOk) (hs : s.served) (h : exec c s = .next t) : t.served := by
  intro ht
  suffices t.tidy .servedRequests from (t.tidy_servedRequests_iff.mp this).2
  cases hreset : s.inReset with
  | false =>
    refine State.tidy.exec (s.tidy_servedRequests_iff.mpr ⟨hr, hs hreset⟩) h ?_
    rintro ⟨b, rfl⟩
    cases h
    exact absurd (s.assertReset_inReset b) (ht ▸ Bool.false_ne_true)
  | true =>
    obtain hin | ⟨straps, rfl⟩ := exec_inReset h hreset
    · exact absurd (ht.symm.trans hin) Bool.false_ne_true
    · unfold State.releaseReset
      rw [if_pos hreset]
      exact State.tidy_reset _

/-- RAMP requests are of different slots, and everything else that waits is a LEVEL request (R117). -/
theorem settingQueue_length {s : State} (hl : s.linksOk) (hr : s.requestsOk) (m : SiteId) :
    (rampSlots (s.link m).queue).length ≤ 16 ∧ (s.link m).queue.length ≤ 32 := by
  have ramps : (rampSlots (s.link m).queue).length ≤ 16 := (hr.once m).length_le_card.trans_eq (Fintype.card_fin 16)
  obtain ⟨levels, -⟩ := hl m
  have length := length_eq_ramps_add_levels (s.link m).queue
  exact ⟨ramps, by omega⟩

/-- Settles O14: each bound is kept by every operation, and the requests of the slots with the modules they are queued at. -/
theorem stepKeepsTableBounds : Obligations.StepKeepsTableBounds := by
  refine ⟨fun s t hs h => ?_, fun s t hs h => ?_, fun s t hs h => ?_, fun s t hr hs h => ?_, fun s hl hr => settingQueue_length hl hr⟩
  · have start := (s.tidy_iff (p := { Assumed.nothing with bounds := True }) fun _ => not_false).mpr
      ⟨nofun, fun _ => hs, nofun, nofun, nofun⟩
    exact (start.step h fun _ => not_false).bounds trivial
  · have start := (s.tidy_iff (p := { Assumed.nothing with links := True }) fun _ => not_false).mpr
      ⟨nofun, nofun, nofun, fun _ => hs, nofun⟩
    exact fun m => ((start.step h fun _ => not_false).link m).bounded trivial
  · have start := (s.tidy_iff (p := { Assumed.nothing with requests := True }) fun _ => not_false).mpr
      ⟨nofun, nofun, nofun, nofun, fun _ => hs⟩
    obtain ⟨-, -, -, -, requests⟩ := (t.tidy_iff fun _ => not_false).mp (start.step h fun _ => not_false)
    exact requests trivial
  · unfold step at h
    split at h
    · cases h; exact hs
    · rename_i c rest _
      refine exec_served (s := { s with pending := rest }) ?_ hs h
      exact ⟨hr.queued, hr.once, hr.sent⟩

end Sys2Proof.Machine
end
